-- ==== Sys2Proof/Word.lean ====
section
/-! DEFINITION. The word types of the module: bytes, 16-bit halves and the 32-bit register word
(00_scope.md, "Conventions"). -/

namespace Sys2Proof

/-- A register word: all registers are 32 bits wide (00_scope.md, "Registers"). -/
abbrev Word := BitVec 32

/-- A half of a register word, one PAR16 transfer (R41). -/
abbrev Half := BitVec 16

/-- A byte of a ring entry, a payload, a frame or a record (R11). -/
abbrev Byte := BitVec 8

end Sys2Proof
end

