-- ==== Sys2Proof/Syntax.lean ====
section
/-! DEFINITION. The commands of the block: one constructor of Instr per row of spec/opcode_table.json,
in the table's order, with the operands that the outside world brings to the step. -/

namespace Sys2Proof

/-- Where the Teller firmware fetches the command from: the CMD ring Q0, the URG ring Q1 (R55), or the
tunnel queue Q9 for a command that the peer module forwarded (R371). -/
inductive Src where
  | cmd | urg | peer
deriving DecidableEq, Repr

/-- One host write cycle. PAR16 moves one half of a word with its byte enables (R43; `ble`, `bhe` true:
that byte lane is enabled); QSPI moves a whole word (R46). -/
inductive WAcc where
  | par16 (hi : Bool) (data : Half) (ble bhe : Bool)
  | qspi (data : Word)
deriving DecidableEq, Repr

/-- One host read cycle: a PAR16 half (R42) or one word of a QSPI READ (R46). -/
inductive RAcc where
  | par16 (hi : Bool)
  | qspi
deriving DecidableEq, Repr

/-- A host access, read or write (R35). -/
inductive Acc where
  | read (a : RAcc)
  | write (a : WAcc)
deriving DecidableEq, Repr

/-- A CAN frame as it stands on the bus (R314, R325). `data` holds the bytes that the DLC carries. -/
structure CanFrame where
  xtd  : Bool
  id   : BitVec 29
  rtr  : Bool
  fdf  : Bool
  brs  : Bool
  esi  : Bool
  dlc  : BitVec 4
  data : List Byte
deriving DecidableEq, Repr

/-- How a transmission attempt ends (R338, R344). `failed` carries the bit position of the error, counted
from the SOF as 0, and whether it is a clash error of R344. -/
inductive AttemptEnd where
  | sent (tdcv : BitVec 7)
  | lostArbitration
  | failed (clash : Bool) (pos : BitVec 10)
deriving DecidableEq, Repr

/-- A bus error seen by a controller (R342): the error code of CAN_ERR.lec, the phase it fell in, whether
the controller was transmitting, and whether the error counts 8 in the receive counter. -/
structure CanErrorInfo where
  code      : BitVec 3
  dataPhase : Bool
  transmitting : Bool
  heavy     : Bool
deriving DecidableEq, Repr

/-- A field channel that crosses the isolation barrier through its own coupler (R304). -/
inductive Channel where
  | input (n : Fin 48)
  | capture (n : Fin 4)
  | output (n : Fin 32)
  | testpulse (n : Fin 4)
deriving DecidableEq, Repr

/-- How a test-pulse output fails (R287). -/
inductive TpoFaultKind where
  | overload | pulse
deriving DecidableEq, Repr

/-- Which supply is out of range (R394). -/
inductive SupplyKind where
  | v5 | coreRail | vbatLow | vfOver | vddLow
deriving DecidableEq, Repr

/-- The internal tamper monitors (R501). -/
inductive MonitorKind where
  | voltage | clock | temperature
deriving DecidableEq, Repr

/-- What the read-back of a strongroom wipe finds, first try and repeat (R436). -/
structure WipeResult where
  firstOk  : Bool
  secondOk : Bool
deriving DecidableEq, Repr

/-- One output's result in the proof test (R269): its path time in Till counts, whether the readback fell
within 10 us, and whether its EDM read as required. -/
structure ProofOutcome where
  path       : BitVec 16
  readbackOk : Bool
  edmOk      : Bool
deriving DecidableEq, Repr

/-- What a door learning run measured (R230). -/
structure DoorMeasure where
  travel    : Nat
  mass      : Nat
  fricOpen  : List Nat
  fricClose : List Nat
  programOk : Bool
deriving DecidableEq, Repr

/-- What the tunnel exchange of PAIR brings back (R491): the peer's certificate and report, its answer to
the checks that it makes itself, and its confirmation. -/
structure PairExchange where
  peerTakesPart : Bool
  peerOutputsOff : Bool
  peerKey    : List Byte
  peerReport : List Byte
  peerCert   : List Byte
  oemRoots   : List Byte
  peerAccepts : Bool
  confirmed  : Bool
deriving DecidableEq, Repr

/-- What flash holds in two copies that the boot checks (R268, R441, R476, R517). -/
inductive FlashArea where
  | store | safetySet | repairMap | bootRecord | lifeRecord | pairRecord | loginRecord
deriving DecidableEq, Repr

/-- What the world shows at reset release (R513, R517): the straps, the PLL, and what the boot finds in
the banks and in flash. -/
structure BootEnv where
  role       : BitVec 2
  hostsel    : Bool
  bootslot   : Bool
  pllLocks   : Bool
  xinExt     : Bool
  /-- failing rows found by the boot march, per bank (R440, R441) -/
  failRows   : List (Nat × List Nat)
  /-- flash read errors: slot A, slot B (R478 reason 10) -/
  readErrA   : Bool
  readErrB   : Bool
  /-- copies that the boot finds bad: copy A is false, copy B is true -/
  badCopies  : List (FlashArea × Bool)
  /-- the power fell during a Ledger commit: the commit in progress left a torn slot (R465) -/
  tornCommit : Bool
deriving DecidableEq, Repr

/-- The units of `STAT` displays (R542). -/
inductive StatUnit where
  | fusion | orders | door0 | door1 | safe | can0 | can1 | can2 | can3 | link | power
deriving DecidableEq, Repr

/-- The long commands' target units (R554). -/
inductive LongUnit where
  | paramStore | profileEngine | door (n : Fin 2) | comptroller | can (n : Fin 4) | tunnel
  | bank (k : Fin 27) | ledger | mint | stagingSlot
deriving DecidableEq, Repr

/-- The commands of the block. -/
inductive Instr where
  -- host port (02_teller.md, 01_accounts.md)
  | registerWrite (addr : Nat) (a : WAcc)
  | par16LowHalfWrite (addr : Nat) (data : Half) (ble bhe : Bool)
  | par16ReadWriteConflict
  | rcRegisterRead (addr : Nat) (a : RAcc)
  | snapshotRead (addr : Nat) (a : RAcc)
  | mirrorWindowRead (addr : Nat) (a : RAcc) (sameSample doubleBit : Bool)
  | mirrorWindowWrite (addr : Nat) (a : WAcc)
  | badAddressAccess (addr : Nat) (a : Acc)
  | comptrollerRangeWrite (addr : Nat) (a : WAcc)
  | qspiRead (addr count : Nat)
  | qspiSnap (addr count : Nat)
  | qspiWrite (addr : Nat) (words : List Word) (part : Bool)
  | qspiStatus
  | qspiUnknownCommand (cmd : Byte)
  | accCtlEnWrite (base : Nat) (a : WAcc)
  | accCtlConsolidateWrite (base : Nat) (a : WAcc)
  | accCtlHoldWrite (base : Nat) (a : WAcc)
  | accCtlCntClr (base : Nat) (a : WAcc) (sameCycle : Bool)
  | accFltW1c (base : Nat) (a : WAcc) (stillPresent : Word)
  | tellerCfgWrite (a : WAcc)
  | tellerDbCmd (a : WAcc)
  | tellerDbUrg (a : WAcc)
  | qconsWrite (q : Fin 16) (a : WAcc)
  | irqHoldoffExpiry
  | completionPost
  | resetNotice
  | mirrorUpdate
  -- system and parameter commands (17_commands.md)
  | nop (src : Src)
  | getInfo (src : Src)
  | getStatus (src : Src)
  | softReset (src : Src)
  | setPowerStateRun (src : Src)
  | setPowerStateDoze (src : Src)
  | setPowerStateHush (src : Src)
  | getTelemetry (src : Src)
  | accWalk (src : Src)
  | paramRead (src : Src)
  | paramWrite (src : Src)
  | paramCommit (src : Src) (programOk : Bool)
  | paramDigest (src : Src)
  | paramDefaults (src : Src) (programOk : Bool)
  -- Reckoner configuration (04_reckoner.md)
  | encConfig (src : Src)
  | hallConfig (src : Src)
  | absConfig (src : Src)
  | obsConfig (src : Src)
  | fusionConfig (src : Src)
  | emuConfig (src : Src)
  | capConfig (src : Src)
  | landingLearn (src : Src)
  | learnRunEnd (programOk : Bool)
  -- Standing orders (05_standing_orders.md)
  | landingTableWrite (src : Src)
  | profileSet (src : Src)
  | orderAdd (src : Src)
  | orderCancel (src : Src)
  | orderList (src : Src)
  | driveBind (src : Src)
  | relevelConfig (src : Src)
  -- doors (06_door_ports.md)
  | doorConfig (src : Src)
  | doorLearn (src : Src)
  | doorLearnEnd (n : Fin 2) (m : DoorMeasure)
  | doorOpen (src : Src)
  | doorClose (src : Src)
  | doorReverse (src : Src)
  | doorNudge (src : Src)
  | doorHold (src : Src)
  -- field I/O (08_field_io.md)
  | ioConfig (src : Src)
  | outSet (src : Src)
  | gangSetForm2 (src : Src)
  | gangSetForm4 (src : Src)
  | gangSetDissolve (src : Src)
  | gangSetOn (src : Src)
  | gangSetOff (src : Src)
  | pairConfig (src : Src)
  | testpulseConfig (src : Src)
  -- safety (07_comptroller.md)
  | safeStatus (src : Src)
  | safeRestart (src : Src)
  | safeParamLoad (src : Src)
  | safeAckLockout (src : Src)
  | safeProofTest (src : Src) (outcomes : List ProofOutcome)
  -- CAN (09_can_fd.md)
  | canConfig (src : Src)
  | canAutobaud (src : Src)
  | canRate (n : Fin 4)
  | canObjConfig (src : Src)
  | canFilterSet (src : Src)
  | canTx (src : Src)
  | canRearm (src : Src)
  | canLoopback (src : Src)
  -- link (10_sheic_link.md)
  | linkConfig (src : Src)
  | linkStatus (src : Src)
  | csConnOpen (src : Src)
  | csConnClose (src : Src)
  | tunnelSend (src : Src)
  -- power, banks, Ledger
  | purseSet (src : Src)
  | purseStatus (src : Src)
  | bankState (src : Src)
  | hushKeep (src : Src)
  | marchRun (src : Src)
  | marchDone (words : List Nat)
  | marchResult (src : Src)
  | repairStatus (src : Src)
  | ledgerRead (src : Src)
  | ledgerFreeze (src : Src)
  | ledgerThaw (src : Src)
  | ledgerArchive (src : Src)
  | ledgerReleaseSealed (src : Src)
  -- Mint (14_mint_lifecycle.md)
  | attest (src : Src)
  | attestRead (src : Src)
  | pair (src : Src) (x : PairExchange)
  | pairCheck (src : Src) (peerKey sig : List Byte)
  | lifeSet (src : Src) (wipe : WipeResult)
  | fwStage (src : Src) (readErr : Bool)
  | fwActivateSwitch (src : Src)
  | fwActivateConfirm (src : Src)
  | fwActivateBurn (src : Src)
  | serviceLoginChallenge (src : Src)
  | serviceLoginResponse (src : Src)
  | serviceLoginLogout (src : Src)
  -- Auditor and Shortchange (16_auditor_service.md)
  | auditConfig (src : Src)
  | auditStatus (src : Src)
  | scArm (src : Src)
  | scDisarm (src : Src)
  | longCommandTimeout (u : LongUnit)
  | atomicAdd (w : Fin 2048) (a : WAcc) (busy doubleBit : Bool)
  | atomicSwap (w : Fin 2048) (a : WAcc) (busy doubleBit : Bool)
  | canApSelWrite (n : Fin 4) (a : WAcc)
  | canApRelease (n : Fin 4) (a : WAcc)
  | canApTxreq (n : Fin 4) (a : WAcc)
  | canApAbort (n : Fin 4) (a : WAcc)
  -- feedback inputs (03_feedback_inputs.md)
  | encEdge (n : Fin 3) (a b : Bool)
  | untrustedClear (n : Fin 3)
  | encIndexEdge (n : Fin 3) (z : Bool)
  | encLine (n : Fin 3) (lines : BitVec 3)
  | hallChange (n : Fin 2) (lines : BitVec 3)
  | absRead (n : Fin 2) (dataHigh : Bool)
  | absFrameEnd (n : Fin 2) (frame : BitVec 53)
  | absStale (n : Fin 2)
  | capture (n : Fin 4) (rising : Bool)
  | accSample (idByte : Byte) (bytes : List Byte)
  | accLate
  | emuRepeatEdge (a b z : Bool)
  | emuDriveFault
  -- Reckoner
  | obsUpdate
  | gateTZeroExpiry (ch : Fin 5)
  | fusionUpdate (missed : Bool)
  -- Standing orders engine
  | planTick (missed : Bool)
  | planMissAbort
  | referenceSample
  | startFail
  | startDelayExpiry
  | brakeHoldExpiry
  | relevelBypassTimeout
  | driveRef
  | driveStat
  | driveLost
  -- door engine
  | doorControlPeriod (n : Fin 2) (iu iv iw vbus : BitVec 14)
  | doorOvercurrent (n : Fin 2) (iu iv iw : BitVec 14)
  | doorPowerStageFault (n : Fin 2) (samples : Nat)
  | doorVbusFault (n : Fin 2)
  | doorCoastEnd (n : Fin 2)
  | doorEnableSettle (n : Fin 2)
  | dwellExpiry (n : Fin 2)
  | holdTimeExpiry (n : Fin 2)
  | doorStall (n : Fin 2)
  | doorEnergy (n : Fin 2)
  | contactTimeout (n : Fin 2)
  | doorLockFail (n : Fin 2)
  | nudgePauseExpiry (n : Fin 2)
  | obstructionTimeExpiry (n : Fin 2)
  -- Comptroller
  | safeCycle (path : BitVec 16)
  | sequenceOverrun
  | lockstepMismatch (doubleBit : Bool)
  | edmTimeout (k : Fin 8)
  | reqLost
  | parkDelayExpiry
  | paramCrcCheck
  | proofTestDue
  | supplyCauseClear
  -- field engine
  | inputTick (raw : BitVec 48)
  | pairDisc (k : Fin 8)
  | pairRecover (k : Fin 8)
  | hushInputSample (raw : BitVec 48)
  | tpoPulse (n : Fin 4) (start : Bool)
  | tpoFault (n : Fin 4) (kind : TpoFaultKind)
  | darkPulseSlot (n : Fin 32) (rb : BitVec 32) (before atCheck : List Nat)
  | outOverload (n : Fin 32)
  | outThermal (n : Fin 32)
  | outOpenLoad (n : Fin 32)
  | gangShare (k : Fin 16) (member : Fin 32)
  | couplerLoss (ch : Channel)
  | inrushEnd (id : Fin 256)
  -- Purse, supplies, clocks, power
  | purseDecision (measField measV5 : BitVec 16)
  | purseRestore
  | overMeasure (k : Fin 2)
  | vfSample (v : BitVec 16)
  | supplyFault (kind : SupplyKind) (v : BitVec 16)
  | sensOvercurrent (k : Fin 2)
  | clockWindow (counts : List Nat)
  | vaultXtalStop
  | pllLoss
  | dozeWake
  | hushWake (cause : Fin 10)
  | powerOn (vaultLost : Bool)
  | brownOut
  | borRelease
  | vaultEntry (vbatOk : Bool)
  | nrstLow
  | tellerWatchdogExpiry
  | delayedSoftReset
  | lifeReset
  | resetRelease (env : BootEnv)
  -- CAN controllers
  | canRxFrame (n : Fin 4) (f : CanFrame) (late : Bool)
  | canTxAttemptEnd (n : Fin 4) (e : AttemptEnd)
  | canError (n : Fin 4) (e : CanErrorInfo)
  | canRecover (n : Fin 4)
  | protocolException (n : Fin 4)
  | canLockExpired (n : Fin 4)
  | canWake (n : Fin 4)
  -- link
  | linkFrameTx
  | linkFrameRx (frame : List Byte)
  | linkFrameMissing
  | linkDown
  | linkLossOfSignal
  | linkRateSwitch
  | pairingCheckEnd (peerKey sig : List Byte)
  | tunnelResend
  | csPdu (k : Fin 16) (pdu : List Byte)
  | csWatchdog (k : Fin 16)
  | csSafeReopen (k : Fin 16)
  | csProduce (k : Fin 16)
  -- banks and Ledger
  | bankStall (bank : Fin 27) (prio : Fin 9) (cycles : BitVec 16)
  | srAccessRefused (k : Fin 2)
  | ledgerIntakeArrival (code : BitVec 13) (inst : BitVec 16) (detail : Byte)
  | ledgerCommit (readbackOk : Bool)
  | ledgerErase
  | ledgerEraseDone (ok : Bool)
  | ledgerDrop
  | freezeTimeout
  -- tamper and login
  | tamperInput (n : Fin 2) (wipe : WipeResult)
  | tamperMonitor (kind : MonitorKind) (wipe : WipeResult)
  | loginExpiry
  | loginLockoutExpiry
  | loginChallengeExpiry
  | safeParamStagingExpiry
  -- Auditor
  | clockCrossCheck (devs : List Int)
  | preservingMarchB04 (words : List Nat)
  | b04MarchOverdue
  | preservingMarchRound (words : List Nat)
  | eccScrub (singles : List (Fin 27 × Nat)) (doubles : List (Fin 27 × Nat))
  | doorAdcCalibration (n : Fin 2) (offsets gains : List Int)
  | thresholdSelfCheck (onOff : List (Nat × Nat))
  | telemetrySample (temps : List Int)
  | auditHour
  | flashPatrol (failures : List (Fin 6))
  | paramWearManagement
  | auditLate (act : Fin 11)
  | scDurationExpiry
  | scCanLockHold
  | scBankStall
  -- console
  | consoleByte (b : Byte)
  | help
  | who
  | stat
  | statDisplay
  | consoleDisplayLine
  | io
  | out
  | meter (values : List Int)
  | ledger
  | consolePair
  | life
  | audit
  | auditBanks
  | auditSc
  | consoleLogin
  | loginPlus
  | loginEnd
  | loginOff
  | load
  | loadDataLine
  | loadEndLine (readErr : Bool)
  | commaAlignment
  | canBusIdle (n : Fin 4)
  | canTxAttemptStart (n : Fin 4)
  | vaultXtalResumed
  | boundaryScan (code : BitVec 4) (shift pads : BitVec 145)
  | scCanHoldEnd
  | consoleOutputSent
  | encReceiverSettle (n : Fin 3)
  | slotEraseDone (ok : Bool)
deriving DecidableEq, Repr

end Sys2Proof
end

