-- ==== Sys2Proof/Config.lean ====
section
/-! DEFINITION. What an implementation fixes and what the spec leaves open: constants without a body, so that
every claim holds for each of their values. -/

namespace Sys2Proof.Config

/-- Free values: the n-th value that the spec leaves open in a run (R53 data of a same-sample collision,
values behind a double-bit error; log 13). -/
opaque freeWord : Nat → Word

/-- The observer pole of R127, 2 pi times the bandwidth in Hz, as the firmware rounds it (log 14). -/
opaque omega : Nat → Rat

/-- The coefficient of the first-order high-pass of R144 at a crossover in Hz for 1 us steps (log 14). -/
opaque hpAlpha : Nat → Rat

/-- Patch level n of the running image's version 3.2.n (DEV_VERSION, R7; log 5). -/
opaque patchLevel : Nat

/-- The ratio of a circle's circumference to its diameter as the door firmware rounds it: from 3.141592 to 3.141593 (R208;
log 28). -/
opaque piRest : Fin 1000001
def pi : Rat := 3141592 / 1000000 + (piRest.val : Rat) / 1000000000000

/-- i_q and i_d in mA of three phase currents in mA at an electrical angle in turns (R205; log 28). -/
opaque park : Int → Int → Int → Rat → Int × Int

/-- The square root of R172, R187 and R209 as the firmware rounds it (log 29). -/
opaque sqrt : Rat → Rat

/-- Which of the splits that reach a table entry's rate and sample point the firmware uses: prescaler and
jump width of a nominal (false) or data (true) entry, and the rounding of a sample point that no whole number
of quanta reaches (R322; log 40). -/
opaque rateSplit : Bool → Nat → Nat
opaque rateJump : Bool → Nat → Nat
opaque rateUp : Nat → Bool

/-- What REC takes between 119 and 127 when a frame is received with REC above 127 (ISO 11898-1; log 41). -/
opaque recReturn : Fin 9

/-- SHA-256 of R268 and R558 as a number, first byte most significant (log 50). -/
opaque sha256 : List Byte → BitVec 256

/-- SHA-384 of R477, R486 and R490 as a number, first byte most significant (log 50). -/
opaque sha384 : List Byte → BitVec 384

/-- ECDSA P-384 of R477, R488, R492 and R498: whether a signature (key, message, signature) verifies, and the
signature that the module's identity key makes (log 61). -/
opaque ecdsaOk : List Byte → List Byte → List Byte → Bool
opaque ecdsaSign : List Byte → BitVec 768

/-- LMS of R477 and R488 (log 61): whether a signature verifies, and the module's signature with index q. -/
opaque lmsOk : List Byte → List Byte → List Byte → Bool
opaque lmsSign : Nat → List Byte → BitVec 14176

/-- The 97-byte identity key of this module, its certificate, and the keys and the chain of a device
certificate (R486, R491; log 61). -/
opaque idKey : BitVec 776
opaque deviceCert : List Byte
opaque deviceChain : List Byte → Bool
opaque deviceKey : List Byte → List Byte
opaque deviceLms : List Byte → List Byte

/-- A service certificate (R498; log 61): whether it chains to the root (the OEM root hashes, or none), its key,
its issue generation and the floor that it announces. -/
opaque serviceChain : List Byte → List Byte → Bool
opaque serviceKey : List Byte → List Byte
opaque serviceGen : List Byte → BitVec 16
opaque serviceFloor : List Byte → BitVec 16

/-- The OTP hashes of the Jalyon Gimund keys (R478), and the factory image's svn and header digest (log 62). -/
opaque jgEcdsa : BitVec 384
opaque jgLms : BitVec 256
opaque factorySvn : Fin 129
opaque factoryDigest : BitVec 384

/-- The current in mA that an output channel measures at a Till value (R312; log 74). -/
opaque outCurrent : Nat → Nat → BitVec 12

/-- A sequence register of the Ledger while no record is held (R472, R473; log 74). -/
opaque emptySeq : BitVec 32

/-- Random bytes of the Mint's generator: the n-th challenge (R492, R498; log 61). -/
opaque random : Nat → BitVec 256

/-- The text in which a console command, named first, prints the values that R541 to R546 give it, and the bytes that
end a line of output (log 79). -/
opaque consoleText : String → List Nat → List Byte
opaque eol : List Byte

end Sys2Proof.Config
end

