-- ==== Sys2Proof/Machine/Accounts.lean ====
section
/-! DEFINITION. The accounts of the module: class, instance, place, parent, links and fault bits of every
account (01_accounts.md R12 to R38 and the account paragraphs of each chapter). Accounts that are off the
host map (ORDER slots, message objects, filter lists and elements, R33) have bases of the model's own above
the host window; no host access reaches those numbers but through ACC_WALK and the CAN aperture. -/

namespace Sys2Proof.Machine

/-- A run of like accounts. `fault` masks the ACC_FLT bits that software clears by W1C (R22); `ctl` masks the
RWL class_ctl bits (R17); `sib` and `lastSib` are ACC_LINK.next_sibling of all but the last and of the last
account of the run (R27). The parent of account i is `pbase + pstride * (i / pdiv)`. -/
structure AcctRow where
  base : Nat
  stride : Nat
  count : Nat
  level : Nat
  cls : Nat
  inst0 : Nat
  instStep : Nat
  pbase : Nat
  pstride : Nat
  pdiv : Nat
  child : Nat
  sib : Nat
  lastSib : Nat
  fault : Nat
  ctl : Nat
  cons : Bool
  offMap : Bool
  hold : Bool
deriving DecidableEq, Repr

namespace Acct

/-- Base of the DEVICE account. -/
abbrev device : Nat := 0x0
/-- Base of the HOST account. -/
abbrev host : Nat := 0x1000
/-- Base of Q account number n. -/
abbrev q (n : Nat) : Nat := 0x1100 + 0x40 * n
/-- Base of the RECKONER account. -/
abbrev reckoner : Nat := 0x2000
/-- Base of ENC account number n. -/
abbrev enc (n : Nat) : Nat := 0x2100 + 0x100 * n
/-- Base of HALL account number n. -/
abbrev hall (n : Nat) : Nat := 0x2400 + 0x80 * n
/-- Base of ABS account number n. -/
abbrev abs (n : Nat) : Nat := 0x2500 + 0x100 * n
/-- Base of CAP account number n. -/
abbrev cap (n : Nat) : Nat := 0x2700 + 0x80 * n
/-- Base of the ACC_PORT account. -/
abbrev accPort : Nat := 0x2900
/-- Base of the EMU account. -/
abbrev emu : Nat := 0x2A00
/-- Base of the FUSION account. -/
abbrev fusion : Nat := 0x3000
/-- Base of the ORDERS account. -/
abbrev orders : Nat := 0x4000
/-- Base of the LANDING_TABLE account. -/
abbrev landingTable : Nat := 0x4100
/-- Base of the PROFILE_ENGINE account. -/
abbrev profileEngine : Nat := 0x4200
/-- Base of the DOORS account. -/
abbrev doors : Nat := 0x5000
/-- Base of DOOR_PORT account number n. -/
abbrev doorPort (n : Nat) : Nat := 0x5100 + 0x200 * n
/-- Base of the COMPTROLLER account. -/
abbrev comptroller : Nat := 0x6000
/-- Base of SAFETY_FUNCTION account number n. -/
abbrev safetyFunction (n : Nat) : Nat := 0x6100 + 0x80 * n
/-- Base of the TRIP_NET account. -/
abbrev tripNet : Nat := 0x6500
/-- Base of the FIELD account. -/
abbrev field : Nat := 0x7000
/-- Base of the INPUT_PORT account. -/
abbrev inputPort : Nat := 0x7040
/-- Base of the OUTPUT_PORT account. -/
abbrev outputPort : Nat := 0x7080
/-- Base of the TESTPULSE_PORT account. -/
abbrev testpulsePort : Nat := 0x70C0
/-- Base of TPC account number n. -/
abbrev tpc (n : Nat) : Nat := 0x7280 + 0x20 * n
/-- Base of IN account number n. -/
abbrev inCh (n : Nat) : Nat := 0x7300 + 0x20 * n
/-- Base of SP account number n. -/
abbrev sp (n : Nat) : Nat := 0x7700 + 0x60 * n
/-- Base of INA account number n. -/
abbrev ina (n : Nat) : Nat := 0x7720 + 0x60 * n
/-- Base of INB account number n. -/
abbrev inb (n : Nat) : Nat := 0x7740 + 0x60 * n
/-- Base of GP account number n. -/
abbrev gp (n : Nat) : Nat := 0x7A00 + 0x60 * n
/-- Base of OUTA account number n. -/
abbrev outa (n : Nat) : Nat := 0x7A20 + 0x60 * n
/-- Base of OUTB account number n. -/
abbrev outb (n : Nat) : Nat := 0x7A40 + 0x60 * n
/-- Base of the CAN account. -/
abbrev can : Nat := 0x8000
/-- Base of CANC account number n. -/
abbrev canc (n : Nat) : Nat := 0x8020 + 0x1000 * n
/-- Base of OBJ account number n. -/
abbrev obj (n : Nat) : Nat := 0x100000 + 0x80 * n
/-- Base of FILTER_LIST account number n. -/
abbrev filterList (n : Nat) : Nat := 0x140000 + 0x20 * n
/-- Base of FE account number n. -/
abbrev fe (n : Nat) : Nat := 0x120000 + 0x80 * n
/-- Base of ORDER account number n. -/
abbrev order (n : Nat) : Nat := 0x150000 + 0x20 * n
/-- Base of the LINK account. -/
abbrev link : Nat := 0xC000
/-- Base of the SHEIC_LINK account. -/
abbrev sheicLink : Nat := 0xC100
/-- Base of the TUNNEL account. -/
abbrev tunnel : Nat := 0xC200
/-- Base of the COUNTERSIGN account. -/
abbrev countersign : Nat := 0xC300
/-- Base of CS account number n. -/
abbrev cs (n : Nat) : Nat := 0xC400 + 0x80 * n
/-- Base of the POWER account. -/
abbrev power : Nat := 0xD000
/-- Base of PURSE account number n. -/
abbrev purse (n : Nat) : Nat := 0xD100 + 0x80 * n
/-- Base of the CLOCK_MONITOR account. -/
abbrev clockMonitor : Nat := 0xD280
/-- Base of the SUPPLY_MONITOR account. -/
abbrev supplyMonitor : Nat := 0xD300
/-- Base of the BANKS account. -/
abbrev banks : Nat := 0xE000
/-- Base of BANK account number n. -/
abbrev bank (n : Nat) : Nat := 0xE100 + 0x40 * n
/-- Base of the MARCH_ENGINE account. -/
abbrev marchEngine : Nat := 0xE800
/-- Base of the LEDGER account. -/
abbrev ledger : Nat := 0xF000
/-- Base of LEDGER_PARTITION account number n. -/
abbrev ledgerPartition (n : Nat) : Nat := 0xF100 + 0x80 * n
/-- Base of the LEDGER_INTAKE account. -/
abbrev ledgerIntake : Nat := 0xF200
/-- Base of the MINT account. -/
abbrev mint : Nat := 0x10000
/-- Base of the MINT_ENGINE account. -/
abbrev mintEngine : Nat := 0x10100
/-- Base of the LIFECYCLE account. -/
abbrev lifecycle : Nat := 0x10180
/-- Base of the TAMPER account. -/
abbrev tamper : Nat := 0x10200
/-- Base of the AUDITOR account. -/
abbrev auditor : Nat := 0x11000
/-- Base of the AUDITOR_CORE account. -/
abbrev auditorCore : Nat := 0x11100
/-- Base of the SHORTCHANGE account. -/
abbrev shortchange : Nat := 0x11200
/-- Base of the TELEMETRY account. -/
abbrev telemetry : Nat := 0x11300

/-- Accounts of chapter 01. -/
def rows01 : List AcctRow :=
  [⟨0x0, 0x0, 1, 1, 0x1, 0, 1, 0x0, 0x0, 1, 0x400, 0x0, 0x0, 0x0, 0x0, false, false, false⟩]  -- DEVICE

/-- Accounts of chapter 02. -/
def rows02 : List AcctRow :=
  [⟨0x1000, 0x0, 1, 2, 0x10, 0, 1, 0x0, 0x0, 1, 0x40, 0x400, 0x400, 0x3, 0x0, false, false, false⟩,  -- HOST
  ⟨0x1100, 0x40, 16, 3, 0x1C0, 0, 1, 0x1000, 0x0, 16, 0x0, 0x10, 0x0, 0x3, 0x0, false, false, false⟩]  -- Q

/-- Accounts of chapter 03. -/
def rows03 : List AcctRow :=
  [⟨0x2000, 0x0, 1, 2, 0x11, 0, 1, 0x0, 0x0, 1, 0x40, 0x800, 0x800, 0x0, 0x0, false, false, false⟩,  -- RECKONER
  ⟨0x2100, 0x100, 3, 3, 0x100, 0, 1, 0x2000, 0x0, 3, 0x0, 0x40, 0x40, 0x7F, 0x0, false, false, false⟩,  -- ENC
  ⟨0x2400, 0x80, 2, 3, 0x101, 0, 1, 0x2000, 0x0, 2, 0x0, 0x20, 0x20, 0xF, 0x0, false, false, false⟩,  -- HALL
  ⟨0x2500, 0x100, 2, 3, 0x102, 0, 1, 0x2000, 0x0, 2, 0x0, 0x40, 0x40, 0x7F, 0x0, false, false, false⟩,  -- ABS
  ⟨0x2700, 0x80, 4, 3, 0x103, 0, 1, 0x2000, 0x0, 4, 0x0, 0x20, 0x20, 0x1, 0x0, false, false, false⟩,  -- CAP
  ⟨0x2900, 0x0, 1, 3, 0x104, 0, 1, 0x2000, 0x0, 1, 0x0, 0x40, 0x40, 0xF, 0x0, false, false, false⟩,  -- ACC_PORT
  ⟨0x2A00, 0x0, 1, 3, 0x105, 0, 1, 0x2000, 0x0, 1, 0x0, 0x180, 0x180, 0x1F, 0x0, false, false, false⟩]  -- EMU

/-- Accounts of chapter 04. -/
def rows04 : List AcctRow :=
  [⟨0x3000, 0x0, 1, 3, 0x106, 0, 1, 0x2000, 0x0, 1, 0x0, 0x0, 0x0, 0xFF, 0x0, false, false, false⟩]  -- FUSION

/-- Accounts of chapter 05. -/
def rows05 : List AcctRow :=
  [⟨0x4000, 0x0, 1, 2, 0x12, 0, 1, 0x0, 0x0, 1, 0x40, 0x400, 0x400, 0x0, 0x0, false, false, false⟩,  -- ORDERS
  ⟨0x4100, 0x0, 1, 3, 0x110, 0, 1, 0x4000, 0x0, 1, 0x0, 0x40, 0x40, 0x1, 0x0, false, false, false⟩,  -- LANDING_TABLE
  ⟨0x4200, 0x0, 1, 3, 0x111, 0, 1, 0x4000, 0x0, 1, 0x0, 0x0, 0x0, 0xFF, 0x0, false, true, false⟩]  -- PROFILE_ENGINE

/-- Accounts of chapter 06. -/
def rows06 : List AcctRow :=
  [⟨0x5000, 0x0, 1, 2, 0x13, 0, 1, 0x0, 0x0, 1, 0x40, 0x400, 0x400, 0x0, 0x0, false, false, false⟩,  -- DOORS
  ⟨0x5100, 0x200, 2, 3, 0x120, 0, 1, 0x5000, 0x0, 2, 0x0, 0x80, 0x0, 0x7FF, 0x0, false, false, true⟩]  -- DOOR_PORT

/-- Accounts of chapter 07. -/
def rows07 : List AcctRow :=
  [⟨0x6000, 0x0, 1, 2, 0x14, 0, 1, 0x0, 0x0, 1, 0x40, 0x400, 0x400, 0x3, 0x0, false, false, false⟩,  -- COMPTROLLER
  ⟨0x6100, 0x80, 8, 3, 0x130, 0, 1, 0x6000, 0x0, 8, 0x0, 0x20, 0x20, 0x1F, 0x0, false, false, false⟩,  -- SAFETY_FUNCTION
  ⟨0x6500, 0x0, 1, 3, 0x131, 0, 1, 0x6000, 0x0, 1, 0x0, 0x0, 0x0, 0x1, 0x0, false, false, false⟩]  -- TRIP_NET

/-- Accounts of chapter 08. -/
def rows08 : List AcctRow :=
  [⟨0x7000, 0x0, 1, 2, 0x15, 0, 1, 0x0, 0x0, 1, 0x10, 0x400, 0x400, 0x0, 0x0, false, false, false⟩,  -- FIELD
  ⟨0x7040, 0x0, 1, 3, 0x140, 0, 1, 0x7000, 0x0, 1, 0xB0, 0x10, 0x10, 0x0, 0x0, false, false, false⟩,  -- INPUT_PORT
  ⟨0x7080, 0x0, 1, 3, 0x141, 0, 1, 0x7000, 0x0, 1, 0x260, 0x10, 0x10, 0x0, 0x0, false, false, false⟩,  -- OUTPUT_PORT
  ⟨0x70C0, 0x0, 1, 3, 0x142, 0, 1, 0x7000, 0x0, 1, 0x70, 0x0, 0x0, 0x1, 0x0, false, false, false⟩,  -- TESTPULSE_PORT
  ⟨0x7280, 0x20, 4, 5, 0x147, 0, 1, 0x70C0, 0x0, 4, 0x0, 0x8, 0x0, 0xF, 0x0, false, false, false⟩,  -- TPC
  ⟨0x7300, 0x20, 32, 5, 0x145, 0, 1, 0x7040, 0x0, 32, 0x0, 0x8, 0x8, 0xF, 0x0, false, false, false⟩,  -- IN
  ⟨0x7700, 0x60, 8, 4, 0x143, 0, 1, 0x7040, 0x0, 8, 0x8, 0x18, 0x0, 0x40000003, 0x0, true, false, false⟩,  -- SP
  ⟨0x7720, 0x60, 8, 5, 0x145, 32, 2, 0x7700, 0x60, 1, 0x0, 0x8, 0x8, 0xF, 0x0, false, false, false⟩,  -- INA
  ⟨0x7740, 0x60, 8, 5, 0x145, 33, 2, 0x7700, 0x60, 1, 0x0, 0x0, 0x0, 0xF, 0x0, false, false, false⟩,  -- INB
  ⟨0x7A00, 0x60, 16, 4, 0x144, 0, 1, 0x7080, 0x0, 16, 0x8, 0x18, 0x0, 0x40000001, 0x10000, true, false, false⟩,  -- GP
  ⟨0x7A20, 0x60, 16, 5, 0x146, 0, 2, 0x7A00, 0x60, 1, 0x0, 0x8, 0x8, 0x7F, 0x0, false, false, false⟩,  -- OUTA
  ⟨0x7A40, 0x60, 16, 5, 0x146, 1, 2, 0x7A00, 0x60, 1, 0x0, 0x0, 0x0, 0x7F, 0x0, false, false, false⟩]  -- OUTB

/-- Accounts of chapter 09. -/
def rows09 : List AcctRow :=
  [⟨0x8000, 0x0, 1, 2, 0x16, 0, 1, 0x0, 0x0, 1, 0x8, 0x1000, 0x1000, 0x0, 0x0, false, false, false⟩,  -- CAN
  ⟨0x8020, 0x1000, 4, 3, 0x150, 0, 1, 0x8000, 0x0, 4, 0x0, 0x400, 0x0, 0xF, 0x0, false, true, false⟩,  -- CANC
  ⟨0x100000, 0x80, 512, 4, 0x151, 0, 1, 0x8020, 0x1000, 128, 0x0, 0x0, 0x0, 0x40000007, 0x1F0000, true, false, false⟩,  -- OBJ
  ⟨0x140000, 0x20, 4, 4, 0x152, 0, 1, 0x8020, 0x1000, 1, 0x0, 0x0, 0x0, 0x0, 0x0, false, true, false⟩,  -- FILTER_LIST
  ⟨0x120000, 0x80, 512, 5, 0x153, 0, 1, 0x140000, 0x20, 128, 0x0, 0x0, 0x0, 0x1, 0x0, false, false, false⟩,  -- FE
  ⟨0x150000, 0x20, 64, 4, 0x112, 0, 1, 0x4200, 0x0, 64, 0x0, 0x0, 0x0, 0x0, 0x0, false, false, false⟩]  -- ORDER

/-- Accounts of chapter 10. -/
def rows10 : List AcctRow :=
  [⟨0xC000, 0x0, 1, 2, 0x17, 0, 1, 0x0, 0x0, 1, 0x40, 0x400, 0x400, 0x0, 0x0, false, false, false⟩,  -- LINK
  ⟨0xC100, 0x0, 1, 3, 0x160, 0, 1, 0xC000, 0x0, 1, 0x0, 0x40, 0x40, 0x1F, 0x0, false, false, false⟩,  -- SHEIC_LINK
  ⟨0xC200, 0x0, 1, 3, 0x161, 0, 1, 0xC000, 0x0, 1, 0x0, 0x40, 0x40, 0x1, 0x0, false, false, false⟩,  -- TUNNEL
  ⟨0xC300, 0x0, 1, 3, 0x162, 0, 1, 0xC000, 0x0, 1, 0x40, 0x0, 0x0, 0x0, 0x0, false, false, false⟩,  -- COUNTERSIGN
  ⟨0xC400, 0x80, 16, 4, 0x163, 0, 1, 0xC300, 0x0, 16, 0x0, 0x20, 0x0, 0x2, 0x0, false, false, false⟩]  -- CS

/-- Accounts of chapter 11. -/
def rows11 : List AcctRow :=
  [⟨0xD000, 0x0, 1, 2, 0x18, 0, 1, 0x0, 0x0, 1, 0x40, 0x400, 0x400, 0x1, 0x0, false, false, false⟩,  -- POWER
  ⟨0xD100, 0x80, 3, 3, 0x170, 0, 1, 0xD000, 0x0, 3, 0x0, 0x20, 0x20, 0x7, 0x0, false, false, false⟩,  -- PURSE
  ⟨0xD280, 0x0, 1, 3, 0x171, 0, 1, 0xD000, 0x0, 1, 0x0, 0x20, 0x20, 0x1FF, 0x0, false, false, false⟩,  -- CLOCK_MONITOR
  ⟨0xD300, 0x0, 1, 3, 0x172, 0, 1, 0xD000, 0x0, 1, 0x0, 0x0, 0x0, 0x7F, 0x0, false, false, false⟩]  -- SUPPLY_MONITOR

/-- Accounts of chapter 12. -/
def rows12 : List AcctRow :=
  [⟨0xE000, 0x0, 1, 2, 0x19, 0, 1, 0x0, 0x0, 1, 0x40, 0x400, 0x400, 0x0, 0x0, false, false, false⟩,  -- BANKS
  ⟨0xE100, 0x40, 27, 3, 0x180, 0, 1, 0xE000, 0x0, 27, 0x0, 0x10, 0x20, 0xFE, 0x0, false, false, false⟩,  -- BANK
  ⟨0xE800, 0x0, 1, 3, 0x181, 0, 1, 0xE000, 0x0, 1, 0x0, 0x0, 0x0, 0x7, 0x0, false, false, false⟩]  -- MARCH_ENGINE

/-- Accounts of chapter 13. -/
def rows13 : List AcctRow :=
  [⟨0xF000, 0x0, 1, 2, 0x1A, 0, 1, 0x0, 0x0, 1, 0x40, 0x400, 0x400, 0x0, 0x0, false, false, false⟩,  -- LEDGER
  ⟨0xF100, 0x80, 2, 3, 0x190, 0, 1, 0xF000, 0x0, 2, 0x0, 0x20, 0x20, 0x1E, 0x0, false, false, false⟩,  -- LEDGER_PARTITION
  ⟨0xF200, 0x0, 1, 3, 0x191, 0, 1, 0xF000, 0x0, 1, 0x0, 0x0, 0x0, 0x6, 0x0, false, false, false⟩]  -- LEDGER_INTAKE

/-- Accounts of chapter 14. -/
def rows14 : List AcctRow :=
  [⟨0x10000, 0x0, 1, 2, 0x1B, 0, 1, 0x0, 0x0, 1, 0x40, 0x400, 0x400, 0x0, 0x0, false, false, false⟩,  -- MINT
  ⟨0x10100, 0x0, 1, 3, 0x1A0, 0, 1, 0x10000, 0x0, 1, 0x0, 0x20, 0x20, 0xF, 0x0, false, false, false⟩,  -- MINT_ENGINE
  ⟨0x10180, 0x0, 1, 3, 0x1A1, 0, 1, 0x10000, 0x0, 1, 0x0, 0x20, 0x20, 0x7, 0x0, false, false, false⟩,  -- LIFECYCLE
  ⟨0x10200, 0x0, 1, 3, 0x1A2, 0, 1, 0x10000, 0x0, 1, 0x0, 0x0, 0x0, 0x2, 0x0, false, false, false⟩]  -- TAMPER

/-- Accounts of chapter 16. -/
def rows16 : List AcctRow :=
  [⟨0x11000, 0x0, 1, 2, 0x1C, 0, 1, 0x0, 0x0, 1, 0x40, 0x0, 0x0, 0x0, 0x0, false, false, false⟩,  -- AUDITOR
  ⟨0x11100, 0x0, 1, 3, 0x1B0, 0, 1, 0x11000, 0x0, 1, 0x0, 0x40, 0x40, 0x1F, 0x0, false, false, false⟩,  -- AUDITOR_CORE
  ⟨0x11200, 0x0, 1, 3, 0x1B1, 0, 1, 0x11000, 0x0, 1, 0x0, 0x40, 0x40, 0x0, 0x0, false, false, false⟩,  -- SHORTCHANGE
  ⟨0x11300, 0x0, 1, 3, 0x1B2, 0, 1, 0x11000, 0x0, 1, 0x0, 0x0, 0x0, 0x0, 0x0, false, false, false⟩]  -- TELEMETRY

/-- Every account row. -/
def rows : List AcctRow :=
  rows01 ++ rows02 ++ rows03 ++ rows04 ++ rows05 ++ rows06 ++ rows07 ++ rows08 ++ rows09 ++ rows10 ++ rows11 ++ rows12 ++ rows13 ++ rows14 ++ rows16

/-- The row and index of the account whose header begins at `base`. -/
def find (base : Nat) : Option (AcctRow × Nat) :=
  (rows.find? fun r => decide (r.base ≤ base) &&
      (if r.stride = 0 then base == r.base
       else (base - r.base) % r.stride == 0 && decide ((base - r.base) / r.stride < r.count))).map
    fun r => (r, if r.stride = 0 then 0 else (base - r.base) / r.stride)

/-- The parent account of the account at `base`; the device account is its own end (R13). -/
def parent (base : Nat) : Option Nat :=
  if base = 0 then none
  else (find base).map fun (r, i) => r.pbase + r.pstride * (i / r.pdiv)

/-- The accounts above `base`, nearest first; the tree is at most five levels deep (R13). -/
def ancestors (base : Nat) : List Nat :=
  go 5 base
where
  go : Nat → Nat → List Nat
    | 0, _ => []
    | k + 1, b => match parent b with
      | none => []
      | some p => p :: go k p

end Acct
end Sys2Proof.Machine
end

