-- ==== Sys2Proof/Machine/Bits.lean ====
section
/-! DEFINITION. Bit fields, signed readings and byte orders of register words, payloads and records
(00_scope.md "Conventions", R11). -/

namespace Sys2Proof.Machine

/-- REGISTER[lo+n-1:lo] as a number. -/
def fld (w : Word) (lo n : Nat) : Nat := (w.toNat / 2 ^ lo) % 2 ^ n

/-- Bit `i` of a word. -/
def bit (w : Word) (i : Nat) : Bool := w.getLsbD i

/-- The word with its field [lo+n-1:lo] replaced by `v` (taken modulo the field). -/
def putFld (w : Word) (lo n v : Nat) : Word :=
  BitVec.ofNat 32 (w.toNat - fld w lo n * 2 ^ lo + (v % 2 ^ n) * 2 ^ lo)

/-- The word with bit `i` set to `b`. -/
def putBit (w : Word) (i : Nat) (b : Bool) : Word := putFld w i 1 (if b then 1 else 0)

/-- Bits of `v` under `mask`, the others of `w`. -/
def merge (mask : Nat) (w v : Word) : Word :=
  (w &&& ~~~(BitVec.ofNat 32 mask)) ||| (v &&& BitVec.ofNat 32 mask)

/-- The bits of `w` under `mask`. -/
def masked (mask : Nat) (w : Word) : Word := w &&& BitVec.ofNat 32 mask

/-- The field [lo+n-1:lo] as a two's complement number. -/
def sfld (w : Word) (lo n : Nat) : Int :=
  let v := fld w lo n
  if v < 2 ^ (n - 1) then v else (v : Int) - 2 ^ n

/-- A word as a signed number. -/
def wInt (w : Word) : Int := w.toInt

/-- A number as a word, wrapping. -/
def wOf (n : Nat) : Word := BitVec.ofNat 32 n

/-- A signed number as a word, wrapping. -/
def wOfInt (n : Int) : Word := BitVec.ofInt 32 n

/-- Bit `i` of a number. -/
def nbit (m i : Nat) : Bool := m / 2 ^ i % 2 == 1

/-- Clamp into [lo, hi]. -/
def clampI (lo hi v : Int) : Int := if v < lo then lo else if hi < v then hi else v

/-- Saturating at `m`. -/
def satN (m v : Nat) : Nat := if m < v then m else v

/-- Little-endian number of some bytes (R11). -/
def leNat : List Byte → Nat
  | [] => 0
  | b :: t => b.toNat + 256 * leNat t

/-- `n` little-endian bytes of a number (R11). -/
def leBytes : Nat → Nat → List Byte
  | 0, _ => []
  | n + 1, v => BitVec.ofNat 8 v :: leBytes n (v / 256)

/-- The little-endian number in bytes [o .. o+n-1]; bytes past the end count as 0. -/
def leAt (bs : List Byte) (o n : Nat) : Nat := leNat ((bs.drop o).take n)

/-- The register image at byte `o`. -/
def wordAt (bs : List Byte) (o : Nat) : Word := wOf (leAt bs o 4)

/-- The bytes of some register images in order. -/
def wordsBytes (ws : List Word) : List Byte := ws.flatMap fun w => leBytes 4 w.toNat

/-- The words that some bytes carry, `n` of them. -/
def wordsAt (bs : List Byte) (o : Nat) : Nat → List Word
  | 0 => []
  | n + 1 => wordAt bs o :: wordsAt bs (o + 4) n

/-- Bytes filled up with zeros to `n`. -/
def padTo (n : Nat) (bs : List Byte) : List Byte := bs.take n ++ List.replicate (n - bs.length) 0

/-- One step of a reflected CRC-32 register with polynomial `p`. -/
def crcShift (p : BitVec 32) (c : BitVec 32) : BitVec 32 :=
  if c.getLsbD 0 then (c >>> 1) ^^^ p else c >>> 1

/-- A byte through a reflected CRC-32. -/
def crcByte (p : BitVec 32) (c : BitVec 32) (b : Byte) : BitVec 32 :=
  let c := c ^^^ b.setWidth 32
  crcShift p (crcShift p (crcShift p (crcShift p (crcShift p (crcShift p (crcShift p (crcShift p c)))))))

/-- CRC-32C of R453: 0x1EDC_6F41 reflected in and out, initial value and final XOR all ones. -/
def crc32c (bs : List Byte) : BitVec 32 :=
  ~~~(bs.foldl (crcByte 0x82F63B78#32) 0xFFFFFFFF#32)

/-- Payload bytes of psz (R325). -/
def pszBytes (p : Nat) : Nat := [8, 12, 16, 20, 24, 32, 48, 64].getD p 8

/-- Bytes that a DLC carries: a classical frame min(DLC, 8), an FD frame by the table (R325). -/
def dlcBytes (fdf : Bool) (dlc : Nat) : Nat :=
  if dlc ≤ 8 then dlc else if fdf then pszBytes (dlc - 8) else 8

/-- The DLC that carries `l` bytes, if one does (R325, R337). -/
def dlcOf (fdf : Bool) (l : Nat) : Option Nat :=
  (List.range 16).find? fun d => dlcBytes fdf d == l && (fdf || decide (d ≤ 8))

end Sys2Proof.Machine
end

