-- ==== Sys2Proof/Machine/RegMap.lean ====
section
/-! DEFINITION. The class-specific registers of the host map and of the off-map accounts: place, access
masks (R9), retention masks (R10) and hardware reset value, as the register tables of chapters 01 to 16
give them. Header registers are in Accounts.lean. -/

namespace Sys2Proof.Machine

/-- A run of like registers: register i stands at `base + stride * i`, `words` words long. `rw` counts RWL
bits too where `rwl` is set. `cfg`: a class P configuration register under R81, written only while its
account's en = 0. -/
structure RegRow where
  base : Nat
  stride : Nat
  count : Nat
  words : Nat := 1
  rw : Nat := 0
  w1c : Nat := 0
  rc : Nat := 0
  wo : Nat := 0
  rwl : Bool := false
  par : Nat := 0
  vault : Nat := 0
  cfg : Bool := false
  rst : Nat := 0
deriving DecidableEq, Repr

namespace Reg

/-- DEV_PART (R15). -/
abbrev devPart : Nat := 0x20
/-- DEV_VERSION (R517). -/
abbrev devVersion : Nat := 0x24
/-- DEV_ROLE (R2). -/
abbrev devRole : Nat := 0x28
/-- DEV_GEN (R77). -/
abbrev devGen : Nat := 0x2C
/-- DEV_BAD_ADDR (R35). -/
abbrev devBadAddr : Nat := 0x30
/-- DEV_WR_IGNORED (R36). -/
abbrev devWrIgnored : Nat := 0x34
/-- DIR (R37). -/
abbrev dir (n : Nat) : Nat := 0x40 + 0x4 * n
/-- TELLER_CFG (R60). -/
abbrev tellerCfg : Nat := 0x1020
/-- TELLER_DB_CMD (R58). -/
abbrev tellerDbCmd : Nat := 0x1024
/-- TELLER_DB_URG (R58). -/
abbrev tellerDbUrg : Nat := 0x1028
/-- TELLER_IRQ_EN (R60). -/
abbrev tellerIrqEn : Nat := 0x102C
/-- TELLER_IRQ_STAT (R75). -/
abbrev tellerIrqStat : Nat := 0x1030
/-- TELLER_IRQ_HOLDOFF (R75). -/
abbrev tellerIrqHoldoff : Nat := 0x1034
/-- TELLER_ERR (R64). -/
abbrev tellerErr : Nat := 0x1038
/-- HOST_PORT_STAT (R43). -/
abbrev hostPortStat : Nat := 0x103C
/-- HOST_MBUSY_CNT (R53). -/
abbrev hostMbusyCnt : Nat := 0x1040
/-- HOST_RESET_CAUSE (R77). -/
abbrev hostResetCause : Nat := 0x1044
/-- QBASE (R61). -/
abbrev qbase (n : Nat) : Nat := 0x1120 + 0x40 * n
/-- QGEOM (R55). -/
abbrev qgeom (n : Nat) : Nat := 0x1124 + 0x40 * n
/-- QPROD (R57). -/
abbrev qprod (n : Nat) : Nat := 0x1128 + 0x40 * n
/-- QCONS (R57). -/
abbrev qcons (n : Nat) : Nat := 0x112C + 0x40 * n
/-- QFILL (R57). -/
abbrev qfill (n : Nat) : Nat := 0x1130 + 0x40 * n
/-- ENC_CFG (R95). -/
abbrev encCfg (n : Nat) : Nat := 0x2120 + 0x100 * n
/-- ENC_FILT (R95). -/
abbrev encFilt (n : Nat) : Nat := 0x2124 + 0x100 * n
/-- ENC_REV_COUNT (R95). -/
abbrev encRevCount (n : Nat) : Nat := 0x2128 + 0x100 * n
/-- ENC_IDX_EXP (R95). -/
abbrev encIdxExp (n : Nat) : Nat := 0x212C + 0x100 * n
/-- ENC_POS (R86). -/
abbrev encPos (n : Nat) : Nat := 0x2130 + 0x100 * n
/-- ENC_REV (R86). -/
abbrev encRev (n : Nat) : Nat := 0x2134 + 0x100 * n
/-- ENC_RAW (R90). -/
abbrev encRaw (n : Nat) : Nat := 0x2138 + 0x100 * n
/-- ENC_QERR (R87). -/
abbrev encQerr (n : Nat) : Nat := 0x213C + 0x100 * n
/-- ENC_IDX_CAP (R91). -/
abbrev encIdxCap (n : Nat) : Nat := 0x2140 + 0x100 * n
/-- ENC_EDGE_TILL_L (R95). -/
abbrev encEdgeTillL (n : Nat) : Nat := 0x2144 + 0x100 * n
/-- ENC_EDGE_TILL_H (R95). -/
abbrev encEdgeTillH (n : Nat) : Nat := 0x2148 + 0x100 * n
/-- ENC_EDGE_DT (R95). -/
abbrev encEdgeDt (n : Nat) : Nat := 0x214C + 0x100 * n
/-- HALL_CFG (R101). -/
abbrev hallCfg (n : Nat) : Nat := 0x2420 + 0x80 * n
/-- HALL_STATE (R101). -/
abbrev hallState (n : Nat) : Nat := 0x2424 + 0x80 * n
/-- HALL_EDGE_TILL_L (R101). -/
abbrev hallEdgeTillL (n : Nat) : Nat := 0x2428 + 0x80 * n
/-- HALL_EDGE_TILL_H (R101). -/
abbrev hallEdgeTillH (n : Nat) : Nat := 0x242C + 0x80 * n
/-- HALL_PERIOD (R101). -/
abbrev hallPeriod (n : Nat) : Nat := 0x2430 + 0x80 * n
/-- HALL_ERR (R101). -/
abbrev hallErr (n : Nat) : Nat := 0x2434 + 0x80 * n
/-- ABS_CFG (R110). -/
abbrev absCfg (n : Nat) : Nat := 0x2520 + 0x100 * n
/-- ABS_TIMING (R110). -/
abbrev absTiming (n : Nat) : Nat := 0x2524 + 0x100 * n
/-- ABS_STATUS_RULE (R110). -/
abbrev absStatusRule (n : Nat) : Nat := 0x2528 + 0x100 * n
/-- ABS_JUMP_LIMIT (R110). -/
abbrev absJumpLimit (n : Nat) : Nat := 0x252C + 0x100 * n
/-- ABS_POS_L (R110). -/
abbrev absPosL (n : Nat) : Nat := 0x2530 + 0x100 * n
/-- ABS_POS_H (R110). -/
abbrev absPosH (n : Nat) : Nat := 0x2534 + 0x100 * n
/-- ABS_TILL_L (R110). -/
abbrev absTillL (n : Nat) : Nat := 0x2538 + 0x100 * n
/-- ABS_TILL_H (R110). -/
abbrev absTillH (n : Nat) : Nat := 0x253C + 0x100 * n
/-- ABS_RAW_L (R110). -/
abbrev absRawL (n : Nat) : Nat := 0x2540 + 0x100 * n
/-- ABS_RAW_H (R110). -/
abbrev absRawH (n : Nat) : Nat := 0x2544 + 0x100 * n
/-- ABS_ERR (R110). -/
abbrev absErr (n : Nat) : Nat := 0x2548 + 0x100 * n
/-- ABS_CONSEC (R110). -/
abbrev absConsec (n : Nat) : Nat := 0x254C + 0x100 * n
/-- CAP_CFG (R115). -/
abbrev capCfg (n : Nat) : Nat := 0x2720 + 0x80 * n
/-- CAP_SEQ (R115). -/
abbrev capSeq (n : Nat) : Nat := 0x2724 + 0x80 * n
/-- CAP_TILL_L (R115). -/
abbrev capTillL (n : Nat) : Nat := 0x2728 + 0x80 * n
/-- CAP_TILL_H (R115). -/
abbrev capTillH (n : Nat) : Nat := 0x272C + 0x80 * n
/-- CAP_FLAGS (R115). -/
abbrev capFlags (n : Nat) : Nat := 0x2730 + 0x80 * n
/-- CAP_ENC0_POS (R113). -/
abbrev capEnc0Pos (n : Nat) : Nat := 0x2734 + 0x80 * n
/-- CAP_ENC0_REV (R113). -/
abbrev capEnc0Rev (n : Nat) : Nat := 0x2738 + 0x80 * n
/-- CAP_ENC1_POS (R113). -/
abbrev capEnc1Pos (n : Nat) : Nat := 0x273C + 0x80 * n
/-- CAP_ENC1_REV (R113). -/
abbrev capEnc1Rev (n : Nat) : Nat := 0x2740 + 0x80 * n
/-- CAP_ENC2_POS (R113). -/
abbrev capEnc2Pos (n : Nat) : Nat := 0x2744 + 0x80 * n
/-- CAP_ENC2_REV (R113). -/
abbrev capEnc2Rev (n : Nat) : Nat := 0x2748 + 0x80 * n
/-- CAP_CARPOS (R113). -/
abbrev capCarpos (n : Nat) : Nat := 0x274C + 0x80 * n
/-- ACC_CFG (R118). -/
abbrev accCfg : Nat := 0x2920
/-- ACC_CFG2 (R118). -/
abbrev accCfg2 : Nat := 0x2924
/-- ACC_X (R118). -/
abbrev accX : Nat := 0x2928
/-- ACC_Y (R118). -/
abbrev accY : Nat := 0x292C
/-- ACC_Z (R118). -/
abbrev accZ : Nat := 0x2930
/-- ACC_VERT (R118). -/
abbrev accVert : Nat := 0x2934
/-- ACC_TILL_L (R118). -/
abbrev accTillL : Nat := 0x2938
/-- ACC_TILL_H (R118). -/
abbrev accTillH : Nat := 0x293C
/-- EMU_CFG (R123). -/
abbrev emuCfg : Nat := 0x2A20
/-- EMU_LINES (R123). -/
abbrev emuLines : Nat := 0x2A24
/-- EMU_TRAVEL (R123). -/
abbrev emuTravel : Nat := 0x2A28
/-- EMU_VMAX (R123). -/
abbrev emuVmax : Nat := 0x2A2C
/-- EMU_COUNT (R123). -/
abbrev emuCount : Nat := 0x2A30
/-- EMU_LAG (R123). -/
abbrev emuLag : Nat := 0x2A34
/-- OBS_CFG_ENC (R153). -/
abbrev obsCfgEnc (n : Nat) : Nat := 0x2180 + 0x100 * n
/-- OBS_GATE_ENC (R153). -/
abbrev obsGateEnc (n : Nat) : Nat := 0x2184 + 0x100 * n
/-- OBS_STAT_ENC (R153). -/
abbrev obsStatEnc (n : Nat) : Nat := 0x2188 + 0x100 * n
/-- OBS_POS_I_ENC (R153). -/
abbrev obsPosIEnc (n : Nat) : Nat := 0x218C + 0x100 * n
/-- OBS_POS_F_ENC (R153). -/
abbrev obsPosFEnc (n : Nat) : Nat := 0x2190 + 0x100 * n
/-- OBS_SPD_ENC (R153). -/
abbrev obsSpdEnc (n : Nat) : Nat := 0x2194 + 0x100 * n
/-- OBS_SPD_RPT_ENC (R153). -/
abbrev obsSpdRptEnc (n : Nat) : Nat := 0x2198 + 0x100 * n
/-- OBS_ACC_ENC (R153). -/
abbrev obsAccEnc (n : Nat) : Nat := 0x219C + 0x100 * n
/-- OBS_TILL_L_ENC (R153). -/
abbrev obsTillLEnc (n : Nat) : Nat := 0x21A0 + 0x100 * n
/-- OBS_TILL_H_ENC (R153). -/
abbrev obsTillHEnc (n : Nat) : Nat := 0x21A4 + 0x100 * n
/-- OBS_RESID_ENC (R153). -/
abbrev obsResidEnc (n : Nat) : Nat := 0x21A8 + 0x100 * n
/-- OBS_CNT_ENC (R153). -/
abbrev obsCntEnc (n : Nat) : Nat := 0x21AC + 0x100 * n
/-- OBS_CFG_ABS (R153). -/
abbrev obsCfgAbs (n : Nat) : Nat := 0x2580 + 0x100 * n
/-- OBS_GATE_ABS (R153). -/
abbrev obsGateAbs (n : Nat) : Nat := 0x2584 + 0x100 * n
/-- OBS_STAT_ABS (R153). -/
abbrev obsStatAbs (n : Nat) : Nat := 0x2588 + 0x100 * n
/-- OBS_POS_I_ABS (R153). -/
abbrev obsPosIAbs (n : Nat) : Nat := 0x258C + 0x100 * n
/-- OBS_POS_F_ABS (R153). -/
abbrev obsPosFAbs (n : Nat) : Nat := 0x2590 + 0x100 * n
/-- OBS_SPD_ABS (R153). -/
abbrev obsSpdAbs (n : Nat) : Nat := 0x2594 + 0x100 * n
/-- OBS_SPD_RPT_ABS (R153). -/
abbrev obsSpdRptAbs (n : Nat) : Nat := 0x2598 + 0x100 * n
/-- OBS_ACC_ABS (R153). -/
abbrev obsAccAbs (n : Nat) : Nat := 0x259C + 0x100 * n
/-- OBS_TILL_L_ABS (R153). -/
abbrev obsTillLAbs (n : Nat) : Nat := 0x25A0 + 0x100 * n
/-- OBS_TILL_H_ABS (R153). -/
abbrev obsTillHAbs (n : Nat) : Nat := 0x25A4 + 0x100 * n
/-- OBS_RESID_ABS (R153). -/
abbrev obsResidAbs (n : Nat) : Nat := 0x25A8 + 0x100 * n
/-- OBS_CNT_ABS (R153). -/
abbrev obsCntAbs (n : Nat) : Nat := 0x25AC + 0x100 * n
/-- FUS_CFG (R154). -/
abbrev fusCfg : Nat := 0x3020
/-- FUS_SHEAVE (R154). -/
abbrev fusSheave : Nat := 0x3024
/-- FUS_TAPE_RES (R154). -/
abbrev fusTapeRes : Nat := 0x3028
/-- FUS_TAPE_OFS (R154). -/
abbrev fusTapeOfs : Nat := 0x302C
/-- FUS_SLIP_CFG (R154). -/
abbrev fusSlipCfg : Nat := 0x3030
/-- FUS_LIMITS (R154). -/
abbrev fusLimits : Nat := 0x3034
/-- FUS_TRACK (R154). -/
abbrev fusTrack : Nat := 0x3038
/-- FUS_DR (R154). -/
abbrev fusDr : Nat := 0x303C
/-- CARPOS (R134). -/
abbrev carpos : Nat := 0x3040
/-- CARSPD (R134). -/
abbrev carspd : Nat := 0x3044
/-- CARACC (R134). -/
abbrev caracc : Nat := 0x3048
/-- FUS_MSTAT (R155). -/
abbrev fusMstat : Nat := 0x304C
/-- FUS_TILL_L (R154). -/
abbrev fusTillL : Nat := 0x3050
/-- FUS_TILL_H (R154). -/
abbrev fusTillH : Nat := 0x3054
/-- SLIP (R136). -/
abbrev slip : Nat := 0x3058
/-- ZCORR (R138). -/
abbrev zcorr : Nat := 0x305C
/-- FUS_RESID (R137). -/
abbrev fusResid : Nat := 0x3060
/-- CARSPD_RAW (R154). -/
abbrev carspdRaw : Nat := 0x3064
/-- DR_TRAVEL (R141). -/
abbrev drTravel : Nat := 0x3068
/-- G_REF (R144). -/
abbrev gRef : Nat := 0x306C
/-- FUS_CNT (R135). -/
abbrev fusCnt : Nat := 0x3070
/-- FUS_OVERRUN (R145). -/
abbrev fusOverrun : Nat := 0x3074
/-- LT_CFG (R194). -/
abbrev ltCfg : Nat := 0x4120
/-- LT_DECK_OFS0 (R194). -/
abbrev ltDeckOfs0 : Nat := 0x4124
/-- LT_DECK_OFS1 (R194). -/
abbrev ltDeckOfs1 : Nat := 0x4128
/-- LT_DIGEST (R162). -/
abbrev ltDigest : Nat := 0x412C
/-- PRF_VMAX (R193). -/
abbrev prfVmax : Nat := 0x4220
/-- PRF_ACC (R193). -/
abbrev prfAcc : Nat := 0x4224
/-- PRF_JERK (R193). -/
abbrev prfJerk : Nat := 0x4228
/-- PRF_SPEEDS (R193). -/
abbrev prfSpeeds : Nat := 0x422C
/-- PRF_STOP (R193). -/
abbrev prfStop : Nat := 0x4230
/-- PRF_SEQ (R193). -/
abbrev prfSeq : Nat := 0x4234
/-- PRF_RELEVEL (R193). -/
abbrev prfRelevel : Nat := 0x4238
/-- PRF_RELEVEL2 (R193). -/
abbrev prfRelevel2 : Nat := 0x423C
/-- PRF_DRIVE (R193). -/
abbrev prfDrive : Nat := 0x4240
/-- PRF_DRIVE_TXID (R193). -/
abbrev prfDriveTxid : Nat := 0x4244
/-- PRF_DRIVE_RXID (R193). -/
abbrev prfDriveRxid : Nat := 0x4248
/-- PRF_STAT (R193). -/
abbrev prfStat : Nat := 0x424C
/-- PRF_SREF (R193). -/
abbrev prfSref : Nat := 0x4250
/-- PRF_AREF (R193). -/
abbrev prfAref : Nat := 0x4254
/-- PRF_STOPDIST (R193). -/
abbrev prfStopdist : Nat := 0x4258
/-- PRF_TARGET (R193). -/
abbrev prfTarget : Nat := 0x425C
/-- PRF_ERR (R193). -/
abbrev prfErr : Nat := 0x4260
/-- PRF_TILL_L (R193). -/
abbrev prfTillL : Nat := 0x4264
/-- PRF_TILL_H (R193). -/
abbrev prfTillH : Nat := 0x4268
/-- PRF_CNT (R193). -/
abbrev prfCnt : Nat := 0x426C
/-- PRF_DRIVE_FAULT (R193). -/
abbrev prfDriveFault : Nat := 0x4270
/-- ORD_SLOT (R170). -/
abbrev ordSlot (n : Nat) : Nat := 0x4400 + 0x4 * n
/-- LT_POS (R159). -/
abbrev ltPos (n : Nat) : Nat := 0x4800 + 0x8 * n
/-- LT_ATTR (R159). -/
abbrev ltAttr (n : Nat) : Nat := 0x4804 + 0x8 * n
/-- DOOR_CFG (R236). -/
abbrev doorCfg (n : Nat) : Nat := 0x5120 + 0x200 * n
/-- DOOR_PWM (R236). -/
abbrev doorPwm (n : Nat) : Nat := 0x5124 + 0x200 * n
/-- DOOR_ADC (R236). -/
abbrev doorAdc (n : Nat) : Nat := 0x5128 + 0x200 * n
/-- DOOR_PROT (R236). -/
abbrev doorProt (n : Nat) : Nat := 0x512C + 0x200 * n
/-- DOOR_MOTOR (R236). -/
abbrev doorMotor (n : Nat) : Nat := 0x5130 + 0x200 * n
/-- DOOR_MOTOR2 (R236). -/
abbrev doorMotor2 (n : Nat) : Nat := 0x5134 + 0x200 * n
/-- DOOR_GEAR (R236). -/
abbrev doorGear (n : Nat) : Nat := 0x5138 + 0x200 * n
/-- DOOR_MASS (R236). -/
abbrev doorMass (n : Nat) : Nat := 0x513C + 0x200 * n
/-- DOOR_LIMITS (R236). -/
abbrev doorLimits (n : Nat) : Nat := 0x5140 + 0x200 * n
/-- DOOR_SPEEDS (R236). -/
abbrev doorSpeeds (n : Nat) : Nat := 0x5144 + 0x200 * n
/-- DOOR_ACC (R236). -/
abbrev doorAcc (n : Nat) : Nat := 0x5148 + 0x200 * n
/-- DOOR_NUDGE (R236). -/
abbrev doorNudge (n : Nat) : Nat := 0x514C + 0x200 * n
/-- DOOR_TIMES (R236). -/
abbrev doorTimes (n : Nat) : Nat := 0x5150 + 0x200 * n
/-- DOOR_ENDS (R236). -/
abbrev doorEnds (n : Nat) : Nat := 0x5154 + 0x200 * n
/-- DOOR_TRAVEL (R236). -/
abbrev doorTravel (n : Nat) : Nat := 0x5160 + 0x200 * n
/-- DOOR_LEARNED (R236). -/
abbrev doorLearned (n : Nat) : Nat := 0x5164 + 0x200 * n
/-- DOOR_FRIC_0 (R236). -/
abbrev doorFric0 (n : Nat) : Nat := 0x5170 + 0x4 * n
/-- DOOR_FRIC_1 (R236). -/
abbrev doorFric1 (n : Nat) : Nat := 0x5370 + 0x4 * n
/-- DOOR_STATE (R236). -/
abbrev doorState (n : Nat) : Nat := 0x51B0 + 0x200 * n
/-- DOOR_POS (R236). -/
abbrev doorPos (n : Nat) : Nat := 0x51B4 + 0x200 * n
/-- DOOR_SPD (R236). -/
abbrev doorSpd (n : Nat) : Nat := 0x51B8 + 0x200 * n
/-- DOOR_FORCE (R236). -/
abbrev doorForce (n : Nat) : Nat := 0x51BC + 0x200 * n
/-- DOOR_ENERGY (R236). -/
abbrev doorEnergy (n : Nat) : Nat := 0x51C0 + 0x200 * n
/-- DOOR_CURR (R236). -/
abbrev doorCurr (n : Nat) : Nat := 0x51C4 + 0x200 * n
/-- DOOR_VBUS (R236). -/
abbrev doorVbus (n : Nat) : Nat := 0x51C8 + 0x200 * n
/-- DOOR_CNT (R236). -/
abbrev doorCnt (n : Nat) : Nat := 0x51CC + 0x200 * n
/-- SAFE_STATE (R273). -/
abbrev safeState : Nat := 0x6020
/-- SAFE_CAUSE (R273). -/
abbrev safeCause : Nat := 0x6024
/-- SAFE_TRIP_TILL_L (R273). -/
abbrev safeTripTillL : Nat := 0x6028
/-- SAFE_TRIP_TILL_H (R273). -/
abbrev safeTripTillH : Nat := 0x602C
/-- SAFE_DIGEST_L (R273). -/
abbrev safeDigestL : Nat := 0x6030
/-- SAFE_DIGEST_H (R273). -/
abbrev safeDigestH : Nat := 0x6034
/-- SAFE_SET_INFO (R273). -/
abbrev safeSetInfo : Nat := 0x6038
/-- SAFE_LIMIT (R273). -/
abbrev safeLimit : Nat := 0x603C
/-- SAFE_EDM (R273). -/
abbrev safeEdm : Nat := 0x6040
/-- SAFE_CNT (R273). -/
abbrev safeCnt : Nat := 0x6044
/-- SAFE_PROOF (R273). -/
abbrev safeProof : Nat := 0x6048
/-- SAFE_PEER (R273). -/
abbrev safePeer : Nat := 0x604C
/-- SF_STAT (R274). -/
abbrev sfStat (n : Nat) : Nat := 0x6120 + 0x80 * n
/-- SF_REACT (R274). -/
abbrev sfReact (n : Nat) : Nat := 0x6124 + 0x80 * n
/-- SF_LAST_L (R274). -/
abbrev sfLastL (n : Nat) : Nat := 0x6128 + 0x80 * n
/-- SF_LAST_H (R274). -/
abbrev sfLastH (n : Nat) : Nat := 0x612C + 0x80 * n
/-- SF_IO (R274). -/
abbrev sfIo (n : Nat) : Nat := 0x6130 + 0x80 * n
/-- TN_OUT (R275). -/
abbrev tnOut : Nat := 0x6520
/-- TN_LAST_L (R275). -/
abbrev tnLastL : Nat := 0x6524
/-- TN_LAST_H (R275). -/
abbrev tnLastH : Nat := 0x6528
/-- TN_DELAY (R275). -/
abbrev tnDelay : Nat := 0x652C
/-- FLD_FUNC (R311). -/
abbrev fldFunc : Nat := 0x7020
/-- IN_STATE_L (R311). -/
abbrev inStateL : Nat := 0x7060
/-- IN_STATE_H (R311). -/
abbrev inStateH : Nat := 0x7064
/-- IN_RAW_L (R311). -/
abbrev inRawL : Nat := 0x7068
/-- IN_RAW_H (R311). -/
abbrev inRawH : Nat := 0x706C
/-- OUT_CMD (R311). -/
abbrev outCmd : Nat := 0x70A0
/-- OUT_ON (R311). -/
abbrev outOn : Nat := 0x70A4
/-- OUT_RB (R311). -/
abbrev outRb : Nat := 0x70A8
/-- OUT_LATCH (R311). -/
abbrev outLatch : Nat := 0x70AC
/-- OUT_WAIT (R311). -/
abbrev outWait : Nat := 0x70B0
/-- OUT_SHED (R311). -/
abbrev outShed : Nat := 0x70B4
/-- TP_TIMING (R311). -/
abbrev tpTiming : Nat := 0x70E0
/-- TP_STAT (R311). -/
abbrev tpStat : Nat := 0x70E4
/-- IN_CFG (R311). -/
abbrev inCfg (n : Nat) : Nat := 0x7100 + 0x4 * n
/-- PAIR_CFG (R311). -/
abbrev pairCfg (n : Nat) : Nat := 0x71C0 + 0x4 * n
/-- TPO_CFG (R311). -/
abbrev tpoCfg (n : Nat) : Nat := 0x71E0 + 0x4 * n
/-- OUT_CFG (R311). -/
abbrev outCfg (n : Nat) : Nat := 0x7200 + 0x4 * n
/-- CAN_CFG (R349). -/
abbrev canCfg (n : Nat) : Nat := 0x8040 + 0x1000 * n
/-- CAN_NBT (R349). -/
abbrev canNbt (n : Nat) : Nat := 0x8044 + 0x1000 * n
/-- CAN_DBT (R349). -/
abbrev canDbt (n : Nat) : Nat := 0x8048 + 0x1000 * n
/-- CAN_AB (R349). -/
abbrev canAb (n : Nat) : Nat := 0x804C + 0x1000 * n
/-- CAN_STAT (R349). -/
abbrev canStat (n : Nat) : Nat := 0x8050 + 0x1000 * n
/-- CAN_ERR (R349). -/
abbrev canErr (n : Nat) : Nat := 0x8054 + 0x1000 * n
/-- CAN_RXCNT (R349). -/
abbrev canRxcnt (n : Nat) : Nat := 0x8058 + 0x1000 * n
/-- CAN_TXCNT (R349). -/
abbrev canTxcnt (n : Nat) : Nat := 0x805C + 0x1000 * n
/-- CAN_DROP (R349). -/
abbrev canDrop (n : Nat) : Nat := 0x8060 + 0x1000 * n
/-- CAN_LOSS (R349). -/
abbrev canLoss (n : Nat) : Nat := 0x8064 + 0x1000 * n
/-- CAN_PXE (R349). -/
abbrev canPxe (n : Nat) : Nat := 0x8068 + 0x1000 * n
/-- CAN_CLASH (R349). -/
abbrev canClash (n : Nat) : Nat := 0x806C + 0x1000 * n
/-- CAN_CLASH_POS (R349). -/
abbrev canClashPos (n : Nat) : Nat := 0x8070 + 0x1000 * n
/-- CAN_MEM (R326). -/
abbrev canMem (n : Nat) : Nat := 0x8074 + 0x1000 * n
/-- CAN_AP_SEL (R349). -/
abbrev canApSel (n : Nat) : Nat := 0x8080 + 0x1000 * n
/-- CAN_AP_CTL (R349). -/
abbrev canApCtl (n : Nat) : Nat := 0x8084 + 0x1000 * n
/-- OBJ_CFG (R350). -/
abbrev objCfg (n : Nat) : Nat := 0x100020 + 0x80 * n
/-- OBJ_ID (R350). -/
abbrev objId (n : Nat) : Nat := 0x100024 + 0x80 * n
/-- OBJ_STAT (R350). -/
abbrev objStat (n : Nat) : Nat := 0x100028 + 0x80 * n
/-- OBJ_TILL_L (R350). -/
abbrev objTillL (n : Nat) : Nat := 0x10002C + 0x80 * n
/-- OBJ_TILL_H (R350). -/
abbrev objTillH (n : Nat) : Nat := 0x100030 + 0x80 * n
/-- OBJ_CNT (R350). -/
abbrev objCnt (n : Nat) : Nat := 0x100034 + 0x80 * n
/-- OBJ_DATA, word w (R350). -/
abbrev objData (n w : Nat) : Nat := 0x100040 + 0x80 * n + 4 * w
/-- FE_A (R350). -/
abbrev feA (n : Nat) : Nat := 0x120020 + 0x80 * n
/-- FE_B (R350). -/
abbrev feB (n : Nat) : Nat := 0x120024 + 0x80 * n
/-- FE_C (R350). -/
abbrev feC (n : Nat) : Nat := 0x120028 + 0x80 * n
/-- LINK_CFG (R388). -/
abbrev linkCfg : Nat := 0xC120
/-- LINK_STAT (R388). -/
abbrev linkStat : Nat := 0xC124
/-- LINK_SYNC (R388). -/
abbrev linkSync : Nat := 0xC128
/-- LINK_EPOCH (R388). -/
abbrev linkEpoch : Nat := 0xC12C
/-- LINK_CNT (R388). -/
abbrev linkCnt : Nat := 0xC130
/-- LINK_CNT2 (R388). -/
abbrev linkCnt2 : Nat := 0xC134
/-- TUN_STAT (R388). -/
abbrev tunStat : Nat := 0xC220
/-- TUN_CNT (R388). -/
abbrev tunCnt : Nat := 0xC224
/-- CS_SUMMARY (R388). -/
abbrev csSummary : Nat := 0xC320
/-- CS_LINK_TIME (R388). -/
abbrev csLinkTime : Nat := 0xC324
/-- CS_CFG_P (R388). -/
abbrev csCfgP (n : Nat) : Nat := 0xC420 + 0x80 * n
/-- CS_CFG_C (R388). -/
abbrev csCfgC (n : Nat) : Nat := 0xC820 + 0x80 * n
/-- CS_TIME (R388). -/
abbrev csTime (n : Nat) : Nat := 0xC424 + 0x80 * n
/-- CS_ID (R388). -/
abbrev csId (n : Nat) : Nat := 0xC428 + 0x80 * n
/-- CS_STATE (R388). -/
abbrev csState (n : Nat) : Nat := 0xC42C + 0x80 * n
/-- CS_SEQ (R388). -/
abbrev csSeq (n : Nat) : Nat := 0xC430 + 0x80 * n
/-- CS_CNT (R388). -/
abbrev csCnt (n : Nat) : Nat := 0xC434 + 0x80 * n
/-- CS_DATA, word w (R388). -/
abbrev csData (n w : Nat) : Nat := 0xC440 + 0x80 * n + 4 * w
/-- PWR_STAT (R415). -/
abbrev pwrStat : Nat := 0xD020
/-- HUSH_KEEP (R415). -/
abbrev hushKeep : Nat := 0xD024
/-- BANK_PWR0 (R415). -/
abbrev bankPwr0 : Nat := 0xD028
/-- BANK_PWR1 (R415). -/
abbrev bankPwr1 : Nat := 0xD02C
/-- VAULT_STAT (R415). -/
abbrev vaultStat : Nat := 0xD030
/-- VAULT_RTC_L (R415). -/
abbrev vaultRtcL : Nat := 0xD034
/-- VAULT_RTC_H (R415). -/
abbrev vaultRtcH : Nat := 0xD038
/-- PURSE_LIMIT (R416). -/
abbrev purseLimit (n : Nat) : Nat := 0xD120 + 0x80 * n
/-- PURSE_LEVEL (R416). -/
abbrev purseLevel (n : Nat) : Nat := 0xD124 + 0x80 * n
/-- PURSE_RESERVE (R416). -/
abbrev purseReserve (n : Nat) : Nat := 0xD128 + 0x80 * n
/-- PURSE_MEAS (R416). -/
abbrev purseMeas (n : Nat) : Nat := 0xD12C + 0x80 * n
/-- PURSE_CNT (R416). -/
abbrev purseCnt (n : Nat) : Nat := 0xD130 + 0x80 * n
/-- PURSE_HEAD (R416). -/
abbrev purseHead (n : Nat) : Nat := 0xD134 + 0x80 * n
/-- SENS_CFG (R416). -/
abbrev sensCfg : Nat := 0xD1B8
/-- CLK_STAT (R417). -/
abbrev clkStat : Nat := 0xD2A0
/-- CLK_DEV (R417). -/
abbrev clkDev (n : Nat) : Nat := 0xD2A4 + 0x4 * n
/-- SUP_VF (R418). -/
abbrev supVf (n : Nat) : Nat := 0xD320 + 0x4 * n
/-- SUP_STAT (R418). -/
abbrev supStat : Nat := 0xD330
/-- ATOMIC_RESULT_H (R433). -/
abbrev atomicResultH : Nat := 0xE020
/-- ATOMIC_STAT (R433). -/
abbrev atomicStat : Nat := 0xE024
/-- BANK_USE (R448). -/
abbrev bankUse (n : Nat) : Nat := 0xE120 + 0x40 * n
/-- BANK_ECC (R448). -/
abbrev bankEcc (n : Nat) : Nat := 0xE124 + 0x40 * n
/-- BANK_ERR_ADDR (R448). -/
abbrev bankErrAddr (n : Nat) : Nat := 0xE128 + 0x40 * n
/-- BANK_STALL (R448). -/
abbrev bankStall (n : Nat) : Nat := 0xE12C + 0x40 * n
/-- BANK_REPAIR (R448). -/
abbrev bankRepair (n : Nat) : Nat := 0xE130 + 0x40 * n
/-- BANK_SCRUB (R448). -/
abbrev bankScrub (n : Nat) : Nat := 0xE134 + 0x40 * n
/-- MARCH_STAT (R449). -/
abbrev marchStat : Nat := 0xE820
/-- MARCH_LAST (R449). -/
abbrev marchLast : Nat := 0xE824
/-- MARCH_ROUND (R449). -/
abbrev marchRound : Nat := 0xE828
/-- MARCH_CNT (R449). -/
abbrev marchCnt : Nat := 0xE82C
/-- MARCH_FAILADDR (R449). -/
abbrev marchFailaddr : Nat := 0xE830
/-- LDG_CFG (R472). -/
abbrev ldgCfg : Nat := 0xF020
/-- LDG_STAT (R472). -/
abbrev ldgStat : Nat := 0xF024
/-- LDG_SEQ_NEXT (R472). -/
abbrev ldgSeqNext : Nat := 0xF028
/-- LDG_SEQ_OLDEST (R472). -/
abbrev ldgSeqOldest : Nat := 0xF02C
/-- LDG_ARCH_FIRST (R472). -/
abbrev ldgArchFirst : Nat := 0xF030
/-- LDG_ARCH_LAST (R472). -/
abbrev ldgArchLast : Nat := 0xF034
/-- LDG_RELEASED (R472). -/
abbrev ldgReleased : Nat := 0xF038
/-- PART_STAT (R473). -/
abbrev partStat (n : Nat) : Nat := 0xF120 + 0x80 * n
/-- PART_USE (R473). -/
abbrev partUse (n : Nat) : Nat := 0xF124 + 0x80 * n
/-- PART_SEQ_FIRST (R473). -/
abbrev partSeqFirst (n : Nat) : Nat := 0xF128 + 0x80 * n
/-- PART_SEQ_LAST (R473). -/
abbrev partSeqLast (n : Nat) : Nat := 0xF12C + 0x80 * n
/-- PART_WEAR (R473). -/
abbrev partWear (n : Nat) : Nat := 0xF130 + 0x80 * n
/-- PART_WEAR_MIN (R473). -/
abbrev partWearMin (n : Nat) : Nat := 0xF134 + 0x80 * n
/-- PART_CNT (R473). -/
abbrev partCnt (n : Nat) : Nat := 0xF138 + 0x80 * n
/-- INT_STAT (R474). -/
abbrev intStat : Nat := 0xF220
/-- INT_DROP0 (R474). -/
abbrev intDrop0 : Nat := 0xF224
/-- INT_DROP1 (R474). -/
abbrev intDrop1 : Nat := 0xF228
/-- INT_DROP2 (R474). -/
abbrev intDrop2 : Nat := 0xF22C
/-- INT_DROP3 (R474). -/
abbrev intDrop3 : Nat := 0xF230
/-- INT_HUSH (R474). -/
abbrev intHush : Nat := 0xF234
/-- INT_WAIT (R474). -/
abbrev intWait : Nat := 0xF238
/-- MINT_BOOT (R505). -/
abbrev mintBoot : Nat := 0x10120
/-- MINT_SVN (R505). -/
abbrev mintSvn : Nat := 0x10124
/-- MINT_FW_DIGEST_L (R505). -/
abbrev mintFwDigestL : Nat := 0x10128
/-- MINT_FW_DIGEST_H (R505). -/
abbrev mintFwDigestH : Nat := 0x1012C
/-- MINT_ID_DIGEST_L (R505). -/
abbrev mintIdDigestL : Nat := 0x10130
/-- MINT_ID_DIGEST_H (R505). -/
abbrev mintIdDigestH : Nat := 0x10134
/-- MINT_LMS (R487). -/
abbrev mintLms : Nat := 0x10138
/-- MINT_LMS_Q (R487). -/
abbrev mintLmsQ : Nat := 0x1013C
/-- MINT_STAGE (R483). -/
abbrev mintStage : Nat := 0x10140
/-- LIFE_STATE (R506). -/
abbrev lifeState : Nat := 0x101A0
/-- LIFE_PAIR (R506). -/
abbrev lifePair : Nat := 0x101A4
/-- LIFE_PAIR_ID_L (R506). -/
abbrev lifePairIdL : Nat := 0x101A8
/-- LIFE_PAIR_ID_H (R506). -/
abbrev lifePairIdH : Nat := 0x101AC
/-- LIFE_PEER_DIGEST_L (R506). -/
abbrev lifePeerDigestL : Nat := 0x101B0
/-- LIFE_PEER_DIGEST_H (R506). -/
abbrev lifePeerDigestH : Nat := 0x101B4
/-- LIFE_LOGIN (R506). -/
abbrev lifeLogin : Nat := 0x101B8
/-- TAMP_CFG (R507). -/
abbrev tampCfg : Nat := 0x10220
/-- TAMP_STAT (R507). -/
abbrev tampStat : Nat := 0x10224
/-- TAMP_TIME_L (R507). -/
abbrev tampTimeL : Nat := 0x10228
/-- TAMP_TIME_H (R507). -/
abbrev tampTimeH : Nat := 0x1022C
/-- AUD_CFG (R547). -/
abbrev audCfg : Nat := 0x11120
/-- AUD_STAT (R547). -/
abbrev audStat : Nat := 0x11124
/-- AUD_LATE (R547). -/
abbrev audLate : Nat := 0x11128
/-- AUD_THRESH (R547). -/
abbrev audThresh : Nat := 0x1112C
/-- AUD_PATROL (R547). -/
abbrev audPatrol : Nat := 0x11130
/-- AUD_CNT (R547). -/
abbrev audCnt : Nat := 0x11134
/-- SC_STAT (R548). -/
abbrev scStat : Nat := 0x11220
/-- SC_CPL (R548). -/
abbrev scCpl : Nat := 0x11224
/-- SC_RING (R548). -/
abbrev scRing : Nat := 0x11228
/-- SC_CAN (R548). -/
abbrev scCan : Nat := 0x1122C
/-- SC_LINK (R548). -/
abbrev scLink : Nat := 0x11230
/-- SC_CS (R548). -/
abbrev scCs : Nat := 0x11234
/-- SC_CAP (R548). -/
abbrev scCap : Nat := 0x11238
/-- SC_LEDGER (R548). -/
abbrev scLedger : Nat := 0x1123C
/-- SC_BANK (R548). -/
abbrev scBank : Nat := 0x11240
/-- SC_PURSE (R548). -/
abbrev scPurse : Nat := 0x11244
/-- SC_CNT (R548). -/
abbrev scCnt : Nat := 0x11248
/-- TEL_TEMP (R549). -/
abbrev telTemp (n : Nat) : Nat := 0x11320 + 0x4 * n
/-- TEL_UPTIME (R549). -/
abbrev telUptime : Nat := 0x11330
/-- TEL_HOURS (R549). -/
abbrev telHours : Nat := 0x11334

/-- Registers from 0x0. -/
def rows0 : List RegRow :=
  [ { base := 0x20, stride := 0x4, count := 1, rst := 0x26114832 },
    { base := 0x24, stride := 0x4, count := 1 },
    { base := 0x28, stride := 0x4, count := 1 },
    { base := 0x2C, stride := 0x4, count := 1, vault := 0xFFFF },
    { base := 0x30, stride := 0x4, count := 1, rc := 0xFFFFFFFF },
    { base := 0x34, stride := 0x4, count := 1, rc := 0xFFFFFFFF },
    { base := 0x40, stride := 0x4, count := 16 } ]

/-- Registers from 0x1000. -/
def rows1 : List RegRow :=
  [ { base := 0x1020, stride := 0x4, count := 1, rw := 0x333, par := 0x333, rst := 0x221 },
    { base := 0x1024, stride := 0x4, count := 1, wo := 0xFFFFFFFF },
    { base := 0x1028, stride := 0x4, count := 1, wo := 0xFFFFFFFF },
    { base := 0x102C, stride := 0x4, count := 1, rw := 0x3F, rst := 0x22 },
    { base := 0x1030, stride := 0x4, count := 1, w1c := 0x30 },
    { base := 0x1034, stride := 0x4, count := 1, rw := 0xFF },
    { base := 0x1038, stride := 0x4, count := 1, rc := 0xFFFFFFFF },
    { base := 0x103C, stride := 0x4, count := 1, rc := 0xFFFFFF00 },
    { base := 0x1040, stride := 0x4, count := 1, rc := 0xFFFFFFFF },
    { base := 0x1044, stride := 0x4, count := 1, vault := 0xFFFF },
    { base := 0x1120, stride := 0x40, count := 16 },
    { base := 0x1124, stride := 0x40, count := 16 },
    { base := 0x1128, stride := 0x40, count := 16 },
    { base := 0x112C, stride := 0x40, count := 16 },
    { base := 0x1130, stride := 0x40, count := 16, rc := 0xFFFF0000 } ]

/-- Registers from 0x2000. -/
def rows2a : List RegRow :=
  [ { base := 0x2120, stride := 0x100, count := 3, rw := 0xFFBF, par := 0xFFBF, cfg := true, rst := 0x182 },
    { base := 0x2124, stride := 0x100, count := 3, rw := 0x1F1F1F, par := 0x1F1F1F, cfg := true, rst := 0x20202 },
    { base := 0x2128, stride := 0x100, count := 3, rw := 0x1FFFFFF, par := 0x1FFFFFF, cfg := true, rst := 0x2000 },
    { base := 0x212C, stride := 0x100, count := 3, rw := 0xFFFFFF, par := 0xFFFFFF, cfg := true },
    { base := 0x2130, stride := 0x100, count := 3 },
    { base := 0x2134, stride := 0x100, count := 3 },
    { base := 0x2138, stride := 0x100, count := 3 },
    { base := 0x213C, stride := 0x100, count := 3 },
    { base := 0x2140, stride := 0x100, count := 3 },
    { base := 0x2144, stride := 0x100, count := 3 },
    { base := 0x2148, stride := 0x100, count := 3 },
    { base := 0x214C, stride := 0x100, count := 3, rst := 0xFFFFFFFF },
    { base := 0x2420, stride := 0x80, count := 2, rw := 0x3FF, par := 0x3FF, cfg := true, rst := 0x28 },
    { base := 0x2424, stride := 0x80, count := 2 },
    { base := 0x2428, stride := 0x80, count := 2 },
    { base := 0x242C, stride := 0x80, count := 2 },
    { base := 0x2430, stride := 0x80, count := 2, rst := 0xFFFFFFFF },
    { base := 0x2434, stride := 0x80, count := 2, rc := 0xFFFFFFFF },
    { base := 0x2520, stride := 0x100, count := 2, rw := 0xFFFFFFFF, par := 0xFFFFFFFF, cfg := true, rst := 0x16031 },
    { base := 0x2524, stride := 0x100, count := 2, rw := 0xFFFF7F7F, par := 0xFFFF7F7F, cfg := true, rst := 0x1464 },
    { base := 0x2528, stride := 0x100, count := 2, rw := 0xFF, par := 0xFF, cfg := true },
    { base := 0x252C, stride := 0x100, count := 2, rw := 0xFFFFFFFF, par := 0xFFFFFFFF, cfg := true, rst := 0x64 },
    { base := 0x2530, stride := 0x100, count := 2 },
    { base := 0x2534, stride := 0x100, count := 2 } ]

/-- Registers from 0x2000. -/
def rows2b : List RegRow :=
  [ { base := 0x2538, stride := 0x100, count := 2 },
    { base := 0x253C, stride := 0x100, count := 2 },
    { base := 0x2540, stride := 0x100, count := 2 },
    { base := 0x2544, stride := 0x100, count := 2 },
    { base := 0x2548, stride := 0x100, count := 2, rc := 0xFFFFFFFF },
    { base := 0x254C, stride := 0x100, count := 2 },
    { base := 0x2720, stride := 0x80, count := 4, rw := 0xFFFF3F03, par := 0xFFFF3F03, cfg := true, rst := 0x320403 },
    { base := 0x2724, stride := 0x80, count := 4 },
    { base := 0x2728, stride := 0x80, count := 4 },
    { base := 0x272C, stride := 0x80, count := 4 },
    { base := 0x2730, stride := 0x80, count := 4, rc := 0xFFFF0000 },
    { base := 0x2734, stride := 0x80, count := 4 },
    { base := 0x2738, stride := 0x80, count := 4 },
    { base := 0x273C, stride := 0x80, count := 4 },
    { base := 0x2740, stride := 0x80, count := 4 },
    { base := 0x2744, stride := 0x80, count := 4 },
    { base := 0x2748, stride := 0x80, count := 4 },
    { base := 0x274C, stride := 0x80, count := 4 },
    { base := 0x2920, stride := 0x4, count := 1, rw := 0xFFFF077F, par := 0xFFFF077F, cfg := true, rst := 0x13 },
    { base := 0x2924, stride := 0x4, count := 1, rw := 0xFFFF7FFF, par := 0xFFFF7FFF, cfg := true, rst := 0x25682100 },
    { base := 0x2928, stride := 0x4, count := 1 },
    { base := 0x292C, stride := 0x4, count := 1 },
    { base := 0x2930, stride := 0x4, count := 1 },
    { base := 0x2934, stride := 0x4, count := 1 } ]

/-- Registers from 0x2000. -/
def rows2c : List RegRow :=
  [ { base := 0x2938, stride := 0x4, count := 1 },
    { base := 0x293C, stride := 0x4, count := 1 },
    { base := 0x2A20, stride := 0x4, count := 1, rw := 0x3F, par := 0x3F, cfg := true, rst := 0x10 },
    { base := 0x2A24, stride := 0x4, count := 1, rw := 0xFFFFFFFF, par := 0xFFFFFFFF, cfg := true, rst := 0x400 },
    { base := 0x2A28, stride := 0x4, count := 1, rw := 0xFFFFFFFF, par := 0xFFFFFFFF, cfg := true, rst := 0xF4240 },
    { base := 0x2A2C, stride := 0x4, count := 1, rw := 0xFFFFFFFF, par := 0xFFFFFFFF, cfg := true, rst := 0xF4240 },
    { base := 0x2A30, stride := 0x4, count := 1 },
    { base := 0x2A34, stride := 0x4, count := 1, rc := 0xFFFF0000 },
    { base := 0x2180, stride := 0x100, count := 3, rw := 0x7FF, par := 0x7FF, cfg := true, rst := 0x190 },
    { base := 0x2184, stride := 0x100, count := 3, rw := 0xFFFF03FF, par := 0xFFFF03FF, cfg := true, rst := 0x320014 },
    { base := 0x2188, stride := 0x100, count := 3, rst := 0x400 },
    { base := 0x218C, stride := 0x100, count := 3 },
    { base := 0x2190, stride := 0x100, count := 3 },
    { base := 0x2194, stride := 0x100, count := 3 },
    { base := 0x2198, stride := 0x100, count := 3 },
    { base := 0x219C, stride := 0x100, count := 3 },
    { base := 0x21A0, stride := 0x100, count := 3 },
    { base := 0x21A4, stride := 0x100, count := 3 },
    { base := 0x21A8, stride := 0x100, count := 3 },
    { base := 0x21AC, stride := 0x100, count := 3, rc := 0xFFFFFFFF },
    { base := 0x2580, stride := 0x100, count := 2, rw := 0x7FF, par := 0x7FF, cfg := true, rst := 0x64 },
    { base := 0x2584, stride := 0x100, count := 2, rw := 0xFFFF03FF, par := 0xFFFF03FF, cfg := true, rst := 0xA0014 },
    { base := 0x2588, stride := 0x100, count := 2, rst := 0x400 },
    { base := 0x258C, stride := 0x100, count := 2 } ]

/-- Registers from 0x2000. -/
def rows2d : List RegRow :=
  [ { base := 0x2590, stride := 0x100, count := 2 },
    { base := 0x2594, stride := 0x100, count := 2 },
    { base := 0x2598, stride := 0x100, count := 2 },
    { base := 0x259C, stride := 0x100, count := 2 },
    { base := 0x25A0, stride := 0x100, count := 2 },
    { base := 0x25A4, stride := 0x100, count := 2 },
    { base := 0x25A8, stride := 0x100, count := 2 },
    { base := 0x25AC, stride := 0x100, count := 2, rc := 0xFFFFFFFF } ]

/-- Registers from 0x3000. -/
def rows3 : List RegRow :=
  [ { base := 0x3020, stride := 0x4, count := 1, rw := 0x7FF7FFF, par := 0x7FF7FFF, cfg := true, rst := 0x640A40 },
    { base := 0x3024, stride := 0x4, count := 1, rw := 0xFFFFFFFF, par := 0xFFFFFFFF, cfg := true, rst := 0x3B9ACA00 },
    { base := 0x3028, stride := 0x4, count := 1, rw := 0xFFFFFFFF, par := 0xFFFFFFFF, cfg := true, rst := 0x2710 },
    { base := 0x302C, stride := 0x4, count := 1, rw := 0xFFFFFFFF, par := 0xFFFFFFFF, cfg := true },
    { base := 0x3030, stride := 0x4, count := 1, rw := 0x3FFFFFF, par := 0x3FFFFFF, cfg := true, rst := 0x321388 },
    { base := 0x3034, stride := 0x4, count := 1, rw := 0xFFFFFFFF, par := 0xFFFFFFFF, cfg := true, rst := 0xC801F4 },
    { base := 0x3038, stride := 0x4, count := 1, rw := 0xFFFFFFFF, par := 0xFFFFFFFF, cfg := true, rst := 0x1F407D0 },
    { base := 0x303C, stride := 0x4, count := 1, rw := 0xFFFF, par := 0xFFFF, cfg := true, rst := 0x3E8 },
    { base := 0x3040, stride := 0x4, count := 1 },
    { base := 0x3044, stride := 0x4, count := 1 },
    { base := 0x3048, stride := 0x4, count := 1 },
    { base := 0x304C, stride := 0x4, count := 1 },
    { base := 0x3050, stride := 0x4, count := 1 },
    { base := 0x3054, stride := 0x4, count := 1 },
    { base := 0x3058, stride := 0x4, count := 1 },
    { base := 0x305C, stride := 0x4, count := 1 },
    { base := 0x3060, stride := 0x4, count := 1 },
    { base := 0x3064, stride := 0x4, count := 1 },
    { base := 0x3068, stride := 0x4, count := 1 },
    { base := 0x306C, stride := 0x4, count := 1 },
    { base := 0x3070, stride := 0x4, count := 1, rc := 0xFFFFFFFF },
    { base := 0x3074, stride := 0x4, count := 1, rc := 0xFFFFFFFF } ]

/-- Registers from 0x4000. -/
def rows4a : List RegRow :=
  [ { base := 0x4120, stride := 0x4, count := 1, par := 0x3FF },
    { base := 0x4124, stride := 0x4, count := 1, par := 0xFFFFFFFF },
    { base := 0x4128, stride := 0x4, count := 1, par := 0xFFFFFFFF },
    { base := 0x412C, stride := 0x4, count := 1 },
    { base := 0x4220, stride := 0x4, count := 1, rw := 0x1FFFFFF, par := 0x1FFFFFF, cfg := true, rst := 0xF4240 },
    { base := 0x4224, stride := 0x4, count := 1, rw := 0xFFF0FFF, par := 0xFFF0FFF, cfg := true, rst := 0x3200320 },
    { base := 0x4228, stride := 0x4, count := 1, rw := 0x3FFF, par := 0x3FFF, cfg := true, rst := 0x3E8 },
    { base := 0x422C, stride := 0x4, count := 1, rw := 0x3FF03FF, par := 0x3FF03FF, cfg := true, rst := 0x12C012C },
    { base := 0x4230, stride := 0x4, count := 1, rw := 0xFFFF01FF, par := 0xFFFF01FF, cfg := true, rst := 0xA1E000A },
    { base := 0x4234, stride := 0x4, count := 1, rw := 0x3FF03FF, par := 0x3FF03FF, cfg := true, rst := 0x12C00C8 },
    { base := 0x4238, stride := 0x4, count := 1, rw := 0x7FFF7FFF, par := 0x7FFF7FFF, cfg := true, rst := 0xC803E8 },
    { base := 0x423C, stride := 0x4, count := 1, rw := 0x7FF01FF, par := 0x7FF01FF, cfg := true, rst := 0xC80064 },
    { base := 0x4240, stride := 0x4, count := 1, rw := 0x7FFFF, par := 0x7FFFF, cfg := true },
    { base := 0x4244, stride := 0x4, count := 1, rw := 0x3FFFFFFF, par := 0x3FFFFFFF, cfg := true },
    { base := 0x4248, stride := 0x4, count := 1, rw := 0x3FFFFFFF, par := 0x3FFFFFFF, cfg := true },
    { base := 0x424C, stride := 0x4, count := 1 },
    { base := 0x4250, stride := 0x4, count := 1 },
    { base := 0x4254, stride := 0x4, count := 1 },
    { base := 0x4258, stride := 0x4, count := 1 },
    { base := 0x425C, stride := 0x4, count := 1 },
    { base := 0x4260, stride := 0x4, count := 1 },
    { base := 0x4264, stride := 0x4, count := 1 },
    { base := 0x4268, stride := 0x4, count := 1 },
    { base := 0x426C, stride := 0x4, count := 1, rc := 0xFFFFFFFF } ]

/-- Registers from 0x4000. -/
def rows4b : List RegRow :=
  [ { base := 0x4270, stride := 0x4, count := 1 },
    { base := 0x4400, stride := 0x4, count := 64 },
    { base := 0x4800, stride := 0x8, count := 256, par := 0xFFFFFFFF },
    { base := 0x4804, stride := 0x8, count := 256, par := 0x1F7FFFF } ]

/-- Registers from 0x5000. -/
def rows5a : List RegRow :=
  [ { base := 0x5120, stride := 0x200, count := 1, rw := 0x3F3F7FFF, par := 0x3F3F7FFF, cfg := true, rst := 0x3F3F3F20 },
    { base := 0x5320, stride := 0x200, count := 1, rw := 0x3F3F7FFF, par := 0x3F3F7FFF, cfg := true, rst := 0x3F3F7F20 },
    { base := 0x5124, stride := 0x200, count := 2, rw := 0x1FF1FFF, par := 0x1FF1FFF, cfg := true, rst := 0x641388 },
    { base := 0x5128, stride := 0x200, count := 2, rw := 0xFFFFFFFF, par := 0xFFFFFFFF, cfg := true, rst := 0x2BC07D0 },
    { base := 0x512C, stride := 0x200, count := 2, rw := 0xFFFFFFFF, par := 0xFFFFFFFF, cfg := true, rst := 0x200C2710 },
    { base := 0x5130, stride := 0x200, count := 2, rw := 0x1FFFFF, par := 0x1FFFFF, cfg := true, rst := 0x41F40 },
    { base := 0x5134, stride := 0x200, count := 2, rw := 0xFFFFFFFF, par := 0xFFFFFFFF, cfg := true, rst := 0x32001F4 },
    { base := 0x5138, stride := 0x200, count := 2, rw := 0xFFFFF, par := 0xFFFFF, cfg := true, rst := 0x622D },
    { base := 0x513C, stride := 0x200, count := 2, rw := 0xFFFF, par := 0xFFFF, cfg := true, rst := 0x3E8 },
    { base := 0x5140, stride := 0x200, count := 2, rw := 0xFFFFFFFF, par := 0xFFFFFFFF, cfg := true, rst := 0xA286496 },
    { base := 0x5144, stride := 0x200, count := 2, rw := 0x3FF03FF, par := 0x3FF03FF, cfg := true, rst := 0x15E01F4 },
    { base := 0x5148, stride := 0x200, count := 2, rw := 0xFFF0FFF, par := 0xFFF0FFF, cfg := true, rst := 0x4B00320 },
    { base := 0x514C, stride := 0x200, count := 2, rw := 0xFFFFFF0F, par := 0xFFFFFF0F, cfg := true, rst := 0x14641403 },
    { base := 0x5150, stride := 0x200, count := 2, rw := 0xFFFF, par := 0xFFFF, cfg := true, rst := 0xA1E },
    { base := 0x5154, stride := 0x200, count := 2, rw := 0xFFFFFF, par := 0xFFFFFF, cfg := true, rst := 0x140000 },
    { base := 0x5160, stride := 0x200, count := 2, par := 0xFFFFFFFF },
    { base := 0x5164, stride := 0x200, count := 2, par := 0x1FFFF },
    { base := 0x5170, stride := 0x4, count := 16, par := 0xFFFFFFFF },
    { base := 0x5370, stride := 0x4, count := 16, par := 0xFFFFFFFF },
    { base := 0x51B0, stride := 0x200, count := 2, rst := 0xF },
    { base := 0x51B4, stride := 0x200, count := 2 },
    { base := 0x51B8, stride := 0x200, count := 2 },
    { base := 0x51BC, stride := 0x200, count := 2 },
    { base := 0x51C0, stride := 0x200, count := 2, rc := 0xFFFF0000 } ]

/-- Registers from 0x5000. -/
def rows5b : List RegRow :=
  [ { base := 0x51C4, stride := 0x200, count := 2 },
    { base := 0x51C8, stride := 0x200, count := 2 },
    { base := 0x51CC, stride := 0x200, count := 2, rc := 0xFFFFFFFF } ]

/-- Registers from 0x6000. -/
def rows6 : List RegRow :=
  [ { base := 0x6020, stride := 0x4, count := 1 },
    { base := 0x6024, stride := 0x4, count := 1 },
    { base := 0x6028, stride := 0x4, count := 1 },
    { base := 0x602C, stride := 0x4, count := 1 },
    { base := 0x6030, stride := 0x4, count := 1, par := 0xFFFFFFFF },
    { base := 0x6034, stride := 0x4, count := 1, par := 0xFFFFFFFF },
    { base := 0x6038, stride := 0x4, count := 1, par := 0xFFFFFFFF },
    { base := 0x603C, stride := 0x4, count := 1 },
    { base := 0x6040, stride := 0x4, count := 1, vault := 0x7000000, rst := 0xFF },
    { base := 0x6044, stride := 0x4, count := 1 },
    { base := 0x6048, stride := 0x4, count := 1, vault := 0x1FFFF },
    { base := 0x604C, stride := 0x4, count := 1 },
    { base := 0x6120, stride := 0x80, count := 8 },
    { base := 0x6124, stride := 0x80, count := 8 },
    { base := 0x6128, stride := 0x80, count := 8 },
    { base := 0x612C, stride := 0x80, count := 8 },
    { base := 0x6130, stride := 0x80, count := 8, par := 0xFFFFFFFF },
    { base := 0x6520, stride := 0x4, count := 1 },
    { base := 0x6524, stride := 0x4, count := 1 },
    { base := 0x6528, stride := 0x4, count := 1 },
    { base := 0x652C, stride := 0x4, count := 1 } ]

/-- Registers from 0x7000. -/
def rows7 : List RegRow :=
  [ { base := 0x7020, stride := 0x4, count := 1, par := 0xFFFFFFFF, rst := 0x3F3F3F3F },
    { base := 0x7060, stride := 0x4, count := 1 },
    { base := 0x7064, stride := 0x4, count := 1 },
    { base := 0x7068, stride := 0x4, count := 1 },
    { base := 0x706C, stride := 0x4, count := 1 },
    { base := 0x70A0, stride := 0x4, count := 1 },
    { base := 0x70A4, stride := 0x4, count := 1 },
    { base := 0x70A8, stride := 0x4, count := 1 },
    { base := 0x70AC, stride := 0x4, count := 1 },
    { base := 0x70B0, stride := 0x4, count := 1 },
    { base := 0x70B4, stride := 0x4, count := 1 },
    { base := 0x70E0, stride := 0x4, count := 1, rw := 0x7F7F, par := 0x7F7F, cfg := true, rst := 0x1E14 },
    { base := 0x70E4, stride := 0x4, count := 1 },
    { base := 0x7100, stride := 0x4, count := 48, rw := 0xFFF, par := 0xFFF, cfg := true, rst := 0xA },
    { base := 0x71C0, stride := 0x4, count := 8, rw := 0x1FF0001, par := 0x1FF0001, cfg := true, rst := 0x140000 },
    { base := 0x71E0, stride := 0x4, count := 4, rw := 0x1, par := 0x1, cfg := true, rst := 0x1 },
    { base := 0x7200, stride := 0x4, count := 32, rw := 0x3FF3FFF, par := 0x3FF3FFF, cfg := true, rst := 0x10A002A } ]

/-- Registers from 0x8000. -/
def rows8 : List RegRow :=
  [ { base := 0x8040, stride := 0x1000, count := 4, rw := 0x7F17FF, par := 0x7F17FF, cfg := true },
    { base := 0x8044, stride := 0x1000, count := 4, rw := 0xFF7F7F1F, par := 0xFF7F7F1F, cfg := true, rst := 0x7E1F1F00 },
    { base := 0x8048, stride := 0x1000, count := 4, rw := 0x1F0F0F1F, par := 0x1F0F0F1F, cfg := true, rst := 0x1C090900 },
    { base := 0x804C, stride := 0x1000, count := 4, rw := 0xFFFFFF, par := 0xFFFFFF, cfg := true, rst := 0xFFFFFF },
    { base := 0x8050, stride := 0x1000, count := 4 },
    { base := 0x8054, stride := 0x1000, count := 4 },
    { base := 0x8058, stride := 0x1000, count := 4, rc := 0xFFFFFFFF },
    { base := 0x805C, stride := 0x1000, count := 4, rc := 0xFFFFFFFF },
    { base := 0x8060, stride := 0x1000, count := 4, rc := 0xFFFFFFFF },
    { base := 0x8064, stride := 0x1000, count := 4, rc := 0xFFFFFFFF },
    { base := 0x8068, stride := 0x1000, count := 4, rc := 0xFFFFFFFF },
    { base := 0x806C, stride := 0x1000, count := 4 },
    { base := 0x8070, stride := 0x1000, count := 4 },
    { base := 0x8074, stride := 0x1000, count := 4 },
    { base := 0x8080, stride := 0x1000, count := 4, rw := 0x37F },
    { base := 0x8084, stride := 0x1000, count := 4, wo := 0x7F07 } ]

/-- Registers from 0xC000. -/
def rowsC : List RegRow :=
  [ { base := 0xC120, stride := 0x4, count := 1, rw := 0xFFF001F, par := 0xFFF001B, cfg := true, rst := 0xFA00002 },
    { base := 0xC124, stride := 0x4, count := 1 },
    { base := 0xC128, stride := 0x4, count := 1 },
    { base := 0xC12C, stride := 0x4, count := 1 },
    { base := 0xC130, stride := 0x4, count := 1, rc := 0xFFFFFFFF },
    { base := 0xC134, stride := 0x4, count := 1, rc := 0xFFFFFFFF },
    { base := 0xC220, stride := 0x4, count := 1 },
    { base := 0xC224, stride := 0x4, count := 1, rc := 0xFFFFFFFF },
    { base := 0xC320, stride := 0x4, count := 1 },
    { base := 0xC324, stride := 0x4, count := 1, par := 0xFFFFFFFF, rst := 0x140032 },
    { base := 0xC420, stride := 0x80, count := 8 },
    { base := 0xC820, stride := 0x80, count := 8, rst := 0x1 },
    { base := 0xC424, stride := 0x80, count := 16 },
    { base := 0xC428, stride := 0x80, count := 16 },
    { base := 0xC42C, stride := 0x80, count := 16 },
    { base := 0xC430, stride := 0x80, count := 16 },
    { base := 0xC434, stride := 0x80, count := 16, rc := 0xFFFFFFFF },
    { base := 0xC440, stride := 0x80, count := 16, words := 4 } ]

/-- Registers from 0xD000. -/
def rowsD : List RegRow :=
  [ { base := 0xD020, stride := 0x4, count := 1 },
    { base := 0xD024, stride := 0x4, count := 1, rw := 0x3FFFFFF, par := 0x3FFFFFF },
    { base := 0xD028, stride := 0x4, count := 1, par := 0xFFFFFFFF },
    { base := 0xD02C, stride := 0x4, count := 1, par := 0xFFFFF },
    { base := 0xD030, stride := 0x4, count := 1, vault := 0x1 },
    { base := 0xD034, stride := 0x4, count := 1, vault := 0xFFFFFFFF },
    { base := 0xD038, stride := 0x4, count := 1, vault := 0xFFFF },
    { base := 0xD120, stride := 0x80, count := 1, rw := 0xFFFF, par := 0xFFFF, cfg := true, rst := 0x1770 },
    { base := 0xD1A0, stride := 0x80, count := 1, rw := 0xFFFF, par := 0xFFFF, cfg := true, rst := 0x3E8 },
    { base := 0xD220, stride := 0x80, count := 1, rw := 0xFFFF, par := 0xFFFF, cfg := true, rst := 0x96 },
    { base := 0xD124, stride := 0x80, count := 3 },
    { base := 0xD128, stride := 0x80, count := 3 },
    { base := 0xD12C, stride := 0x80, count := 3, rc := 0xFFFF0000 },
    { base := 0xD130, stride := 0x80, count := 3, rc := 0xFFFFFFFF },
    { base := 0xD134, stride := 0x80, count := 3 },
    { base := 0xD1B8, stride := 0x4, count := 1, rw := 0xFFFFFFFF, par := 0xFFFFFFFF, cfg := true, rst := 0x520052 },
    { base := 0xD2A0, stride := 0x4, count := 1 },
    { base := 0xD2A4, stride := 0x4, count := 7, rc := 0xFFFF0000 },
    { base := 0xD320, stride := 0x4, count := 4, rc := 0xFFFF0000, rst := 0xFFFF0000 },
    { base := 0xD330, stride := 0x4, count := 1, rst := 0x6400 } ]

/-- Registers from 0xE000. -/
def rowsE : List RegRow :=
  [ { base := 0xE020, stride := 0x4, count := 1 },
    { base := 0xE024, stride := 0x4, count := 1, rc := 0x6 },
    { base := 0xE120, stride := 0x40, count := 27 },
    { base := 0xE124, stride := 0x40, count := 27, rc := 0xFFFFFFFF },
    { base := 0xE128, stride := 0x40, count := 27 },
    { base := 0xE12C, stride := 0x40, count := 27, rc := 0xFFFFFFFF },
    { base := 0xE130, stride := 0x40, count := 27 },
    { base := 0xE134, stride := 0x40, count := 27, rc := 0xFFFF0000 },
    { base := 0xE820, stride := 0x4, count := 1 },
    { base := 0xE824, stride := 0x4, count := 1 },
    { base := 0xE828, stride := 0x4, count := 1 },
    { base := 0xE82C, stride := 0x4, count := 1, rc := 0xFFFFFFFF },
    { base := 0xE830, stride := 0x4, count := 1 } ]

/-- Registers from 0xF000. -/
def rowsF : List RegRow :=
  [ { base := 0xF020, stride := 0x4, count := 1, rw := 0x3F7C, par := 0x3F7C, rst := 0xA7F },
    { base := 0xF024, stride := 0x4, count := 1 },
    { base := 0xF028, stride := 0x4, count := 1 },
    { base := 0xF02C, stride := 0x4, count := 1 },
    { base := 0xF030, stride := 0x4, count := 1 },
    { base := 0xF034, stride := 0x4, count := 1 },
    { base := 0xF038, stride := 0x4, count := 1 },
    { base := 0xF120, stride := 0x80, count := 2 },
    { base := 0xF124, stride := 0x80, count := 2 },
    { base := 0xF128, stride := 0x80, count := 2 },
    { base := 0xF12C, stride := 0x80, count := 2 },
    { base := 0xF130, stride := 0x80, count := 2 },
    { base := 0xF134, stride := 0x80, count := 2 },
    { base := 0xF138, stride := 0x80, count := 2, rc := 0xFFFFFFFF },
    { base := 0xF220, stride := 0x4, count := 1, rc := 0x1FF0000 },
    { base := 0xF224, stride := 0x4, count := 1, rc := 0xFFFFFFFF },
    { base := 0xF228, stride := 0x4, count := 1, rc := 0xFFFFFFFF },
    { base := 0xF22C, stride := 0x4, count := 1, rc := 0xFFFFFFFF },
    { base := 0xF230, stride := 0x4, count := 1, rc := 0xFFFFFFFF },
    { base := 0xF234, stride := 0x4, count := 1 },
    { base := 0xF238, stride := 0x4, count := 1, rc := 0xFFFF } ]

/-- Registers from 0x10000. -/
def rows10 : List RegRow :=
  [ { base := 0x10120, stride := 0x4, count := 1 },
    { base := 0x10124, stride := 0x4, count := 1, vault := 0xFF0000 },
    { base := 0x10128, stride := 0x4, count := 1 },
    { base := 0x1012C, stride := 0x4, count := 1 },
    { base := 0x10130, stride := 0x4, count := 1 },
    { base := 0x10134, stride := 0x4, count := 1 },
    { base := 0x10138, stride := 0x4, count := 1 },
    { base := 0x1013C, stride := 0x4, count := 1 },
    { base := 0x10140, stride := 0x4, count := 1 },
    { base := 0x101A0, stride := 0x4, count := 1 },
    { base := 0x101A4, stride := 0x4, count := 1 },
    { base := 0x101A8, stride := 0x4, count := 1 },
    { base := 0x101AC, stride := 0x4, count := 1 },
    { base := 0x101B0, stride := 0x4, count := 1 },
    { base := 0x101B4, stride := 0x4, count := 1 },
    { base := 0x101B8, stride := 0x4, count := 1, vault := 0xFFFFFFF },
    { base := 0x10220, stride := 0x4, count := 1, rw := 0x3, rwl := true, vault := 0x3, rst := 0x3 },
    { base := 0x10224, stride := 0x4, count := 1, vault := 0x11F00 },
    { base := 0x10228, stride := 0x4, count := 1, vault := 0xFFFFFFFF },
    { base := 0x1022C, stride := 0x4, count := 1, vault := 0xFFFF } ]

/-- Registers from 0x11000. -/
def rows11 : List RegRow :=
  [ { base := 0x11120, stride := 0x4, count := 1, rw := 0x7, par := 0x7, cfg := true, rst := 0x7 },
    { base := 0x11124, stride := 0x4, count := 1 },
    { base := 0x11128, stride := 0x4, count := 1 },
    { base := 0x1112C, stride := 0x4, count := 1 },
    { base := 0x11130, stride := 0x4, count := 1, rc := 0xFFFF0000, rst := 0xFFFF },
    { base := 0x11134, stride := 0x4, count := 1, rc := 0xFFFFFFFF },
    { base := 0x11220, stride := 0x4, count := 1 },
    { base := 0x11224, stride := 0x4, count := 1 },
    { base := 0x11228, stride := 0x4, count := 1 },
    { base := 0x1122C, stride := 0x4, count := 1 },
    { base := 0x11230, stride := 0x4, count := 1 },
    { base := 0x11234, stride := 0x4, count := 1 },
    { base := 0x11238, stride := 0x4, count := 1 },
    { base := 0x1123C, stride := 0x4, count := 1 },
    { base := 0x11240, stride := 0x4, count := 1 },
    { base := 0x11244, stride := 0x4, count := 1 },
    { base := 0x11248, stride := 0x4, count := 1, rc := 0xFFFFFFFF },
    { base := 0x11320, stride := 0x4, count := 4, rc := 0xFFFF0000, rst := 0x80000000 },
    { base := 0x11330, stride := 0x4, count := 1 },
    { base := 0x11334, stride := 0x4, count := 1, vault := 0xFFFFFFFF } ]

/-- Registers from 0x100000. -/
def rows100 : List RegRow :=
  [ { base := 0x100020, stride := 0x80, count := 512, rw := 0x1FF, par := 0x1FF, cfg := true, rst := 0x100 },
    { base := 0x100024, stride := 0x80, count := 512, rw := 0x3FFFFFFF, par := 0x3FFFFFFF, cfg := true },
    { base := 0x100028, stride := 0x80, count := 512 },
    { base := 0x10002C, stride := 0x80, count := 512 },
    { base := 0x100030, stride := 0x80, count := 512 },
    { base := 0x100034, stride := 0x80, count := 512, rc := 0xFFFFFFFF },
    { base := 0x100040, stride := 0x80, count := 512, words := 16, rw := 0xFFFFFFFF } ]

/-- Registers from 0x120000. -/
def rows120 : List RegRow :=
  [ { base := 0x120020, stride := 0x80, count := 512, rw := 0xFFFFFFFF, par := 0xFFFFFFFF, cfg := true },
    { base := 0x120024, stride := 0x80, count := 512, rw := 0x1FFFFFFF, par := 0x1FFFFFFF, cfg := true },
    { base := 0x120028, stride := 0x80, count := 512, rw := 0x37F, par := 0x37F, cfg := true } ]

/-- The registers of one 4 KiB page of the map. -/
def page (p : Nat) : List RegRow :=
  bif Nat.ble 0x100 p then
    bif p.blt 0x120 then rows100 else bif p.blt 0x140 then rows120 else []
  else match p with
  | 0x0 => rows0
  | 0x1 => rows1
  | 0x2 => rows2a ++ rows2b ++ rows2c ++ rows2d
  | 0x3 => rows3
  | 0x4 => rows4a ++ rows4b
  | 0x5 => rows5a ++ rows5b
  | 0x6 => rows6
  | 0x7 => rows7
  | 0x8 => rows8
  | 0xC => rowsC
  | 0xD => rowsD
  | 0xE => rowsE
  | 0xF => rowsF
  | 0x10 => rows10
  | 0x11 => rows11
  | _ => []

/-- `r` holds the word at `addr`. -/
def covers (r : RegRow) (addr : Nat) : Bool :=
  r.base.ble addr && ((addr - r.base) % r.stride).blt (4 * r.words) && ((addr - r.base) / r.stride).blt r.count &&
    ((addr - r.base) % 4).beq 0

/-- The row of the register word at `addr`, if one stands there (R35). CAN0 to CAN3 lie on four like pages
(R34), of which the first also holds the domain account; the header words of the off-map accounts are no rows
here. -/
def find (addr : Nat) : Option RegRow :=
  bif Nat.ble 0x100000 addr && (addr % 0x80).blt 0x20 then none
  else (page (bif Nat.ble 0x8000 addr && addr.blt 0xC000 then 8 else addr / 0x1000)).find? (covers · addr)

/-- What the word at `addr` reads as after a reset, before class P values are applied. -/
def resetOf (addr : Nat) : Word :=
  match find addr with
  | some r => BitVec.ofNat 32 r.rst
  | none => 0

end Reg
end Sys2Proof.Machine
end

