-- ==== Sys2Proof/Machine/Sparse.lean ====
section
/-! DEFINITION. Sparse memories in one canonical form: a list of (address, value) pairs, addresses strictly
rising, no value equal to what an unlisted address reads as. The registers, the ring bytes, the mirror and
atomic words and the parameter images are held so. -/

namespace Sys2Proof.Machine

namespace Sparse

variable {α : Type} [DecidableEq α]

/-- The value at `k`; `d k` where nothing is listed. -/
def get (d : Nat → α) : List (Nat × α) → Nat → α
  | [], k => d k
  | (a, v) :: t, k => if a = k then v else get d t k

/-- The memory with `v` at `k`; writing what an unlisted address reads as removes the entry. -/
def set (d : Nat → α) : List (Nat × α) → Nat → α → List (Nat × α)
  | [], k, v => if v = d k then [] else [(k, v)]
  | (a, w) :: t, k, v =>
    if k < a then (if v = d k then (a, w) :: t else (k, v) :: (a, w) :: t)
    else if k = a then (if v = d k then t else (k, v) :: t)
    else (a, w) :: set d t k v

/-- All entries lie at or above `lo`, rise strictly and differ from the default. -/
def wfFrom (d : Nat → α) : Nat → List (Nat × α) → Bool
  | _, [] => true
  | lo, (a, v) :: t => decide (lo ≤ a) && decide (v ≠ d a) && wfFrom d (a + 1) t

/-- The canonical form. -/
def wf (d : Nat → α) (m : List (Nat × α)) : Bool := wfFrom d 0 m

/-- Successive values from `k` on. -/
def setList (d : Nat → α) (m : List (Nat × α)) (k step : Nat) : List α → List (Nat × α)
  | [] => m
  | v :: vs => setList d (set d m k v) (k + step) step vs

/-- `n` values from `k` on. -/
def getList (d : Nat → α) (m : List (Nat × α)) (k step : Nat) : Nat → List α
  | 0 => []
  | n + 1 => get d m k :: getList d m (k + step) step n

end Sparse

/-! Lists used as fixed tables. -/

/-- The table with entry `n` changed by `f`; unchanged beyond the end. -/
def updAt {α : Type} : List α → Nat → (α → α) → List α
  | [], _, _ => []
  | x :: t, 0, f => f x :: t
  | x :: t, n + 1, f => x :: updAt t n f

/-! Lists in order. -/

/-- `x` in front of the first entry that does not come before it. -/
def insertBy {α : Type} (le : α → α → Bool) (x : α) : List α → List α
  | [] => [x]
  | y :: t => if le x y then x :: y :: t else y :: insertBy le x t

/-- The list in the order of `le`; entries that tie keep their order. -/
def sortBy {α : Type} (le : α → α → Bool) (l : List α) : List α := l.foldr (insertBy le) []

end Sys2Proof.Machine
end

