-- ==== Sys2Proof/Machine/State.lean ====
section
/-! DEFINITION. The state of the module as plain data, what right after reset it holds, and the reasons a
step can stop. -/

namespace Sys2Proof.Machine

/-- Why a step stops. -/
inductive Fault where
  /-- Raised by every command whose operands no such occurrence can have (WellFormed.lean): a frame with
  more data than its DLC carries, an address that the port cannot carry. Safe: nothing happens in the model where
  nothing can happen in the module. -/
  | illFormed
deriving DecidableEq, Repr

/-- Why a step has no meaning. -/
inductive Refusal where
  /-- Raised by a row whose meaning is not written. Safe. -/
  | notModelled (mnemonic : String)
  /-- Raised by BOUNDARY_SCAN when it selects a debug code, which R574 describes only as debug access in
  MANUFACTURE and RETURN. Safe. -/
  | debugUnit
deriving DecidableEq, Repr

/-- The sampled role (R1). -/
inductive Role where
  | none | car | machine | solo
deriving DecidableEq, Repr

/-- The event classes in the order of R70. -/
inductive EvClass where
  | safety | security | fault | motion | door | comms | info
deriving DecidableEq, Repr

/-- An event as its source raises it (R70) with the data bytes of its record (R451). -/
structure Event where
  code : Nat
  src : Nat
  cls : EvClass
  detail : Nat
  till : Nat
  data : List Byte
deriving DecidableEq, Repr

/-- A TELLER_QUEUE account's counters and flags (R57, R61). -/
structure Queue where
  prod : Nat
  cons : Nat
  lost : Nat
  cnt : Nat
  flt : Word
deriving DecidableEq, Repr

def Queue.empty : Queue := ⟨0, 0, 0, 0, 0⟩

/-- The host port: what the PAR16 latches hold (R42, R43), the QSPI status bit, and what the pads show. -/
structure Port where
  hostsel : Bool
  /-- word address and high half of the last low-half read -/
  rdLatch : Option (Nat × Half)
  /-- word address and held low half -/
  wrLatch : Option (Nat × Half)
  partWord : Bool
  mbusy : Bool
  /-- D[15:0] as last driven -/
  dout : Half
  /-- the words a QSPI read last streamed -/
  qout : List Word
  qstatus : Byte
  /-- nHIRQ low -/
  irqLow : Bool
  holdoff : Bool
deriving DecidableEq, Repr

/-- A command that the Teller has copied from a ring (R62). -/
structure Cmd where
  src : Src
  opcode : Nat
  tag : Nat
  len : Nat
  flags : Nat
  slots : Nat
  arg : Word
  pay : List Byte
deriving DecidableEq, Repr

/-- A finished command whose completion waits to be posted (R66, R67). -/
structure Done where
  opcode : Nat
  tag : Nat
  status : Nat
  result : Word
  resp : List Byte
  peer : Bool
  loc : Bool
  gen : Nat
deriving DecidableEq, Repr

/-- A long command in progress (R65, R554). -/
structure Long where
  cmd : Cmd
  units : List LongUnit
  /-- data kept for its end -/
  keep : List Byte
deriving DecidableEq, Repr

/-- The Teller firmware's own memory. -/
structure Teller where
  done : List Done
  longs : List Long
  /-- events held for EVT before RESET_NOTICE (R77) and the Comptroller's of R516 -/
  held : List Event
  /-- events EVT did not take since the last EVT_OVERFLOW (R72) -/
  lostSince : Nat
  /-- QPROD value of the last EVT_OVERFLOW entry (R71) -/
  ovfAt : Option Nat
  /-- ACC_CNT of the device account: entries posted to EVT (R25) -/
  devCnt : Nat
  /-- RESET_NOTICE has been posted -/
  noticed : Bool
  /-- a CAN_TX with replace that waits, per controller (R67, R339) -/
  replaceWait : List (Nat × Cmd)
  /-- ring words, by host address, in which a scrub found a double-bit error and which nothing has written since (R421) -/
  bad : List Nat
deriving DecidableEq, Repr

/-- One intake entry of Q5 (R451, R460, R461). -/
structure Entry where
  ev : Event
  gen : Nat
  count : Nat
  detailLast : Nat
  tillLast : Nat
  held : Bool
  recOnly : Bool
  overflow : Bool
deriving DecidableEq, Repr

/-- The state word of a Ledger sector (R454). -/
inductive SecState where
  | erased | opened | full | sealed | retired
deriving DecidableEq, Repr

/-- One record slot that is not blank: its 64 bytes, or torn (R451). -/
inductive RecSlot where
  | whole (seq : Nat) (bytes : List Byte)
  | torn
deriving DecidableEq, Repr

/-- A Ledger sector (R454). -/
structure Sector where
  st : SecState
  erases : Nat
  overflow : Bool
  fails : Nat
  slots : List RecSlot
deriving DecidableEq, Repr

def Sector.blank : Sector := ⟨.erased, 0, false, 0, []⟩

/-- A sector erase of the Ledger engine (R458). -/
structure Erase where
  sector : Nat
  waiting : Bool
  forRelease : Bool
deriving DecidableEq, Repr

/-- The Ledger: intake, flash region and engine (13_ledger.md). -/
structure Ledger where
  intake : List Entry
  /-- SAFETY and SECURITY events waiting at their sources (R460 rule 2) -/
  waiting : List Entry
  peak : Nat
  /-- cumulative drops per class (R474) -/
  drops : List Nat
  coalesced : Nat
  waits : Nat
  flt : Word
  cnt : Nat
  sumArmed : Bool
  sumDrops : List Nat
  sumFirst : Nat
  sumLast : Nat
  /-- holding buffer of HUSH (R467) -/
  hush : List Entry
  /-- remaining freeze, 100 ms units (R463) -/
  frozen : Option Nat
  /-- commits run: the boot scan has ended (R459) -/
  running : Bool
  sectors : List (Nat × Sector)
  erase : Option Erase
  nextSeq : Nat
  archFirst : Nat
  archLast : Nat
  archCount : Nat
  archDigest : List Byte
  archValid : Bool
  released : Nat
  releasing : Bool
  tornCnt : List Nat
  progFail : List Nat
  nearFull : Bool
  limitPosted : Bool
  wearPosted : Bool
deriving DecidableEq, Repr

/-- Reset kinds with the codes of R77. -/
inductive ResetKind where
  | por | bor | pin | wdt | cwd | soft | life | tamper
deriving DecidableEq, Repr

/-- How far the module has come since the last reset assertion. -/
inductive Phase where
  /-- a reset is asserted; PAR16 reads answer 0 with MBUSY (R44) -/
  | inReset
  /-- released, but the PLL does not lock (R393) -/
  | noPll
  /-- the firmware runs; RESET_NOTICE may be posted -/
  | running
  /-- Mint ROM without a valid image (R481) -/
  | bootHold
deriving DecidableEq, Repr

/-- Reset control (15_resets_persistence.md). -/
structure ResetSt where
  phase : Phase
  /-- kind of the reset in progress -/
  kind : ResetKind
  /-- the reset in progress is full (R509) -/
  full : Bool
  /-- nRST held low (R510) -/
  nrst : Bool
  /-- a SOFT reset follows a posted completion (R511) -/
  softDue : Bool
  /-- a LIFE reset follows an accepted LIFE_SET (R495) -/
  lifeDue : Bool
  /-- VDD is below its release level (R398) -/
  borHeld : Bool
deriving DecidableEq, Repr

/-- The battery-backed domain (R10 class V, 11_purse_clocks_power.md, 14_mint_lifecycle.md). -/
structure Vault where
  gen : Nat
  /-- HOST_RESET_CAUSE, four codes (R77) -/
  causes : Nat
  /-- VAULT_STAT.lost (R520) -/
  lost : Bool
  rtc : Nat
  lockout : Bool
  lockoutOut : Nat
  proofDays : Nat
  proofPass : Bool
  hours : Nat
  /-- SVN floor held in the vault (R482) -/
  floor : Nat
  certFloor : Nat
  refusals : Nat
  /-- seconds of login lockout left (R498) -/
  lockSecs : Nat
  /-- tamper latches, cause bits 0 to 4 (R500 to R502) -/
  tamper : Nat
  tamperTime : Nat
  sealValid : Bool
  /-- the tamper monitors' configuration TAMP_CFG[1:0] -/
  tampCfg : Nat
  /-- part of the next vault tick that has passed, in 1/200 000 000 (log 1) -/
  frac : Nat
deriving DecidableEq, Repr

def Vault.blank : Vault :=
  ⟨0, 0, false, 0, false, 0, 0, false, 0, 0, 0, 0, 0, 0, 0, true, 3, 0⟩

/-- The safety states of R259. -/
inductive SafeState where
  | startPending | ready | runPermitted | parked | tripped | lockout | restricted
deriving DecidableEq, Repr

/-- A request for or a grant of the SF-DZ bypass (R249). -/
structure Bypass where
  relevel : Bool
  deck : Nat
  front : Bool
  rear : Bool
deriving DecidableEq, Repr

/-- The Comptroller (07_comptroller.md) beside its registers. -/
structure Cpt where
  st : SafeState
  /-- the safety parameter set in force, in the layout of R596; empty: no valid set -/
  set : List Byte
  /-- the outputs OUT24 to OUT31 of the set that are switched on -/
  on : Nat
  /-- the trip net holds the trip group off until a SAFE_RESTART (R243) -/
  forced : Bool
  bypass : Option Bypass
  /-- detail 2 has been posted for the request that stands (R249) -/
  refused : Bool
  /-- a door pair of a bypassed port has read 0 while the bypass was granted -/
  opened : Bool
  /-- the last stationary value (R250) -/
  still : Bool
  /-- CARPOS at the first cycle with the brake applied and the contactors off (R247) -/
  creepRef : Option Int
  /-- ENC_RAW of ENC0 in the last ten cycles, newest first, and the cycles of disagreement in a row (R239) -/
  raws : List Nat
  plaus : Nat
  /-- pair values of the previous cycle -/
  pairs : Nat
  /-- Standing orders renewed its requests since the last cycle; cycles without a renewal (R243) -/
  renewed : Bool
  missed : Nat
  cycle : Nat
  /-- the latest verified peer data (R253) and whether it is valid (R254) -/
  peer : List Byte
  peerValid : Bool
  /-- some door pair has been seen at 0 since START_PENDING was entered (R261) -/
  seenZero : Bool
  /-- and afterwards every door pair at 1 -/
  seenOne : Bool
  /-- the bypass request that stands has been granted and has ended (R249) -/
  served : Bool
  /-- the parts of SAFE_PARAM_LOAD staged so far (R267) -/
  staged : List Byte
  stagedTotal : Nat
  /-- Q6 while the Teller restarts, 64 entries (R516) -/
  held : List Event
  /-- a lockout record stands in SEALED without an acknowledgement (R258) -/
  lockRecord : Bool
  /-- the peer changed, and its pairing has not been renewed (R264) -/
  peerChanged : Bool
deriving DecidableEq, Repr

def Cpt.init : Cpt :=
  ⟨.startPending, [], 0, false, none, false, false, false, none, [], 0, 0, false, 0, 0, [], false, false, false, false,
    [], 0, [], false, false⟩

/-- The reference generator (R171, R177): planned position in um, speed in um/s, acceleration in um/s². -/
structure Ref where
  pos : Rat
  v : Rat
  a : Rat
deriving DecidableEq, Repr

/-- A stop that a run is planned to (R173, R175): its slot, none for the terminal guard's, and the place. -/
structure Stop where
  slot : Option Nat
  landing : Nat
  deck : Nat
  doors : Nat
  pos : Int
  committed : Bool
deriving DecidableEq, Repr

/-- The profile engine (05_standing_orders.md) beside its registers. -/
structure Prf where
  /-- direction of the previous run, true down -/
  prevDir : Option Bool
  nextNumber : Nat
  /-- slots with the cancel mark (R169) -/
  marks : List Nat
  /-- Q7: slots accepted and not yet taken in (R168) -/
  q7 : List Nat
  ref : Ref
  /-- plan ticks missed in a row (R174) -/
  misses : Nat
  /-- step reached of the sequence of R179, R180 or R182 -/
  seqStep : Nat
  /-- a timer of R179 or R180 runs (start_delay, brake_hold) -/
  timer : Bool
  startTill : Nat
  /-- the run in progress is a re-level (R190) -/
  relevel : Bool
  /-- requests to the Comptroller: contactors, brake lift, brake at once (R179, R180, R186) -/
  askContactor : Bool
  askLift : Bool
  askBrake : Bool
  /-- the bypass request that stands (R249) -/
  askBypass : Option Bypass
  runWanted : Bool
  /-- Till at which a bypass of type RELEVEL was asked for -/
  askedAt : Nat
  /-- Till since which abs(PRF_ERR) exceeds the re-level window -/
  offSince : Option Nat
  /-- slots whose door open has been issued (R188, R189) -/
  openSent : List Nat
  /-- the target, and the stop that the car stands at in DWELL -/
  tgt : Option Stop
  stand : Option Stop
  /-- DRIVE_STAT: latest status byte and Till of the latest frame -/
  status : Nat
  statTill : Option Nat
  seq : Nat
  /-- DRIVE_REF frames queued and not confirmed: seq and Till -/
  unsent : List (Nat × Nat)
  /-- cmd byte of DRIVE_REF (R185) -/
  cmd : Nat
  /-- the working copy of LANDING_TABLE_WRITE, words by address (R161) -/
  staging : List (Nat × Word)
  /-- the object configured by DRIVE_BIND: transmit and receive -/
  txObj : Option Nat
  rxObj : Option Nat
deriving DecidableEq, Repr

def Prf.init : Prf :=
  ⟨none, 0, [], [], ⟨0, 0, 0⟩, 0, 0, false, 0, false, false, false, false, none, false, 0, none, [], none, none, 0,
    none, 0, [], 0, [], none, none⟩

/-- What the power stage is driven to (R200, R227). -/
inductive Stage where
  /-- all gates and DOORn_EN low -/
  | off
  /-- DOORn_EN high, all six gates off -/
  | idle
  /-- the modulator runs -/
  | drive
  /-- DOORn_EN high, the three low-side gates on -/
  | brake
deriving DecidableEq, Repr

/-- A request queued to a door port's next control period (R216): opcode and the time of DOOR_HOLD. -/
structure DoorReq where
  opcode : Nat
  time : Nat
deriving DecidableEq, Repr

/-- What a movement is slowing down for (R214). -/
inductive DoorGoal where
  | none | close | stall | reverse | pause
deriving DecidableEq, Repr

/-- A door port (06_door_ports.md) beside its registers. -/
structure Door where
  reqs : List DoorReq
  stage : Stage
  goal : DoorGoal
  /-- a DOOR_HOLD that takes effect at the open end, or runs; seconds, 0 until a close request -/
  hold : Option Nat
  /-- timers that run: dwell, contact (1 s), lock (2 s), obstruction time -/
  dwell : Bool
  contactWait : Bool
  lockWait : Bool
  obstSince : Option Nat
  nudged : Bool
  /-- consecutive periods with r above f_resid (R219) -/
  resid : Nat
  /-- zero force for the nudge pause (R225) -/
  paused : Bool
  lcWas : Bool
  seWas : Bool
  /-- measured position of the origin, um (R207, R229) -/
  origin : Rat
  /-- Hall steps counted, and the sector at the last period -/
  steps : Int
  sector : Nat
  /-- position and speed of the previous period -/
  pos : Rat
  spd : Rat
  /-- speed reference of the profile, um/s -/
  vref : Rat
  /-- R229: the closed end with contact has lasted since -/
  homeSince : Option Nat
  energy : Bool
  /-- the operation that ACC_CTL.hold lets finish runs (R218) -/
  busy : Bool
  learnAbort : Bool
  /-- DOORn open-request sequence of the slice (R362) -/
  openSeq : Nat
  /-- the port works on its Hall input until the next Hall edge realigns it (R228) -/
  align : Bool
  /-- start of the coast of R227 -/
  coastAt : Option Nat
  /-- ADC offsets of IU, IV, IW and VBUS in codes (R204, R234) -/
  offs : List Int
deriving DecidableEq, Repr

/-- Offsets start at mid-scale of the 14-bit code (log 11). -/
def Door.init : Door :=
  ⟨[], .off, .none, none, false, false, false, none, false, 0, false, false, false, 0, 0, 0, 0, 0, 0, none, false,
    false, false, 0, false, none, [8192, 8192, 8192, 8192]⟩

/-- A check instant of R301: Till, the output that was on there, and the readbacks. -/
structure Check where
  till : Nat
  out : Nat
  rb : Nat
deriving DecidableEq, Repr

/-- The Field engine (08_field_io.md) beside its registers. -/
structure Fio where
  /-- what the filters of IN00 to IN47 hold, before a fault forces a channel to 0 -/
  filt : Nat
  /-- filter counts of IN00 to IN47: ticks since the first that showed the new level, plus one -/
  cnt : List Nat
  /-- raw image at the before tick and the check tick of each TPO's pulse (R284) -/
  tpBefore : List Nat
  tpCheck : List Nat
  /-- checks count from this Till on (R309) -/
  tpFrom : Nat
  /-- TP_TIMING in force -/
  tpTiming : Word
  /-- RECOVER ticks of SP0 to SP7 (R290) -/
  recov : List Nat
  /-- Till of the latest turn-on of OUT00 to OUT31, and outputs restored by it (R303) -/
  onAt : List Nat
  restored : Nat
  /-- consecutive detections of OUT00 to OUT31 (R302) -/
  det : List Nat
  checks : List Check
deriving DecidableEq, Repr

def Fio.init : Fio :=
  ⟨0, List.replicate 48 0, [0, 0, 0, 0], [0, 0, 0, 0], 0, 0x1E14, List.replicate 8 0, List.replicate 32 0, 0,
    List.replicate 32 0, []⟩

/-- A grant of the Purse (R406): what the consumer draws, and the inrush shares that still count, each with
its end. -/
structure Grant where
  id : Nat
  cls : Nat
  load : Nat
  inrush : List (Nat × Nat)
deriving DecidableEq, Repr

/-- A request that waits (R407): inrush shares with their times in ms. -/
structure PurseReq where
  id : Nat
  cls : Nat
  load : Nat
  inrush : List (Nat × Nat)
  since : Nat
  /-- it was not granted at a decision; it did not fit at one -/
  listed : Bool
  unfit : Bool
  /-- Till at which it first fitted while the Shortchange delays grants (R536) -/
  fitAt : Option Nat
deriving DecidableEq, Repr

/-- A consumer that a sag shed (R409 to R411): by which threshold (0: the budget), and since when its
conditions are clear. -/
structure ShedRec where
  id : Nat
  cls : Nat
  level : Nat
  clearSince : Option Nat
deriving DecidableEq, Repr

/-- One ledger of the Purse (R406). -/
structure Purse where
  grants : List Grant
  waits : List PurseReq
  shed : List ShedRec
  lastOn : Option Nat
deriving DecidableEq, Repr

def Purse.init : Purse := ⟨[], [], [], none⟩

/-- The tunnel (R370 to R373). A message is its 4 header bytes and its body. -/
structure Tun where
  /-- Q8: messages to the peer not yet in the stream -/
  q8 : List (List Byte)
  /-- bytes of the message that the stream is in -/
  cur : List Byte
  /-- chunks sent and not yet acknowledged: number and data, oldest first -/
  unacked : List (Nat × List Byte)
  /-- chunks to send again -/
  resend : List (Nat × List Byte)
  nextSeq : Nat
  /-- number of the last chunk received in order -/
  rxSeq : Nat
  /-- cycles with unacknowledged chunks and no advance of ack -/
  stall : Nat
  /-- received stream bytes of an unfinished message -/
  rxBuf : List Byte
  /-- Q9: received messages -/
  q9 : List (List Byte)
  /-- TUNNEL_SEND messages held for the host, oldest first (R372) -/
  held : List (List Byte)
  /-- PEER commands forwarded and not yet completed (R371) -/
  outst : List Cmd
  /-- a response that arrived before its completion -/
  resp : List Byte
deriving DecidableEq, Repr

def Tun.empty : Tun := ⟨[], [], [], [], 1, 0, 0, [], [], [], [], []⟩

/-- An encoder decoder (R83 to R92). `dir`: direction memory, true forward; `last`: stamp of the last counted
edge since enable. -/
structure Enc where
  a : Bool
  b : Bool
  z : Bool
  dir : Option Bool
  /-- stamps of the latest illegal transitions, newest last, at most four (R88) -/
  ill : List Nat
  /-- extended position at the last index or enable (R91) -/
  idxRef : Int
  /-- idx_missing already raised since then -/
  missed : Bool
  last : Option Nat
deriving DecidableEq, Repr

def Enc.init : Enc := ⟨false, false, false, none, [], 0, false, none⟩

/-- An SSI port (R102 to R109). -/
structure AbsSt where
  /-- the next read that passes checks 1 to 3 is a seed read (R107) -/
  seed : Bool
  /-- the read after a seed without a speed (R129) -/
  second : Bool
  jumps : Nat
  /-- start Till of the read in progress and the data level at its first falling edge -/
  reading : Option (Nat × Bool)
deriving DecidableEq, Repr

def AbsSt.init : AbsSt := ⟨true, false, 0, none⟩

/-- Gate states (R130). -/
inductive Gate where
  | standstill | first | tracking | reversed
deriving DecidableEq, Repr

/-- A tracking observer (R126 to R131). Positions in counts, exact. -/
structure Obs where
  p : Rat
  v : Rat
  a : Rat
  /-- Till of the state -/
  tick : Nat
  /-- measurement and stamp since the last update -/
  meas : Option (Int × Nat)
  /-- an illegal transition since the last update (R128) -/
  invalid : Bool
  lastCount : Int
  /-- direction of the last edge, true forward -/
  fwd : Bool
  gate : Gate
  /-- stamp and count recorded in FIRST -/
  mark : Nat × Int
  moving : Bool
  reversal : Bool
  /-- ABS: the value before, and the direction of the last change -/
  prev : Option Int
  prevFwd : Option Bool
deriving DecidableEq, Repr

def Obs.init : Obs :=
  ⟨0, 0, 0, 0, none, false, 0, true, .standstill, (0, 0), false, false, none, none⟩

/-- The emulation outputs (R119 to R122). -/
structure Emu where
  a : Bool
  b : Bool
  z : Bool
  /-- Till of the latest output edge -/
  last : Nat
  on : Bool
deriving DecidableEq, Repr

/-- The input side of the Reckoner (03_feedback_inputs.md). -/
structure Feedback where
  enc : List Enc
  /-- stamp of the last good Hall transition -/
  hallLast : List (Option Nat)
  abs : List AbsSt
  /-- end of the holdoff (R114) -/
  capHold : List Nat
  /-- consecutive stuck reads of ACC_PORT (R117) -/
  accStuck : Nat
  emu : Emu
deriving DecidableEq, Repr

/-- A tape read on its way to fusion: stamp, value, seed read. -/
structure TapeRead where
  stamp : Nat
  value : Int
  seed : Bool
deriving DecidableEq, Repr

/-- A capture on its way to fusion or to the peer (R111 to R114, R361). -/
structure CapRec where
  ch : Nat
  stamp : Nat
  rising : Bool
deriving DecidableEq, Repr

/-- Fusion (R134 to R146). Positions in um, exact. -/
structure Fusion where
  /-- p_m of the ticks of the last 2 ms, newest first -/
  hist : List (Nat × Rat)
  slip : Rat
  zcorr : Rat
  /-- target of a capture correction in MOTOR_ONLY (R141) -/
  slipTarget : Option Rat
  /-- samples that wait for the next update -/
  tapeIn : List TapeRead
  capIn : List CapRec
  /-- stamp and p_t of the latest accepted read -/
  lastRead : Option (Nat × Rat)
  /-- consecutive residuals over track_limit -/
  overRun : Nat
  /-- the latest sample was late: FUS_LATE posts at the first -/
  lateRun : Bool
  /-- fusion's own tape observer (R138, R139) -/
  tape : Obs
  /-- mstat.valid has been given since enable -/
  confirmed : Bool
  /-- the first read of a confirmation: stamp, p_t, p_m (R143) -/
  seedRead : Option (Nat × Rat × Rat)
  /-- source 0 to 3 of R139 -/
  source : Nat
  /-- seed conflict: the capture found the tape right, SLIP to set at standstill (R142) -/
  rebase : Bool
  /-- MOTOR_ONLY waits for a seed read of the tape (R140, R146) -/
  needSeed : Bool
  /-- MACHINE: the slice's usable bit, and the link carries it (R139) -/
  sliceUsable : Bool
  deadReckon : Bool
  missedLast : Bool
  /-- travel that DR_TRAVEL counts, and the ACC_VERT sum, count and standstill time of R144 -/
  drTravel : Rat
  accSum : Int
  accN : Nat
  stillTicks : Nat
  gRefValid : Bool
  hpState : Rat
  hpIn : Rat
deriving DecidableEq, Repr

def Feedback.init : Feedback :=
  ⟨List.replicate 3 Enc.init, [none, none], [AbsSt.init, AbsSt.init], [0, 0, 0, 0], 0, ⟨false, false, false, 0, false⟩⟩

def Fusion.init : Fusion :=
  ⟨[], 0, 0, none, [], [], none, 0, false, Obs.init, false, none, 0, false, false, false, false, false, 0, 0, 0, 0,
    false, 0, 0⟩

/-- A LANDING_LEARN run (R148 to R150). -/
structure Learn where
  cap : Nat
  down : Bool
  speed : Nat
  expected : Nat
  /-- car positions of the capture edges so far, oldest first -/
  edges : List Int
  /-- the source left FULL during the run -/
  lostFull : Bool
  /-- the terminal has been reached -/
  atEnd : Bool
deriving DecidableEq, Repr

/-- A received frame in a buffer of a message object (R332, OBJ_STAT). -/
structure CanBuf where
  xtd : Bool
  id : Nat
  dlc : Nat
  fdf : Bool
  brs : Bool
  esi : Bool
  rtr : Bool
  catchAll : Bool
  element : Nat
  trunc : Bool
  till : Nat
  data : List Byte
deriving DecidableEq, Repr

/-- A message object beside its registers (R332 to R344). -/
structure CanObj where
  /-- the shadow of an RX object (R333) -/
  shadow : Option CanBuf
  /-- unread entries of a FIFO head, oldest first (R334) -/
  fifo : List CanBuf
  /-- a frame was lost during the session -/
  lost : Bool
  /-- consecutive clash errors (R344) -/
  clash : Nat
  /-- txtag and L of the pending request -/
  tag : Nat
  len : Nat
  /-- the request of R339 that waits for the attempt to end: txtag, L, data -/
  next : Option (Nat × Nat × List Byte)
  /-- an abort or a disable, and a rearm, that take effect when the attempt ends -/
  abort : Bool
  rearm : Bool
deriving DecidableEq, Repr

def CanObj.init : CanObj := ⟨none, [], false, 0, 0, 0, none, false, false⟩

/-- A rate search (R323): its phase, and the frames counted at the entry under trial. -/
structure CanSearch where
  data : Bool
  clean : Nat
deriving DecidableEq, Repr

/-- A read session (R333): its object, its start, and whether the Shortchange holds it (R536). -/
structure CanSession where
  obj : Nat
  since : Nat
  held : Bool
deriving DecidableEq, Repr

/-- A CAN controller (09_can_fd.md) beside its registers. -/
structure Canc where
  /-- 11 consecutive recessive bits are awaited -/
  waitIdle : Bool
  /-- the attempt in progress: object and Till of its SOF -/
  attempt : Option (Nat × Nat)
  session : Option CanSession
  /-- a host session that waits for the Shortchange's (R536) -/
  wanted : Option Nat
  /-- the latest store was abandoned (R330) -/
  late : Bool
  search : Option CanSearch
  txErr : Nat
  rxErr : Nat
  off : Bool
  /-- identifier and width that engine-bound RX objects are bound to (R329) -/
  binds : List (Nat × Word)
  objs : List (Nat × CanObj)
deriving DecidableEq, Repr

def Canc.init : Canc := ⟨false, none, none, none, false, none, 0, 0, false, [], []⟩

/-- The Sheic link (10_sheic_link.md) beside its registers. -/
structure LinkSt where
  /-- good frames in a row, and cycles without one (R366) -/
  good : Nat
  missed : Nat
  /-- the latest mirror slice received (R359, R360) -/
  slice : List Byte
  /-- slot B and capture entry B of the previous frame sent (R359, R382) -/
  lastPdu : List Byte
  lastCap : List Byte
  /-- captures not sent yet with their sequence numbers, and the next number (R361) -/
  caps : List (Nat × CapRec)
  capSeq : Nat
  /-- the last capture number taken (MACHINE) -/
  capTaken : Option Nat
  /-- a tape read and an ACC sample since the previous frame -/
  tape : Option TapeRead
  accNew : Bool
  /-- the last 16 measurements of theta, newest first (R363, R364) -/
  thetas : List Int
  /-- measurements in a row within 2 counts, and beyond 8 counts (R365) -/
  lockIn : Nat
  lockOut : Nat
  /-- MACHINE: cycle field and r of the latest CAR frame -/
  arrival : Option (Nat × Nat)
  /-- CAR: low cycle field and Till of its latest frames, newest first -/
  sent : List (Nat × Nat)
  /-- Till of the latest step (R364) -/
  steppedAt : Nat
  /-- door open-request sequences: sent (MACHINE), taken (CAR) (R362) -/
  reqSeq : List Nat
  taken : List Nat
  /-- the sequence has been taken, or its echo seen, since the link entered UP -/
  synced : Bool
  /-- the pairing checks: own, and the peer's header flag (R492) -/
  passed : Bool
  peerPassed : Bool
  /-- AUTO uses FALLBACK -/
  slow : Bool
  /-- the frame last sent; empty: none was sent in the last cycle -/
  tx : List Byte
  /-- the challenge of the pairing check in progress (R492) -/
  chal : List Byte
  /-- frames since the last one that an armed Shortchange touched (R536) -/
  scN : Nat
  /-- what the next tick of the CAR Till adds beside 1 (R364) -/
  trim : Int
deriving DecidableEq, Repr

def LinkSt.init : LinkSt :=
  ⟨0, 0, [], [], [], [], 0, none, none, false, [], 0, 0, none, [], 0, [0, 0], [0, 0], false, false, false, false,
    [], [], 0, 0⟩

/-- A Countersign connection (R375 to R384) beside its registers. -/
structure CsSt where
  /-- opened (R381) -/
  opened : Bool
  /-- last PDU accepted or sent -/
  last : List Byte
  /-- a baseline stands -/
  base : Bool
  /-- Till of the last accepted PDU, and of the entry into SAFE -/
  at' : Nat
  /-- o of R380 -/
  ofs : Int
  /-- PDUs sent since the producer opened, and its next seq -/
  sent : Nat
  seq : Nat
  /-- identity digest of the partner (R377) -/
  partner : List Byte
  /-- PDUs since the last skip of an armed Shortchange, and PDUs that still carry flags[2] (R536) -/
  scN : Nat
  scFlag : Nat
deriving DecidableEq, Repr

def CsSt.init : CsSt := ⟨false, [], false, 0, 0, 0, 0, [], 0, 0⟩

/-- A committed copy of the parameter store (R523, R534, R558): words by parameter index; a word not listed
holds its factory value. -/
structure ParCopy where
  valid : Bool
  count : Nat
  words : List (Nat × Word)
deriving DecidableEq, Repr

/-- The parameter store: the working image, the two copies in flash, and the stored safety set (R267, R268). -/
structure Par where
  image : List (Nat × Word)
  a : ParCopy
  b : ParCopy
  set : List Byte
deriving DecidableEq, Repr

def Par.init : Par := ⟨[], ⟨true, 0, []⟩, ⟨true, 0, []⟩, []⟩

/-- What a firmware slot holds: nothing, the factory's image, or programmed bytes (R476, R483). -/
inductive Slot where
  | erased | factory | bytes (bs : List Byte)
deriving DecidableEq, Repr

/-- The pairing record (R489). -/
structure PairRec where
  active : Bool
  /-- identity digest of the peer, and its role -/
  peer : List Byte
  role : Nat
  /-- OEM root hashes of both modules -/
  oem : List Byte
deriving DecidableEq, Repr

/-- A login record (R498, R499): its interface and the vault time at which it ends. -/
structure Login where
  iface : Nat
  ends : Nat
deriving DecidableEq, Repr

/-- The Mint: images, OTP, the records in flash and the Mint engine's work (14_mint_lifecycle.md). -/
structure Mint where
  slotA : Slot
  slotB : Slot
  /-- boot record: slot B is active, trial count, not confirmed (R479) -/
  activeB : Bool
  trial : Nat
  unconfirmed : Bool
  /-- the slot that runs is B -/
  runB : Bool
  /-- staging in flash: slot B, contiguous bytes, verified (R483) -/
  stage : Option (Bool × Nat × Bool)
  /-- OTP: RETURNED, MANUF_DONE, COMMISSIONED, steps of the counter (R482, R494) -/
  returned : Bool
  manuf : Bool
  comm : Bool
  steps : Nat
  /-- OEM root in OTP: hash of the ECDSA key, hash of the LMS key, 48 and 32 bytes; empty: none (R478) -/
  oem : List Byte
  /-- lifecycle record: SERVICE -/
  lifeRec : Option Bool
  pairRec : Option PairRec
  login : Option Login
  /-- the latest challenge: interface, bytes, Till (R498, R567) -/
  chal : Option (Nat × List Byte × Nat)
  /-- login data staged so far, and their total -/
  part : List Byte
  partTotal : Nat
  /-- LMS journal: next index, and the end of the reserved block (R487) -/
  lmsNext : Nat
  lmsEnd : Nat
  /-- the kept report with the certificate (R488) -/
  report : Option (List Byte)
deriving DecidableEq, Repr

/-- As delivered (00_scope.md, ordering codes; logs 9, 10): COMMISSION, the factory's image in both slots, no OEM root. -/
def Mint.init : Mint where
  slotA := .factory
  slotB := .factory
  activeB := false
  trial := 0
  unconfirmed := false
  runB := false
  stage := none
  returned := false
  manuf := true
  comm := false
  steps := 0
  oem := []
  lifeRec := none
  pairRec := none
  login := none
  chal := none
  part := []
  partTotal := 0
  lmsNext := 0
  lmsEnd := 0
  report := none

/-- The banks beside their registers (12_banks.md). -/
structure BankSt where
  /-- the repair map: failing rows per bank in the order of the spares, a pending row last (R441, R443) -/
  map : List (Nat × List Nat)
  mapA : Bool
  mapB : Bool
  /-- failing words of the last pass (R446) -/
  words : List Nat
  /-- the last strongroom wipe failed (R436) -/
  wipeFail : Bool
deriving DecidableEq, Repr

def BankSt.init : BankSt := ⟨[], true, true, [], false⟩

/-- The Auditor and the Shortchange beside their registers (16_auditor_service.md). -/
structure Aud where
  /-- Till at the last completion of activities 1 to 10 -/
  last : List (Option Nat)
  /-- dies at or above their warning level (R532) -/
  warm : List Bool
  /-- on and off thresholds of the last self-check in 0.1 V, its Till, and the channels posted (R530) -/
  thr : List (Nat × Nat)
  thrAt : Option Nat
  bad : List Nat
  /-- the hour's record (R533): highest temperatures, lowest and highest VF, lowest V5 and VDD, highest field
  sum, corrections, runs, closes -/
  temps : List Int
  vfLo : Nat
  vfHi : Nat
  v5Lo : Nat
  vddLo : Nat
  fieldMax : Nat
  ecc : Nat
  runs : Nat
  closes : Nat
  /-- lowest VF, V5, VDD, VBAT, SENS0, SENS1 since the last METER (R544) -/
  low : List Nat
  /-- the Shortchange acts: a cycle has shown SERVICE_RESTRICTED (R537) -/
  scLive : Bool
  /-- interface whose login armed it; none in MANUFACTURE -/
  scBy : Option Nat
  /-- Till at which its duration ends -/
  scEnds : Nat
deriving DecidableEq, Repr

def Aud.init : Aud :=
  ⟨List.replicate 10 none, List.replicate 4 false, [], none, [], List.replicate 4 (-32768), 0xFFFF, 0, 0xFFFF, 0xFFFF,
    0, 0, 0, 0, List.replicate 6 0xFFFF, false, none, 0⟩

/-- The Pliore console (R540 to R546). -/
structure Console where
  /-- Q14 and Q15 -/
  input : List Byte
  output : List Byte
  /-- output of a command that waits for room in Q15 -/
  waiting : List Byte
  /-- characters of the line being received; it is too long; a byte of it was dropped -/
  chars : Nat
  long : Bool
  overrun : Bool
  /-- the last byte was a CR that ended a line -/
  cr : Bool
  display : Option StatUnit
  /-- login data of LOGIN + lines -/
  cert : List Byte
  /-- LOAD in progress: slot B, next offset -/
  load : Option (Bool × Nat)
deriving DecidableEq, Repr

def Console.init : Console := ⟨[], [], [], 0, false, false, false, none, [], none⟩

/-- Power states (R397, R398); in VAULT only the vault domain runs. -/
inductive PwrState where
  | run | doze | hush | vault
deriving DecidableEq, Repr

/-- The JTAG TAP (R574): the instruction, the boundary cells in ascending pad number from JTAG_TDI, and what the
latest scan brought to JTAG_TDO. -/
structure Jtag where
  ir : BitVec 4
  cells : BitVec 145
  dout : BitVec 145
deriving DecidableEq, Repr

/-- IDCODE selected and cells 0 (log 8). -/
def Jtag.init : Jtag := ⟨1, 0, 0⟩

/-- The state of the module. -/
structure State where
  /-- the Till, 64 bits, 5 ns per count -/
  till : Nat
  role : Role
  rst : ResetSt
  /-- register words (RegMap.lean) and account header words -/
  regs : List (Nat × Word)
  /-- bytes of the host-visible rings (R56) -/
  ring : List Host.Cell
  /-- words of the mirror window (R48) and the atomic area (R432), by host word address -/
  mb : List (Nat × Word)
  queues : List Queue
  port : Port
  tel : Teller
  ldg : Ledger
  vault : Vault
  cpt : Cpt
  prf : Prf
  doors : List Door
  fio : Fio
  can : List Canc
  purse : List Purse
  /-- the last 20 samples of VF, newest first, 10 mV (R409) -/
  vf : List Nat
  pwr : PwrState
  par : Par
  mint : Mint
  banks : BankSt
  aud : Aud
  con : Console
  jtag : Jtag
  tun : Tun
  link : LinkSt
  cs : List CsSt
  fb : Feedback
  obs : List Obs
  fus : Fusion
  learn : Option Learn
  /-- snapshot copies of registers (R94) -/
  snap : List (Nat × Word)
  /-- index of the next free value (Config.freeWord) -/
  free : Nat
  /-- the commands that wait, first in first out -/
  pending : List Instr
deriving DecidableEq, Repr

namespace State

/-- Right after reset: the power-on reset is asserted, no flash or vault content but the factory's. -/
def reset : State where
  till := 0
  role := .solo
  rst := ⟨.inReset, .por, true, false, false, false, false⟩
  regs := []
  ring := []
  mb := []
  queues := List.replicate 16 Queue.empty
  port := ⟨false, none, none, false, true, 0, [], 0, false, false⟩
  tel := ⟨[], [], [], 0, none, 0, false, [], []⟩
  ldg := ⟨[], [], 0, List.replicate 7 0, 0, 0, 0, 0, false, List.replicate 7 0, 0, 0, [], none, false, [], none, 1,
    0, 0, 0, [], false, 0, false, [0, 0], [0, 0], false, false, false⟩
  vault := { Vault.blank with gen := 1, causes := 1 }
  cpt := Cpt.init
  prf := Prf.init
  doors := [Door.init, Door.init]
  fio := Fio.init
  can := [Canc.init, Canc.init, Canc.init, Canc.init]
  purse := [Purse.init, Purse.init, Purse.init]
  vf := []
  pwr := .run
  par := Par.init
  mint := Mint.init
  banks := BankSt.init
  aud := Aud.init
  con := Console.init
  jtag := Jtag.init
  tun := Tun.empty
  link := LinkSt.init
  cs := List.replicate 16 CsSt.init
  fb := Feedback.init
  obs := List.replicate 5 Obs.init
  fus := Fusion.init
  learn := none
  snap := []
  free := 0
  pending := []

end State

end Sys2Proof.Machine
end

