-- ==== Sys2Proof/Machine/Events.lean ====
section
/-! DEFINITION. The event codes with their classes, as the event tables of the chapters list them (R39, R70). -/

namespace Sys2Proof.Machine

/-- An event code, its class and its name (R39: a code belongs to one source class). -/
structure EvKind where
  code : Nat
  cls : EvClass
  name : String
deriving DecidableEq, Repr

namespace Ev

/-- RESET_NOTICE of DEVICE, instance 0. -/
def resetNotice : EvKind := ⟨0x0001, .info, "RESET_NOTICE"⟩
/-- EVT_OVERFLOW of TELLER_QUEUE, instance 4. -/
def evtOverflow : EvKind := ⟨0x0002, .comms, "EVT_OVERFLOW"⟩
/-- PEER_RESET of TUNNEL, instance 0. -/
def peerReset : EvKind := ⟨0x0003, .comms, "PEER_RESET"⟩
/-- ENC_QBURST of ENC. -/
def encQburst : EvKind := ⟨0x0201, .fault, "ENC_QBURST"⟩
/-- ENC_LINE of ENC. -/
def encLine : EvKind := ⟨0x0202, .fault, "ENC_LINE"⟩
/-- ENC_INDEX of ENC. -/
def encIndex : EvKind := ⟨0x0203, .fault, "ENC_INDEX"⟩
/-- HALL_INVALID of HALL. -/
def hallInvalid : EvKind := ⟨0x0211, .fault, "HALL_INVALID"⟩
/-- HALL_SKIP of HALL. -/
def hallSkip : EvKind := ⟨0x0212, .fault, "HALL_SKIP"⟩
/-- HALL_STOP of HALL. -/
def hallStop : EvKind := ⟨0x0213, .door, "HALL_STOP"⟩
/-- ABS_REJECT of ABS. -/
def absReject : EvKind := ⟨0x0221, .fault, "ABS_REJECT"⟩
/-- ABS_JUMP_LOCK of ABS. -/
def absJumpLock : EvKind := ⟨0x0222, .fault, "ABS_JUMP_LOCK"⟩
/-- ABS_STALE of ABS. -/
def absStale : EvKind := ⟨0x0223, .fault, "ABS_STALE"⟩
/-- CAP_EDGE of CAP. -/
def capEdge : EvKind := ⟨0x0231, .motion, "CAP_EDGE"⟩
/-- ACC_FAULT of ACC_PORT. -/
def accFault : EvKind := ⟨0x0241, .fault, "ACC_FAULT"⟩
/-- EMU_OFF of EMU. -/
def emuOff : EvKind := ⟨0x0251, .fault, "EMU_OFF"⟩
/-- EMU_LAG of EMU. -/
def emuLag : EvKind := ⟨0x0252, .fault, "EMU_LAG"⟩
/-- FUS_SOURCE of FUSION. -/
def fusSource : EvKind := ⟨0x0261, .motion, "FUS_SOURCE"⟩
/-- FUS_SLIP_EXCESS of FUSION. -/
def fusSlipExcess : EvKind := ⟨0x0262, .fault, "FUS_SLIP_EXCESS"⟩
/-- FUS_TRACK of FUSION. -/
def fusTrack : EvKind := ⟨0x0263, .fault, "FUS_TRACK"⟩
/-- FUS_SEED_CONFLICT of FUSION. -/
def fusSeedConflict : EvKind := ⟨0x0264, .fault, "FUS_SEED_CONFLICT"⟩
/-- FUS_ZONE_REJECT of FUSION. -/
def fusZoneReject : EvKind := ⟨0x0265, .fault, "FUS_ZONE_REJECT"⟩
/-- FUS_DEAD_RECKON of FUSION. -/
def fusDeadReckon : EvKind := ⟨0x0266, .fault, "FUS_DEAD_RECKON"⟩
/-- FUS_OVERRUN of FUSION. -/
def fusOverrun : EvKind := ⟨0x0267, .fault, "FUS_OVERRUN"⟩
/-- FUS_LATE of FUSION. -/
def fusLate : EvKind := ⟨0x0268, .comms, "FUS_LATE"⟩
/-- FUS_REBASE of FUSION. -/
def fusRebase : EvKind := ⟨0x0269, .motion, "FUS_REBASE"⟩
/-- ORDER_COMMITTED of ORDER. -/
def orderCommitted : EvKind := ⟨0x0301, .motion, "ORDER_COMMITTED"⟩
/-- ORDER_ARRIVED of ORDER. -/
def orderArrived : EvKind := ⟨0x0302, .motion, "ORDER_ARRIVED"⟩
/-- ORDER_SERVED of ORDER. -/
def orderServed : EvKind := ⟨0x0303, .motion, "ORDER_SERVED"⟩
/-- ORDER_PASSED of ORDER. -/
def orderPassed : EvKind := ⟨0x0304, .motion, "ORDER_PASSED"⟩
/-- RUN_START of PROFILE_ENGINE. -/
def runStart : EvKind := ⟨0x0305, .motion, "RUN_START"⟩
/-- RUN_END of PROFILE_ENGINE. -/
def runEnd : EvKind := ⟨0x0306, .motion, "RUN_END"⟩
/-- PRF_OVERRUN of PROFILE_ENGINE. -/
def prfOverrun : EvKind := ⟨0x0307, .fault, "PRF_OVERRUN"⟩
/-- DRIVE_LOST of PROFILE_ENGINE. -/
def driveLost : EvKind := ⟨0x0308, .fault, "DRIVE_LOST"⟩
/-- DRIVE_FAULT of PROFILE_ENGINE. -/
def driveFault : EvKind := ⟨0x0309, .fault, "DRIVE_FAULT"⟩
/-- RELEVEL of PROFILE_ENGINE. -/
def relevel : EvKind := ⟨0x030A, .motion, "RELEVEL"⟩
/-- TERMINAL_GUARD of PROFILE_ENGINE. -/
def terminalGuard : EvKind := ⟨0x030B, .fault, "TERMINAL_GUARD"⟩
/-- START_FAIL of PROFILE_ENGINE. -/
def startFail : EvKind := ⟨0x030C, .fault, "START_FAIL"⟩
/-- DOOR_STATE of DOOR_PORT. -/
def doorState : EvKind := ⟨0x0401, .door, "DOOR_STATE"⟩
/-- DOOR_OBSTRUCT of DOOR_PORT. -/
def doorObstruct : EvKind := ⟨0x0402, .door, "DOOR_OBSTRUCT"⟩
/-- DOOR_NUDGE of DOOR_PORT. -/
def doorNudge : EvKind := ⟨0x0403, .door, "DOOR_NUDGE"⟩
/-- DOOR_STALL of DOOR_PORT. -/
def doorStall : EvKind := ⟨0x0404, .door, "DOOR_STALL"⟩
/-- DOOR_FAULT of DOOR_PORT. -/
def doorFault : EvKind := ⟨0x0405, .fault, "DOOR_FAULT"⟩
/-- DOOR_ENERGY of DOOR_PORT. -/
def doorEnergy : EvKind := ⟨0x0406, .fault, "DOOR_ENERGY"⟩
/-- DOOR_LOCK_FAIL of DOOR_PORT. -/
def doorLockFail : EvKind := ⟨0x0407, .door, "DOOR_LOCK_FAIL"⟩
/-- DOOR_CMD_DROP of DOOR_PORT. -/
def doorCmdDrop : EvKind := ⟨0x0408, .door, "DOOR_CMD_DROP"⟩
/-- SAFE_STATE of COMPTROLLER. -/
def safeState : EvKind := ⟨0x0601, .safety, "SAFE_STATE"⟩
/-- SAFE_TRIP of TRIP_NET. -/
def safeTrip : EvKind := ⟨0x0602, .safety, "SAFE_TRIP"⟩
/-- SAFE_LOCKOUT of SAFETY_FUNCTION. -/
def safeLockout : EvKind := ⟨0x0603, .safety, "SAFE_LOCKOUT"⟩
/-- SAFE_BYPASS of SAFETY_FUNCTION. -/
def safeBypass : EvKind := ⟨0x0604, .safety, "SAFE_BYPASS"⟩
/-- SAFE_PARAM of COMPTROLLER. -/
def safeParam : EvKind := ⟨0x0605, .safety, "SAFE_PARAM"⟩
/-- SAFE_PROOF of TRIP_NET. -/
def safeProof : EvKind := ⟨0x0606, .safety, "SAFE_PROOF"⟩
/-- SAFE_RESTRICT of COMPTROLLER. -/
def safeRestrict : EvKind := ⟨0x0607, .safety, "SAFE_RESTRICT"⟩
/-- IN_CHANGE of INPUT_CHANNEL. -/
def inChange : EvKind := ⟨0x0501, .info, "IN_CHANGE"⟩
/-- IN_FAULT of INPUT_CHANNEL. -/
def inFault : EvKind := ⟨0x0502, .fault, "IN_FAULT"⟩
/-- PAIR_DISC of SAFETY_PAIR. -/
def pairDisc : EvKind := ⟨0x0511, .fault, "PAIR_DISC"⟩
/-- PAIR_RECOVER of SAFETY_PAIR. -/
def pairRecover : EvKind := ⟨0x0512, .info, "PAIR_RECOVER"⟩
/-- OUT_FAULT of OUTPUT_CHANNEL. -/
def outFault : EvKind := ⟨0x0521, .fault, "OUT_FAULT"⟩
/-- OUT_LATCH of OUTPUT_CHANNEL. -/
def outLatch : EvKind := ⟨0x0522, .fault, "OUT_LATCH"⟩
/-- GANG_SHARE of OUTPUT_GANG. -/
def gangShare : EvKind := ⟨0x0523, .fault, "GANG_SHARE"⟩
/-- TPO_FAULT of TESTPULSE_CHANNEL. -/
def tpoFault : EvKind := ⟨0x0531, .fault, "TPO_FAULT"⟩
/-- BUSOFF of CAN_CONTROLLER. -/
def busoff : EvKind := ⟨0x0701, .fault, "BUSOFF"⟩
/-- CAN_RECOVER of CAN_CONTROLLER. -/
def canRecover : EvKind := ⟨0x0702, .comms, "CAN_RECOVER"⟩
/-- CAN_ERR_STATE of CAN_CONTROLLER. -/
def canErrState : EvKind := ⟨0x0703, .comms, "CAN_ERR_STATE"⟩
/-- CAN_RATE of CAN_CONTROLLER. -/
def canRate : EvKind := ⟨0x0704, .comms, "CAN_RATE"⟩
/-- CAN_MEM_LATE of CAN_CONTROLLER. -/
def canMemLate : EvKind := ⟨0x0705, .fault, "CAN_MEM_LATE"⟩
/-- IDCLASH of MESSAGE_OBJECT. -/
def idclash : EvKind := ⟨0x0711, .fault, "IDCLASH"⟩
/-- CAN_RX_HI of MESSAGE_OBJECT. -/
def canRxHi : EvKind := ⟨0x0712, .comms, "CAN_RX_HI"⟩
/-- CAN_LOCK_EXPIRED of MESSAGE_OBJECT. -/
def canLockExpired : EvKind := ⟨0x0713, .comms, "CAN_LOCK_EXPIRED"⟩
/-- LINK_STATE of SHEIC_LINK. -/
def linkState : EvKind := ⟨0x0801, .comms, "LINK_STATE"⟩
/-- TILL_STEP of SHEIC_LINK. -/
def tillStep : EvKind := ⟨0x0802, .comms, "TILL_STEP"⟩
/-- LINK_FAULT of SHEIC_LINK. -/
def linkFault : EvKind := ⟨0x0803, .fault, "LINK_FAULT"⟩
/-- PEER_FAULT of SHEIC_LINK. -/
def peerFault : EvKind := ⟨0x0804, .comms, "PEER_FAULT"⟩
/-- CS_SAFE of CS_CONNECTION. -/
def csSafe : EvKind := ⟨0x0811, .fault, "CS_SAFE"⟩
/-- CS_UP of CS_CONNECTION. -/
def csUp : EvKind := ⟨0x0812, .comms, "CS_UP"⟩
/-- TUNNEL_MSG of TUNNEL. -/
def tunnelMsg : EvKind := ⟨0x0821, .comms, "TUNNEL_MSG"⟩
/-- PURSE_WAIT of PURSE. -/
def purseWait : EvKind := ⟨0x0901, .info, "PURSE_WAIT"⟩
/-- PURSE_SHED of PURSE. -/
def purseShed : EvKind := ⟨0x0902, .fault, "PURSE_SHED"⟩
/-- PURSE_RESTORE of PURSE. -/
def purseRestore : EvKind := ⟨0x0903, .info, "PURSE_RESTORE"⟩
/-- PURSE_DEFICIT of PURSE. -/
def purseDeficit : EvKind := ⟨0x0904, .fault, "PURSE_DEFICIT"⟩
/-- VF_LEVEL of SUPPLY_MONITOR. -/
def vfLevel : EvKind := ⟨0x0911, .fault, "VF_LEVEL"⟩
/-- SUPPLY_FAULT of SUPPLY_MONITOR. -/
def supplyFault : EvKind := ⟨0x0912, .fault, "SUPPLY_FAULT"⟩
/-- CLK_FAULT of CLOCK_MONITOR. -/
def clkFault : EvKind := ⟨0x0921, .fault, "CLK_FAULT"⟩
/-- PWR_STATE of POWER. -/
def pwrState : EvKind := ⟨0x0931, .info, "PWR_STATE"⟩
/-- BANK_ECC of BANK. -/
def bankEcc : EvKind := ⟨0x0A01, .fault, "BANK_ECC"⟩
/-- BANK_STALL of BANK. -/
def bankStall : EvKind := ⟨0x0A02, .fault, "BANK_STALL"⟩
/-- BANK_UNREPAIRABLE of BANK. -/
def bankUnrepairable : EvKind := ⟨0x0A03, .fault, "BANK_UNREPAIRABLE"⟩
/-- SR_WIPE of BANK. -/
def srWipe : EvKind := ⟨0x0A04, .security, "SR_WIPE"⟩
/-- MARCH_DONE of MARCH_ENGINE. -/
def marchDone : EvKind := ⟨0x0A11, .info, "MARCH_DONE"⟩
/-- MARCH_FAIL of MARCH_ENGINE. -/
def marchFail : EvKind := ⟨0x0A12, .fault, "MARCH_FAIL"⟩
/-- MARCH_LATE of MARCH_ENGINE. -/
def marchLate : EvKind := ⟨0x0A13, .fault, "MARCH_LATE"⟩
/-- LEDGER_DROP of LEDGER_INTAKE. -/
def ledgerDrop : EvKind := ⟨0x0B01, .fault, "LEDGER_DROP"⟩
/-- SEALED_FULL of LEDGER_PARTITION. -/
def sealedFull : EvKind := ⟨0x0B02, .fault, "SEALED_FULL"⟩
/-- LEDGER_FREEZE_END of LEDGER_INTAKE. -/
def ledgerFreezeEnd : EvKind := ⟨0x0B03, .info, "LEDGER_FREEZE_END"⟩
/-- LEDGER_TORN of LEDGER_PARTITION. -/
def ledgerTorn : EvKind := ⟨0x0B04, .fault, "LEDGER_TORN"⟩
/-- LEDGER_WEAR of LEDGER_PARTITION. -/
def ledgerWear : EvKind := ⟨0x0B05, .fault, "LEDGER_WEAR"⟩
/-- LEDGER_FLASH of LEDGER_PARTITION. -/
def ledgerFlash : EvKind := ⟨0x0B06, .fault, "LEDGER_FLASH"⟩
/-- LEDGER_ARCHIVED of LEDGER_PARTITION. -/
def ledgerArchived : EvKind := ⟨0x0B07, .security, "LEDGER_ARCHIVED"⟩
/-- LEDGER_RELEASED of LEDGER_PARTITION. -/
def ledgerReleased : EvKind := ⟨0x0B08, .security, "LEDGER_RELEASED"⟩
/-- MINT_FALLBACK of MINT_ENGINE. -/
def mintFallback : EvKind := ⟨0x0C01, .security, "MINT_FALLBACK"⟩
/-- MINT_LMS_LOW of MINT_ENGINE. -/
def mintLmsLow : EvKind := ⟨0x0C02, .fault, "MINT_LMS_LOW"⟩
/-- MINT_SVN of MINT_ENGINE. -/
def mintSvn : EvKind := ⟨0x0C03, .security, "MINT_SVN"⟩
/-- LIFE_CHANGE of LIFECYCLE. -/
def lifeChange : EvKind := ⟨0x0C11, .security, "LIFE_CHANGE"⟩
/-- LOGIN of LIFECYCLE. -/
def login : EvKind := ⟨0x0C12, .security, "LOGIN"⟩
/-- PEER_CHANGED of LIFECYCLE. -/
def peerChanged : EvKind := ⟨0x0C13, .security, "PEER_CHANGED"⟩
/-- PAIRED of LIFECYCLE. -/
def paired : EvKind := ⟨0x0C14, .security, "PAIRED"⟩
/-- LIFE_RECORD of LIFECYCLE. -/
def lifeRecord : EvKind := ⟨0x0C15, .security, "LIFE_RECORD"⟩
/-- TAMPER of TAMPER. -/
def tamper : EvKind := ⟨0x0C21, .security, "TAMPER"⟩
/-- AUDIT_LATE of AUDITOR_CORE. -/
def auditLate : EvKind := ⟨0x0D01, .fault, "AUDIT_LATE"⟩
/-- AUDIT_THRESH of AUDITOR_CORE. -/
def auditThresh : EvKind := ⟨0x0D02, .fault, "AUDIT_THRESH"⟩
/-- AUDIT_FLASH of AUDITOR_CORE. -/
def auditFlash : EvKind := ⟨0x0D03, .fault, "AUDIT_FLASH"⟩
/-- AUDIT_TEMP of TELEMETRY. -/
def auditTemp : EvKind := ⟨0x0D04, .fault, "AUDIT_TEMP"⟩
/-- AUDIT_HOUR of TELEMETRY. -/
def auditHour : EvKind := ⟨0x0D05, .info, "AUDIT_HOUR"⟩
/-- CONSOLE_OUT of AUDITOR_CORE. -/
def consoleOut : EvKind := ⟨0x0D06, .info, "CONSOLE_OUT"⟩
/-- SC_STATE of SHORTCHANGE. -/
def scState : EvKind := ⟨0x0D11, .security, "SC_STATE"⟩

/-- Every event code. -/
def all : List EvKind :=
  [ resetNotice, evtOverflow, peerReset, encQburst, encLine, encIndex,
    hallInvalid, hallSkip, hallStop, absReject, absJumpLock, absStale,
    capEdge, accFault, emuOff, emuLag, fusSource, fusSlipExcess,
    fusTrack, fusSeedConflict, fusZoneReject, fusDeadReckon, fusOverrun, fusLate,
    fusRebase, orderCommitted, orderArrived, orderServed, orderPassed, runStart,
    runEnd, prfOverrun, driveLost, driveFault, relevel, terminalGuard,
    startFail, doorState, doorObstruct, doorNudge, doorStall, doorFault,
    doorEnergy, doorLockFail, doorCmdDrop, safeState, safeTrip, safeLockout,
    safeBypass, safeParam, safeProof, safeRestrict, inChange, inFault,
    pairDisc, pairRecover, outFault, outLatch, gangShare, tpoFault,
    busoff, canRecover, canErrState, canRate, canMemLate, idclash,
    canRxHi, canLockExpired, linkState, tillStep, linkFault, peerFault,
    csSafe, csUp, tunnelMsg, purseWait, purseShed, purseRestore,
    purseDeficit, vfLevel, supplyFault, clkFault, pwrState, bankEcc,
    bankStall, bankUnrepairable, srWipe, marchDone, marchFail, marchLate,
    ledgerDrop, sealedFull, ledgerFreezeEnd, ledgerTorn, ledgerWear, ledgerFlash,
    ledgerArchived, ledgerReleased, mintFallback, mintLmsLow, mintSvn, lifeChange,
    login, peerChanged, paired, lifeRecord, tamper, auditLate,
    auditThresh, auditFlash, auditTemp, auditHour, consoleOut, scState ]

end Ev

end Sys2Proof.Machine
end

