-- ==== Sys2Proof/Machine/Flags.lean ====
section
/-! DEFINITION. Register words, header words and fields of the state, and the account states and fault bits
(the block's flags) as chapter 01 computes them. -/

namespace Sys2Proof.Machine

namespace State

/-- The stored word at `a`. -/
def r (s : State) (a : Nat) : Word := Sparse.get Reg.resetOf s.regs a

/-- The state with the word `v` at `a`. -/
def w (s : State) (a : Nat) (v : Word) : State :=
  { s with regs := Sparse.set Reg.resetOf s.regs a v }

/-- Field [lo+n-1:lo] of the word at `a`. -/
def rf (s : State) (a lo n : Nat) : Nat := fld (s.r a) lo n

/-- Bit `i` of the word at `a`. -/
def rb (s : State) (a i : Nat) : Bool := bit (s.r a) i

/-- The state with field [lo+n-1:lo] of the word at `a` replaced. -/
def wf (s : State) (a lo n v : Nat) : State := s.w a (putFld (s.r a) lo n v)

/-- The state with bit `i` of the word at `a` set to `b`. -/
def wb (s : State) (a i : Nat) (b : Bool) : State := s.w a (putBit (s.r a) i b)

/-- Add to a saturating counter field. -/
def addF (s : State) (a lo n k : Nat) : State := s.wf a lo n (satN (2 ^ n - 1) (s.rf a lo n + k))

/-- Raise a peak field. -/
def peakF (s : State) (a lo n v : Nat) : State :=
  if s.rf a lo n < satN (2 ^ n - 1) v then s.wf a lo n (satN (2 ^ n - 1) v) else s

/-- A 64-bit stamp into the words at `lo` and `hi`. -/
def wTill (s : State) (lo hi t : Nat) : State := (s.w lo (wOf t)).w hi (wOf (t / 2 ^ 32))

/-- The 64-bit stamp in the words at `lo` and `hi`. -/
def rTill (s : State) (lo hi : Nat) : Nat := (s.r lo).toNat + 2 ^ 32 * (s.r hi).toNat

/-- ACC_CTL of the account at `b` as stored. -/
def ctl (s : State) (b : Nat) : Word := s.r (b + 8)

/-- A queue account (R61). -/
def isQueue (b : Nat) : Bool := decide (0x1100 ≤ b) && decide (b < 0x1500)

/-- ACC_CTL.en: the device, the queues and the filter lists read 1 whatever is written (R17, R61, 09). -/
def en (s : State) (b : Nat) : Bool :=
  b == 0 || isQueue b || (decide (Acct.filterList 0 ≤ b) && decide (b < Acct.order 0)) || bit (s.ctl b) 0

/-- Set ACC_CTL.en as stored. -/
def setEn (s : State) (b : Nat) (v : Bool) : State := s.wb (b + 8) 0 v

/-- The account's own fault bits, ACC_FLT[30:0] as stored. -/
def flt (s : State) (b : Nat) : Word :=
  if isQueue b then ((s.queues.getD ((b - 0x1100) / 0x40) Queue.empty).flt)
  else if b = Acct.ledgerIntake then s.ldg.flt
  else s.r (b + 0x10)

/-- Set a fault bit of an account whose bits are register words (R23). -/
def setFlt (s : State) (b i : Nat) : State := s.wb (b + 0x10) i true

/-- Clear a fault bit. -/
def clrFlt (s : State) (b i : Nat) : State := s.wb (b + 0x10) i false

def hasFlt (s : State) (b i : Nat) : Bool := bit (s.r (b + 0x10)) i

/-- Count an event in ACC_CNT (R25). -/
def count (s : State) (b : Nat) : State := s.addF (b + 0x14) 0 32 1

/-- The state code an engine last gave its account; READY where it gave none. -/
def code (s : State) (b : Nat) : Nat := if s.rf (b + 0xC) 4 4 = 0 then 2 else s.rf (b + 0xC) 4 4

/-- An engine gives its account a state code (R21). -/
def setCode (s : State) (b c : Nat) : State := s.wf (b + 0xC) 4 4 c

/-- The safety parameter set's bytes (R596). -/
def setByte (s : State) (o : Nat) : Nat := (s.cpt.set.getD o 0).toNat

/-- A valid safety parameter set is loaded. -/
def setValid (s : State) : Bool := !s.cpt.set.isEmpty

/-- Use of safety pair `k` by the set (R596, bytes 76 to 83). -/
def pairUse (s : State) (k : Nat) : Nat := if s.setValid then s.setByte (76 + k) else 0

/-- Role of OUT24+j in the set: 0 unused, 1 BRAKE, 2 CONTACTOR, 3 LOCAL. -/
def outRole (s : State) (j : Nat) : Nat := if s.setValid then s.setByte (84 + 2 * j) % 4 else 0

/-- EDM input of OUT24+j, if it has one. -/
def edmInput (s : State) (j : Nat) : Option Nat :=
  if (s.outRole j = 1 ∨ s.outRole j = 2) ∧ s.setByte (85 + 2 * j) < 48 then some (s.setByte (85 + 2 * j)) else none

/-- Base of input channel INn (R278: plain channels, then the pairs' two). -/
def inBase (n : Nat) : Nat :=
  if n < 32 then Acct.inCh n else if n % 2 = 0 then Acct.ina ((n - 32) / 2) else Acct.inb ((n - 32) / 2)

/-- Base of output channel OUTn. -/
def outBase (n : Nat) : Nat := if n % 2 = 0 then Acct.outa (n / 2) else Acct.outb (n / 2)

/-- ACC_CTL.consolidate of a head. -/
def consolidated (s : State) (b : Nat) : Bool := bit (s.ctl b) 1

/-- The head of the group that the account at `b` is a member of (R29). -/
def headOf (s : State) (b : Nat) : Option Nat :=
  if Acct.gp 0 ≤ b ∧ b < Acct.gp 16 then
    let k := (b - Acct.gp 0) / 0x60
    let q := Acct.gp (k - k % 2)
    let quad := s.consolidated q && bit (s.ctl q) 16
    if (b - Acct.gp 0) % 0x60 = 0 then (if k % 2 = 1 ∧ quad then some q else none)
    else if quad then some q
    else if s.consolidated (Acct.gp k) then some (Acct.gp k) else none
  else if Acct.sp 0 ≤ b ∧ b < Acct.sp 8 then
    let k := (b - Acct.sp 0) / 0x60
    if (b - Acct.sp 0) % 0x60 = 0 then none
    else if s.consolidated (Acct.sp k) then some (Acct.sp k) else none
  else if Acct.bank 0 ≤ b ∧ b < Acct.bank 24 then
    let k := (b - Acct.bank 0) / 0x40
    if k % 2 = 1 ∧ s.consolidated (Acct.bank (k - 1)) then some (Acct.bank (k - 1)) else none
  else if Acct.obj 0 ≤ b ∧ b < Acct.obj 512 then
    let k := (b - Acct.obj 0) / 0x80
    let heads := (List.range (min k 31)).filter fun d =>
      (k - (d + 1)) / 128 == k / 128 && s.consolidated (Acct.obj (k - (d + 1))) &&
        decide (d + 1 ≤ fld (s.ctl (Acct.obj (k - (d + 1)))) 16 5)
    heads.head?.map fun d => Acct.obj (k - (d + 1))
  else none

/-- Where ACC_CTL.lock comes from (R19). -/
inductive Lock where
  | none | safety | lifecycle
deriving DecidableEq, Repr

/-- The IN channels that carry a pair of the set or an EDM input. -/
def inLocked (s : State) (n : Nat) : Bool :=
  (decide (32 ≤ n) && s.pairUse ((n - 32) / 2) != 0) ||
    (List.range 8).any fun j => s.edmInput j == some n

/-- The lock of the account at `b` itself: R265 and R264 for safety, R423 for the banks, R496 for TAMPER beyond
COMMISSION. -/
def ownLock (s : State) (b : Nat) : Lock :=
  if (Acct.bank 0 ≤ b ∧ b < Acct.bank 27) ∨ b = Acct.marchEngine then .lifecycle
  else if b = Acct.tamper then (if 2 ≤ s.rf Reg.lifeState 0 3 then .lifecycle else .none)
  else if b = Acct.profileEngine then
    if s.cpt.st = .restricted ∨ s.cpt.st = .lockout then .safety else .none
  else if !s.setValid then .none
  else if (b = Acct.enc 0 ∨ b = Acct.fusion) ∧ s.role ≠ .car then .safety
  else if b = Acct.abs 0 ∧ s.role ≠ .machine then .safety
  else if Acct.sp 0 ≤ b ∧ b < Acct.sp 8 then
    if s.pairUse ((b - Acct.sp 0) / 0x60) ≠ 0 then .safety
    else if (b - Acct.sp 0) % 0x60 ≠ 0 ∧
        s.inLocked (32 + 2 * ((b - Acct.sp 0) / 0x60) + ((b - Acct.sp 0) % 0x60 / 0x20 - 1)) then .safety
    else .none
  else if Acct.inCh 0 ≤ b ∧ b < Acct.inCh 32 then
    if s.inLocked ((b - Acct.inCh 0) / 0x20) then .safety else .none
  else if Acct.tpc 0 ≤ b ∧ b < Acct.tpc 4 then
    let k := (b - Acct.tpc 0) / 0x20
    if (List.range 48).any fun n => s.inLocked n && s.rf (Reg.inCfg n) 8 3 == k + 1
    then .safety else .none
  else if Acct.gp 12 ≤ b ∧ b < Acct.gp 16 then
    let k := (b - Acct.gp 0) / 0x60
    let pos := (b - Acct.gp 0) % 0x60
    if pos = 0 then
      let q := Acct.gp (k - k % 2)
      let quad := s.consolidated q && bit (s.ctl q) 16
      if (s.consolidated b && (s.outRole (2 * k - 24) != 0 || s.outRole (2 * k - 23) != 0)) ||
          (quad && (List.range 4).any fun d => s.outRole (2 * (k - k % 2) - 24 + d) != 0)
      then .safety else .none
    else if s.outRole (2 * k - 24 + (pos / 0x20 - 1)) ≠ 0 then .safety else .none
  else .none

/-- The lock that applies to the account at `b`: its own or its head's (R19). -/
def lockOf (s : State) (b : Nat) : Lock :=
  match s.ownLock b with
  | .none => match s.headOf b with
    | some h => s.ownLock h
    | none => .none
  | l => l

/-- The sampled role runs the account at `b` (R3, R14, R80, R158, R198, R245, R388). -/
def runs (s : State) (b : Nat) : Bool :=
  let car := s.role == .car
  let mac := s.role == .machine
  if s.role = .none then
    b == 0 || b == Acct.host || (isQueue b && ([0, 1, 2, 3, 4, 14, 15].contains ((b - 0x1100) / 0x40)))
  else if b = Acct.enc 0 ∨ b = Acct.emu ∨ b = Acct.fusion then !car
  else if (Acct.hall 0 ≤ b ∧ b ≤ Acct.abs 0) ∨ (Acct.cap 0 ≤ b ∧ b ≤ Acct.accPort) then !mac
  else if (0x4000 ≤ b ∧ b < 0x5000) ∨ Acct.order 0 ≤ b then !car
  else if 0x5000 ≤ b ∧ b < 0x6000 then !mac
  else if b = Acct.safetyFunction 0 ∨ b = Acct.safetyFunction 1 ∨ b = Acct.safetyFunction 3 then !mac
  else if b = Acct.safetyFunction 2 ∨ b = Acct.safetyFunction 4 ∨ b = Acct.safetyFunction 5 then !car
  else if b = Acct.safetyFunction 7 then car || mac
  else if b = Acct.sheicLink then car || mac || bit (s.r Reg.linkCfg) 2
  else if b = Acct.tunnel ∨ b = Acct.q 8 ∨ b = Acct.q 9 ∨ b = Acct.cs 0 ∨ b = Acct.cs 8 then car || mac
  else true

/-- A bank is out of service (R442). -/
def bankOut (s : State) (k : Nat) : Bool := s.rf (Acct.bank k + 0xC) 4 4 == 7

/-- State code of the device account (R595). -/
def deviceCode (s : State) : Nat :=
  if s.rst.phase = .bootHold then 5
  else if s.role = .none then 7
  else if !s.tel.noticed then 1
  else if (List.range 27).any s.bankOut then 6
  else 3

/-- LIFE_STATE.state: 0 MANUFACTURE, 1 COMMISSION, 2 OPERATE, 3 SERVICE, 4 RETURN. -/
def life (s : State) : Nat := s.rf Reg.lifeState 0 3

/-- Perturbation k of an armed Shortchange acts (R536, R537). -/
def scOn (s : State) (k : Nat) : Bool := s.aud.scLive && s.rb Reg.scStat 0 && s.rb Reg.scStat k

/-- SC_CNT counts a perturbation applied (R548). -/
def scApplied (s : State) : State := s.addF Reg.scCnt 0 32 1

/-- The producer of Qn sees it full (R536 perturbation 2). -/
def scRing (s : State) (n : Nat) : Bool := s.scOn 2 && s.rb Reg.scRing n

def updAud (s : State) (f : Aud → Aud) : State := { s with aud := f s.aud }

/-- A held port whose operation has completed (R18); only door ports are holdable. -/
def held (s : State) (b : Nat) : Bool :=
  (b == Acct.doorPort 0 || b == Acct.doorPort 1) && bit (s.ctl b) 3 && s.code b == 2

/-- ACC_STAT.state of an account as its own unit gives it (R21). -/
def ownCode (s : State) (b : Nat) : Nat :=
  if b = 0 then s.deviceCode
  else if !s.runs b then 7
  else if s.rf (b + 0xC) 4 4 = 7 then 7
  else if !s.en b then 0
  else if s.held b then 4
  else s.code b

/-- ACC_STAT.state: a member mirrors its head (R31). -/
def stateCode (s : State) (b : Nat) : Nat :=
  match s.headOf b with
  | some h => s.ownCode h
  | none => s.ownCode b

def unavailable (s : State) (b : Nat) : Bool := s.stateCode b == 7

/-- ACC_STAT.active. -/
def isActive (s : State) (b : Nat) : Bool := s.stateCode b == 3

/-- The number of a header's account under `parent` at any depth that hold a fault bit (R24). -/
def childFault (s : State) (b : Nat) : Bool :=
  (s.regs.any fun (a, v) =>
      a % 0x20 == 0x10 && decide (v ≠ 0) && (Acct.find (a - 0x10)).isSome &&
        (Acct.ancestors (a - 0x10)).contains b) ||
    ((b == 0 || b == Acct.host) && s.queues.any fun q => decide (q.flt ≠ 0)) ||
    ((b == 0 || b == Acct.ledger) && decide (s.ldg.flt ≠ 0))

end State

end Sys2Proof.Machine
end

