-- ==== Sys2Proof/Machine/Ops.lean ====
section
/-! DEFINITION. The named operations that every chapter uses: queue counters, ring bytes, the Ledger intake,
and posting an event (01_accounts.md, 02_teller.md R55 to R77, 13_ledger.md R459 to R463). -/

namespace Sys2Proof.Machine

/-- The numeric class of R70. -/
def classNum : EvClass → Nat
  | .safety => 0 | .security => 1 | .fault => 2 | .motion => 3 | .door => 4 | .comms => 5 | .info => 6

/-- SAFETY and SECURITY. -/
def classKept (c : EvClass) : Bool := decide (classNum c < 2)

namespace State

/-! Queues (R55 to R58, R61). -/

def queue (s : State) (n : Nat) : Queue := s.queues.getD n Queue.empty

def updQ (s : State) (n : Nat) (f : Queue → Queue) : State := { s with queues := updAt s.queues n f }

/-- The producer of an internal queue posts `k` entries (R61). -/
def qPosted (s : State) (n k : Nat) : State :=
  s.updQ n fun q => { q with prod := (q.prod + k) % 65536, cnt := satN 0xFFFFFFFF (q.cnt + k) }

/-- An entry dropped for lack of room (R61, QFILL.lost). -/
def qDrop (s : State) (n : Nat) : State :=
  s.updQ n fun q => { q with lost := satN 0xFFFF (q.lost + 1), flt := putBit q.flt 0 true }

/-- (QPROD - QCONS) mod 65 536. -/
def qfill (s : State) (n : Nat) : Nat := ((s.queue n).prod + 65536 - (s.queue n).cons) % 65536

/-- Slot size S in bytes (TELLER_CFG.slot_size, R60). -/
def slotSize (s : State) : Nat := 64 * 2 ^ (s.rf Reg.tellerCfg 0 2)

/-- Depth of each queue, entries or bytes (R55). -/
def qdepth (s : State) (n : Nat) : Nat :=
  match n with
  | 0 => 8 * 2 ^ (s.rf Reg.tellerCfg 4 2)
  | 1 => 8
  | 2 => 64
  | 3 => 8 * 2 ^ (s.rf Reg.tellerCfg 8 2)
  | 4 => 128
  | 5 => 256
  | 6 => 32
  | 7 => 64
  | 8 => 16
  | 9 => 16
  | 14 => 256
  | 15 => 1024
  | _ => 32

/-- Entry size of each queue in bytes (R55). -/
def qentry (s : State) (n : Nat) : Nat :=
  match n with
  | 0 => s.slotSize
  | 1 => s.slotSize
  | 3 => s.slotSize
  | 5 => 64
  | 8 => 288
  | 9 => 288
  | 14 => 1
  | 15 => 1
  | _ => 16

/-- Where a host-visible ring lies (R56); 0 for an internal queue. -/
def qbase (n : Nat) : Nat :=
  match n with
  | 0 => 0x28000
  | 1 => 0x30000
  | 2 => 0x30800
  | 3 => 0x2C000
  | 4 => 0x30C00
  | 10 => 0x31400
  | 11 => 0x31600
  | 12 => 0x31800
  | 13 => 0x31A00
  | _ => 0

/-- A ring byte; nothing written reads 0. -/
def ringByte (s : State) (a : Nat) : Byte := Sparse.get (fun _ => 0) s.ring a

def ringBytes (s : State) (a n : Nat) : List Byte := Sparse.getList (fun _ => 0) s.ring a 1 n

/-- Bytes written to the rings; a word that is written has good check bits again (R421, log 77). -/
def setRingBytes (s : State) (a : Nat) (bs : List Byte) : State :=
  { s with
    ring := Sparse.setList (fun _ => 0) s.ring a 1 bs
    tel := { s.tel with bad := s.tel.bad.filter fun x => decide (x + 4 ≤ a) || decide (a + bs.length ≤ x) } }

/-- Place of entry `i` of ring `n` (R56). -/
def ringSlot (s : State) (n i : Nat) : Nat := qbase n + i % s.qdepth n * s.qentry n

/-- A byte address of the Teller windows that a ring occupies (R56). -/
def ringHas (s : State) (a : Nat) : Bool :=
  ([0, 1, 2, 3, 4, 10, 11, 12, 13] : List Nat).any fun n => decide (qbase n ≤ a) && decide (a < qbase n + s.qdepth n * s.qentry n)

/-- The device posts one entry to ring `n`: the bytes, then QPROD and ACC_CNT (R57, R61). -/
def pushRing (s : State) (n : Nat) (bs : List Byte) : State :=
  (s.setRingBytes (s.ringSlot n (s.queue n).prod) bs).updQ n fun q =>
    { q with prod := (q.prod + 1) % 65536, cnt := satN 0xFFFFFFFF (q.cnt + 1) }

/-- Free entries of ring `n`. -/
def qroom (s : State) (n : Nat) : Nat := s.qdepth n - s.qfill n

/-- The ring accounts R55 to R61 that the host reads, zeroed by an enable of the Host domain (R59). -/
def zeroRings (s : State) : State :=
  { s with
    ring := []
    tel := { s.tel with ovfAt := none, bad := [] }
    queues := s.queues.mapIdx fun n q =>
      if n < 5 ∨ (10 ≤ n ∧ n < 14) then { q with prod := 0, cons := 0 } else q }

/-! The Ledger intake (R459 to R463, R467). -/

def updLdg (s : State) (f : Ledger → Ledger) : State := { s with ldg := f s.ldg }

/-- Entries in use. -/
def intakeFill (s : State) : Nat := s.ldg.intake.length

/-- An entry takes its place at the tail of the intake. -/
def intakeTake (e : Entry) (s : State) : State :=
  (s.qPosted 5 1).updLdg fun l =>
    { l with
      intake := l.intake ++ [e]
      cnt := satN 0xFFFFFFFF (l.cnt + 1)
      peak := if l.peak < l.intake.length + 1 then l.intake.length + 1 else l.peak }

/-- A drop for lack of room (R460 rule 5, R462). -/
def intakeDrop (e : Entry) (s : State) : State :=
  (s.qDrop 5).updLdg fun l =>
    { l with
      drops := updAt l.drops (classNum e.ev.cls) fun n => satN 0xFFFF (n + 1)
      sumDrops := updAt l.sumDrops (classNum e.ev.cls) fun n => satN 0xFFFF (n + 1)
      sumFirst := if l.sumArmed then l.sumFirst else e.ev.till
      sumLast := e.ev.till
      sumArmed := true
      flt := putBit l.flt 1 true }

/-- The newest entry that an INFO event joins: same code and source, count below 65 535 (R461). -/
def coalesceTarget (e : Entry) (l : List Entry) : Option Nat :=
  ((List.range l.length).filter fun i =>
    match l[i]? with
    | some x => x.ev.cls == .info && x.ev.code == e.ev.code && x.ev.src == e.ev.src && decide (x.count < 65535)
    | none => false).getLast?

def intakeCoalesce (e : Entry) (i : Nat) (s : State) : State :=
  s.updLdg fun l =>
    { l with
      intake := updAt l.intake i fun x =>
        { x with count := x.count + 1, detailLast := e.ev.detail, tillLast := e.ev.till }
      coalesced := satN 0xFFFF (l.coalesced + 1) }

/-- The class bit of LDG_CFG (R459). -/
def classTaken (s : State) (c : EvClass) : Bool := classKept c || bit (s.r Reg.ldgCfg) (classNum c)

/-- The order of R460 for one arriving entry; in HUSH the holding buffer of R467. -/
def intakeOrder (e : Entry) (s : State) : State :=
  let fill := if s.scRing 5 then 256 else s.intakeFill
  if s.pwr = .hush then
    if s.ldg.hush.length < (if classKept e.ev.cls then 16 else 12) then
      s.updLdg fun l => { l with hush := l.hush ++ [{ e with held := true }] }
    else s.intakeDrop e
  else if classKept e.ev.cls then
    if fill < 256 then s.intakeTake e
    else s.updLdg fun l =>
      { l with waiting := l.waiting ++ [e], waits := satN 0xFFFF (l.waits + 1), flt := putBit l.flt 2 true }
  else
    match (if e.ev.cls = .info ∧ 192 ≤ fill then coalesceTarget e s.ldg.intake else none) with
    | some i => s.intakeCoalesce e i
    | none => if fill < 224 then s.intakeTake e else s.intakeDrop e

/-- An event reaches the intake: its class bit decides (R459). -/
def intakeArrive (e : Entry) (s : State) : State :=
  if s.rst.phase = .running ∧ s.classTaken e.ev.cls then s.intakeOrder e else s

/-- The entry that an event takes (R451). -/
def entryOf (s : State) (e : Event) (recOnly : Bool) : Entry :=
  { ev := e, gen := s.vault.gen, count := 1, detailLast := e.detail, tillLast := e.till, held := false,
    recOnly := recOnly, overflow := false }

/-! The EVT ring (R70, R71, R77). -/

/-- The 16 bytes of an EVT entry (R70). -/
def evtBytes (s : State) (e : Event) : List Byte :=
  leBytes 2 e.code ++ leBytes 2 e.src ++ leBytes 2 s.vault.gen ++ leBytes 1 (classNum e.cls) ++
    leBytes 1 e.detail ++ leBytes 8 e.till

/-- Post one entry to EVT; the device's ACC_CNT counts it (R25). -/
def evtPush (s : State) (e : Event) : State :=
  let s := s.pushRing 4 (s.evtBytes e)
  { s with tel := { s.tel with devCnt := satN 0xFFFFFFFF (s.tel.devCnt + 1) } }

/-- An event that EVT does not take: counted and flagged (R71). -/
def evtLost (s : State) : State :=
  let s := s.qDrop 4
  { s with tel := { s.tel with lostSince := satN 255 (s.tel.lostSince + 1) } }

/-- An EVT_OVERFLOW entry still waits in EVT (R71). -/
def ovfQueued (s : State) : Bool :=
  match s.tel.ovfAt with
  | some p => decide ((p + 65536 - (s.queue 4).cons) % 65536 < s.qfill 4)
  | none => false

/-- Post EVT_OVERFLOW with the events that EVT did not take since the last one (R72). -/
def evtOverflow (s : State) : State :=
  let p := (s.queue 4).prod
  let s' := s.evtPush { code := Ev.evtOverflow.code, src := 4, cls := Ev.evtOverflow.cls,
                        detail := satN 255 s.tel.lostSince, till := s.till, data := [] }
  { s' with tel := { s'.tel with lostSince := 0, ovfAt := some p } }

/-- After losses that EVT_OVERFLOW has not reported, it is the next entry (R71). -/
def overflowFirst (s : State) : State :=
  if s.tel.noticed && s.tel.lostSince != 0 && !s.ovfQueued then s.evtOverflow else s

/-- An event reaches EVT (R71, R77): held before RESET_NOTICE, and in HUSH until the wake (log 76); lost while the
Host domain is disabled or the ring is full but for its last entry. -/
def evtArrive (e : Event) (s : State) : State :=
  if s.rst.phase ≠ .running then s
  else if s.pwr = .hush then { s with tel := { s.tel with held := s.tel.held ++ [e] } }
  else if !s.tel.noticed then
    if s.tel.held.length < 64 then { s with tel := { s.tel with held := s.tel.held ++ [e] } } else s.evtLost
  else if !s.en Acct.host || s.scRing 4 then s.evtLost
  else if s.qfill 4 < 127 then s.evtPush e
  else
    let s := s.evtLost
    if s.qfill 4 = 127 ∧ !s.ovfQueued then s.evtOverflow else s

/-- An event goes to the Ledger intake and to EVT independently (R70). -/
def postEvent (s : State) (e : Event) : State := (s.intakeArrive (s.entryOf e false)).evtArrive e

/-- The freeze ends; LEDGER_FREEZE_END is posted with the cause (R463). -/
def endFreeze (s : State) (detail : Nat) : State :=
  if s.ldg.frozen.isSome then
    let s := s.updLdg fun l => { l with frozen := none }
    s.postEvent { code := Ev.ledgerFreezeEnd.code, src := 0, cls := Ev.ledgerFreezeEnd.cls,
                  detail := detail, till := s.till, data := [] }
  else s

/-- A SAFETY or SECURITY event that arrives at fill 224 or more ends a freeze (R463 detail 2). -/
def freezeCheck (s : State) (c : EvClass) : State :=
  if classKept c ∧ 224 ≤ s.intakeFill then s.endFreeze 2 else s

/-- An account posts an event: its kind, its instance, the detail byte and the record's data. -/
def postD (s : State) (k : EvKind) (src detail : Nat) (data : List Byte) : State :=
  (s.freezeCheck k.cls).postEvent
    { code := k.code, src := src, cls := k.cls, detail := detail % 256, till := s.till, data := data }

/-- An account posts an event without data. -/
def post (s : State) (k : EvKind) (src detail : Nat) : State := s.postD k src detail []

/-- A record-only entry: the intake takes it, no ring does (R459). -/
def postRecord (s : State) (k : EvKind) (src detail : Nat) (data : List Byte) : State :=
  s.intakeArrive (s.entryOf { code := k.code, src := src, cls := k.cls, detail := detail % 256, till := s.till, data := data } true)

/-- A fault bit sets and its event is posted. -/
def fault (s : State) (b i : Nat) (k : EvKind) (src detail : Nat) : State := (s.setFlt b i).post k src detail

/-- DOZE ends at a command, a doorbell, an event of a waking unit or a change of the Comptroller's state (R398, R399). -/
def leaveDoze (s : State) : State :=
  if s.pwr = .doze then (({ s with pwr := .run }).wf Reg.pwrStat 0 2 0).post Ev.pwrState 0 0 else s

/-! Instances. -/

/-- The next free value's index is used up. -/
def takeFree (s : State) : State := { s with free := s.free + 1 }

/-! ECC (R421). -/

/-- BANK_ERR_ADDR; the syndrome is a free value (log 13). -/
def eccAddr (s : State) (k word : Nat) (double : Bool) : State :=
  (s.w (Reg.bankErrAddr k)
    (wOf (word % 16384 + (if double then 16384 else 0) + 65536 * fld (Config.freeWord s.free) 0 7))).takeFree

/-- A double-bit error is flagged, recorded and posted: detail 1 on a read, 2 by the scrub. -/
def eccFlag (s : State) (k word detail : Nat) : State :=
  ((s.addF (Reg.bankEcc k) 16 16 1).eccAddr k word true).fault (Acct.bank k) 1 Ev.bankEcc k detail

/-- Bank and word of a word of the Teller windows: they fill B22 and then B23 (R423, R424; log 77). -/
def windowPlace (a : Nat) : Nat × Nat := (22 + (a - 0x28000) / 4 / 16384, (a - 0x28000) / 4 % 16384)

/-- Ring words with a double-bit error are read: each is flagged (R421). -/
def eccReads (s : State) (l : List Nat) : State :=
  l.foldl (fun s a => s.eccFlag (windowPlace a).1 (windowPlace a).2 1) s

/-- Till increments as 64 bits. -/
def sub64 (a b : Nat) : Nat := (a + 2 ^ 64 - b % 2 ^ 64) % 2 ^ 64

end State

end Sys2Proof.Machine
end

