-- ==== Sys2Proof/Machine/Operands.lean ====
section
/-! DEFINITION. The operand forms of a Teller command: how it is fetched from its ring or from the tunnel,
the checks 1 to 3, 10 and 11 of R552 that every command passes, and how it completes (02_teller.md R62 to
R69, R79; 17_commands.md R551 to R555). -/

namespace Sys2Proof.Machine

/-- What a completion carries: status (R69), result and response bytes. -/
structure Reply where
  status : Nat
  result : Word
  resp : List Byte
deriving DecidableEq, Repr

namespace Reply

def ok (result : Word) (resp : List Byte := []) : Reply := ⟨0, result, resp⟩
def busy : Reply := ⟨1, 0, []⟩
def badParam (o : Nat) : Reply := ⟨4, wOf o, []⟩
/-- BAD_PARAM for the arg field (R552 check 7). -/
def badArg : Reply := ⟨4, 0xFFFFFF08, []⟩
def badState (res : Word := 0) : Reply := ⟨5, res, []⟩
def denied (res : Word := 0) : Reply := ⟨6, res, []⟩
def noSpace : Reply := ⟨7, 0, []⟩
def timeout (res : Word := 0) : Reply := ⟨8, res, []⟩
def hwFault (res : Word) : Reply := ⟨9, res, []⟩
def peerAbsent : Reply := ⟨10, 0, []⟩
def inhibit (res : Word := 0) : Reply := ⟨11, res, []⟩
def peerChanged : Reply := ⟨12, 0, []⟩

end Reply

/-- One row of the command tables: opcode, URG eligibility (R74), class (R65), the payload lengths of R551,
which form of the opcode the row stands for, the units of R554, the checks 4 to 10 of R552 in order, and the
effect with its completion. No completion: it is posted later. -/
structure CmdRow where
  opcode : Nat
  urg : Bool := false
  long : Bool := false
  len : Nat → Bool := fun n => n == 0
  form : Cmd → Bool := fun _ => true
  units : Cmd → List LongUnit := fun _ => []
  pre : Cmd → State → Option Reply := fun _ _ => none
  run : Cmd → State → State × Option Reply

namespace Cmd

/-- PEER = 1 (R62). -/
def peer (c : Cmd) : Bool := c.flags / 4 % 2 == 1

/-- Register image i of a payload of register images. -/
def img (c : Cmd) (i : Nat) : Word := wordAt c.pay (4 * i)

/-- arg[lo+n-1:lo]. -/
def argF (c : Cmd) (lo n : Nat) : Nat := fld c.arg lo n

/-- Every arg bit outside `m` is 0 (R551). -/
def argOnly (c : Cmd) (m : Nat) : Bool := c.arg &&& ~~~(BitVec.ofNat 32 m) == 0#32

end Cmd

namespace State

/-- Ring of a source. -/
def srcRing : Src → Nat
  | .cmd => 0 | .urg => 1 | .peer => 9

/-- Header bytes of the slot at counter `i` of ring `q`. -/
def slotHdr (s : State) (q i : Nat) : List Byte := s.ringBytes (s.ringSlot q i) 16

/-- CONT of a slot (R62). -/
def slotCont (s : State) (q i : Nat) : Bool := (s.slotHdr q i).getD 6 0 % 2 == 1

/-- Slots that a command of length L needs (R63). -/
def slotsFor (s : State) (len : Nat) : Nat := max 1 ((len + (s.slotSize - 16) - 1) / (s.slotSize - 16))

/-- Payload of a command of `len` bytes whose first slot is `i` (R63). -/
def slotPay (s : State) (q i len : Nat) : List Byte :=
  ((List.range (s.slotsFor len)).flatMap fun k =>
    s.ringBytes (s.ringSlot q (i + k) + 16) (s.slotSize - 16)).take len

/-- Continuation slot `k` repeats bytes [0..7] of the first slot with CONT set (R63, R64). -/
def contOk (s : State) (q i k : Nat) : Bool :=
  let h0 := s.slotHdr q i
  let h := s.slotHdr q (i + k)
  (h.take 6 == h0.take 6) && (h.getD 7 0 == h0.getD 7 0) && s.slotCont q (i + k) &&
    (h.getD 6 0).toNat / 2 == (h0.getD 6 0).toNat / 2

/-- The command at the front of a host ring: its fields, the slots that its fetch releases, and whether it
keeps the slot rules (R64). -/
def ringFront (s : State) (src : Src) : Option (Cmd × Nat × Bool × List Byte) :=
  let q := srcRing src
  let i := (s.queue q).cons
  let fill := s.qfill q
  if fill = 0 ∨ s.slotCont q i then none
  else
    let h := s.slotHdr q i
    let len := leAt h 4 2
    let n := leAt h 7 1
    let good := decide (len ≤ 256) && (n == s.slotsFor len) && decide (n ≤ fill) &&
      (List.range (n - 1)).all fun k => s.contOk q i (k + 1)
    let conts := ((List.range (min n fill - 1)).takeWhile fun k => s.slotCont q (i + k + 1)).length
    some ({ src := src, opcode := leAt h 0 2, tag := leAt h 2 2, len := len, flags := leAt h 6 1, slots := n,
            arg := wordAt h 8, pay := if good then s.slotPay q i len else [] },
          (if good then n else 1 + conts), good, h.drop 12)

/-- Words with a double-bit error in the first n slots at the front of ring `q` (R421). -/
def badSlots (s : State) (q n : Nat) : List Nat :=
  s.tel.bad.filter fun a => (List.range n).any fun k =>
    let b := s.ringSlot q ((s.queue q).cons + k)
    decide (b ≤ a) && decide (a < b + s.slotSize)

/-- A command message of the peer: header and payload joined (R371). -/
def peerFront (s : State) : Option (Cmd × List (List Byte)) :=
  match s.tun.q9 with
  | m :: rest =>
    if m.getD 0 0 = 1 then
      let h := m.drop 4
      some ({ src := .peer, opcode := leAt h 0 2, tag := leAt h 2 2, len := leAt h 4 2, flags := leAt h 6 1,
              slots := leAt h 7 1, arg := wordAt h 8, pay := padTo (leAt h 4 2) (h.drop 16) }, rest)
    else none
  | [] => none

/-- A message with its header (R370). -/
def tunMsg (kind : Nat) (body : List Byte) : List Byte :=
  leBytes 1 kind ++ [0] ++ leBytes 2 body.length ++ body

/-- A message joins Q8; the caller has seen that it has room. -/
def tunPost (s : State) (kind : Nat) (body : List Byte) : State :=
  { s.qPosted 8 1 with tun := { s.tun with q8 := s.tun.q8 ++ [tunMsg kind body] } }

/-- The 16 bytes of a completion entry (R66); the RSP fields are filled when it is posted. -/
def cplBytes (d : Done) (rspIndex : Nat) : List Byte :=
  leBytes 2 d.opcode ++ leBytes 2 d.tag ++ leBytes 1 d.status ++
    leBytes 1 ((if d.resp.isEmpty then 0 else 1) + (if d.peer then 2 else 0) + (if d.loc then 4 else 0)) ++
    leBytes 2 d.gen ++ leBytes 4 d.result.toNat ++ leBytes 2 rspIndex ++ leBytes 2 d.resp.length

/-- A finished command: its completion waits for room in CPL and RSP, or returns through the tunnel (R67,
R371). -/
def complete (s : State) (c : Cmd) (rp : Reply) (loc : Bool := false) : State :=
  let d : Done := { opcode := c.opcode, tag := c.tag, status := rp.status, result := rp.result, resp := rp.resp,
                    peer := c.peer, loc := loc, gen := s.vault.gen }
  if c.src = .peer then
    let s := if d.resp.isEmpty then s else s.tunPost 3 (leBytes 2 d.opcode ++ leBytes 2 d.tag ++ d.resp)
    s.tunPost 2 (cplBytes d 0)
  else { s with tel := { s.tel with done := s.tel.done ++ [d] } }

/-- The Teller may fetch: the firmware runs (in BOOT_HOLD the Mint ROM answers), RESET_NOTICE is out, the Host
domain is enabled, CPL has room, and the Teller core is not stopped (R44, R59, R67, R397). -/
def mayFetch (s : State) : Bool :=
  (s.rst.phase == .running || s.rst.phase == .bootHold) && s.tel.noticed && s.en Acct.host &&
    decide (s.qfill 2 < 64) && !s.scRing 2 && s.pwr != .hush && s.pwr != .vault

/-- The Teller releases slots of a host ring: QCONS advances and slot_free sets (R57, R60). -/
def release (s : State) (q n : Nat) : State :=
  (s.updQ q fun x => { x with cons := (x.cons + n) % 65536 }).wb Reg.tellerIrqStat 4 true

/-- Opcodes of the opcode map (R555). -/
def knownOpcode (op : Nat) : Bool :=
  [0x0001, 0x0002, 0x0003, 0x0004, 0x0005, 0x0006, 0x0007, 0x0101, 0x0102, 0x0103, 0x0104, 0x0105,
   0x0201, 0x0202, 0x0203, 0x0204, 0x0205, 0x0206, 0x0207, 0x0208, 0x0301, 0x0302, 0x0303, 0x0304, 0x0305,
   0x0306, 0x0307, 0x0401, 0x0402, 0x0403, 0x0404, 0x0405, 0x0406, 0x0407, 0x0501, 0x0502, 0x0503, 0x0504,
   0x0505, 0x0601, 0x0602, 0x0603, 0x0604, 0x0605, 0x0701, 0x0702, 0x0703, 0x0704, 0x0705, 0x0706, 0x0707,
   0x0801, 0x0802, 0x0803, 0x0804, 0x0805, 0x0901, 0x0902, 0x0903, 0x0904, 0x0A01, 0x0A02, 0x0A03, 0x0B01,
   0x0B02, 0x0B03, 0x0B04, 0x0B05, 0x0C01, 0x0C02, 0x0C03, 0x0C04, 0x0C05, 0x0C06, 0x0C07, 0x0D01, 0x0D02,
   0x0D03, 0x0D04].contains op

/-- Check 1 of R552: BOOT_HOLD or ROLE_INVALID, and not GET_INFO. -/
def check1 (s : State) (op : Nat) : Option Reply :=
  if op = 0x0002 then none
  else if s.rst.phase = .bootHold then some (.badState 4)
  else if s.role = .none then some (.badState 6)
  else none

/-- Check 3 of R552: the header rules of R62, then the slot rules of R64, then the length of R551. -/
def check3 (c : Cmd) (released : Nat) (good : Bool) (tail : List Byte) (len : Nat → Bool) : Option Reply :=
  if c.flags / 8 ≠ 0 ∨ c.flags % 2 ≠ 0 then some (.badParam 0xFFFFFF06)
  else if c.src ≠ Src.peer ∧ (c.flags / 2 % 2 == 1) ≠ (c.src == Src.urg) then some (.badParam 0xFFFFFF06)
  else if tail.any (· ≠ 0) then some (.badParam 0xFFFFFF0C)
  else if !good then some ⟨3, wOf released, []⟩
  else if !len c.len then some (.badParam 0xFFFFFF04)
  else none

/-- Slots with CONT at the place where a command must start: released, counted as orphans (R64). -/
def orphanRun (s : State) (q : Nat) : Nat :=
  ((List.range (s.qfill q)).takeWhile fun k => s.slotCont q ((s.queue q).cons + k)).length

def dropOrphans (s : State) (q : Nat) : State :=
  let n := s.orphanRun q
  if n = 0 then s else (s.release q n).addF Reg.tellerErr 0 16 n

/-- Commands at the front of a host ring whose opcode no row has: BAD_OPCODE (R552 checks 1 and 2), and
orphan slots. At most one turn per slot. -/
def drainRing (src : Src) : Nat → State → State
  | 0, s => s
  | k + 1, s =>
    if !s.mayFetch || s.pwr == .doze then s
    else
      let s := s.dropOrphans (srcRing src)
      match s.ringFront src with
      | some (c, n, _, _) =>
        if knownOpcode c.opcode then s
        else
          let l := s.badSlots (srcRing src) n
          let rp := if !l.isEmpty then .hwFault 0 else match s.check1 c.opcode with
            | some r => r
            | none => ⟨2, 0, []⟩
          drainRing src k (((s.eccReads l).release (srcRing src) n).complete c rp)
      | none => s

/-- URG first, then CMD (R74). -/
def drain (s : State) : State := drainRing .cmd 64 (drainRing .urg 8 s)

/-- A long command holds one of the units (R65, R552 check 11). -/
def unitHeld (s : State) (us : List LongUnit) : Bool :=
  s.tel.longs.any fun l => l.units.any fun u => us.contains u

/-- Check 11 of R552. -/
def check11 (s : State) (row : CmdRow) (c : Cmd) : Option Reply :=
  if s.unitHeld (row.units c) ∨ (row.long ∧ 8 ≤ s.tel.longs.length) then some .busy else none

/-- Checks 4 to 11, then the command's effect. -/
def runChecked (row : CmdRow) (c : Cmd) (s : State) : State :=
  match row.pre c s with
  | some rp => s.complete c rp
  | none =>
    match s.check11 row c with
    | some rp => s.complete c rp
    | none =>
      match row.run c s with
      | (s', some rp) => s'.complete c rp
      | (s', none) => s'

/-- LINK_STAT.lstate: 0 DOWN, 1 ALIGN, 2 SYNC, 3 CHECK, 4 UP, 5 UNPAIRED, 6 MISMATCH, 7 LOOP (R366). -/
def lstate (s : State) : Nat := s.rf Reg.linkStat 0 3

/-- The link is not down (R366). -/
def linkOpen (s : State) : Bool := s.lstate == 4 || s.lstate == 5 || s.lstate == 6

/-- A PEER command that passed checks 1 to 3: PEER_ABSENT, PEER_CHANGED or BUSY at once, or forwarded as one
message (R79, R371). -/
def forward (s : State) (c : Cmd) : State :=
  if s.role = .solo ∨ !s.linkOpen then s.complete c .peerAbsent true
  else if s.lstate = 6 then s.complete c .peerChanged true
  else if 16 ≤ s.tun.q8.length ∨ s.scRing 8 then s.complete c .busy true
  else
    let s := s.tunPost 1 (leBytes 2 c.opcode ++ leBytes 2 c.tag ++ leBytes 2 c.len ++ leBytes 1 c.flags ++
      leBytes 1 c.slots ++ leBytes 4 c.arg.toNat ++ leBytes 4 0 ++ c.pay)
    { s with tun := { s.tun with outst := s.tun.outst ++ [c] } }

/-- A fetched command through the checks of R552, forwarded when PEER = 1 came from the host (R79). -/
def dispatchCmd (row : CmdRow) (c : Cmd) (released : Nat) (good : Bool) (tail : List Byte) (s : State) : State :=
  let first := match s.check1 c.opcode with
    | some r => some r
    | none => if c.src = Src.urg ∧ !row.urg then some ⟨2, 1, []⟩ else check3 c released good tail row.len
  match first with
  | some rp => s.complete c rp (c.src != Src.peer && c.peer)
  | none => if c.src ≠ Src.peer ∧ c.peer then s.forward c else runChecked row c s

/-- The row takes the command that waits at the front of its source when it is this row's: then it runs, in RUN
(R399), and otherwise nothing happens. A CMD entry is taken only while URG is empty (R74); one with a double-bit error
in its slots completes with HW_FAULT (R421). -/
def runRow (s : State) (row : CmdRow) (src : Src) : State :=
  if src = .peer then
    match s.peerFront with
    | some (c, rest) =>
      if c.opcode = row.opcode ∧ row.form c ∧ s.rst.phase = .running ∧ s.pwr ≠ .hush then
        dispatchCmd row c 0 true [] { s.leaveDoze with tun := { s.leaveDoze.tun with q9 := rest } }
      else s
    | none => s
  else if !s.mayFetch ∨ (src = .cmd ∧ s.qfill 1 ≠ 0) then s
  else
    match s.ringFront src with
    | some (c, n, good, tail) =>
      if c.opcode = row.opcode ∧ row.form c then
        let t := s.leaveDoze.release (srcRing src) n
        let l := s.badSlots (srcRing src) n
        if l.isEmpty then (dispatchCmd row c n good tail t).drain
        else ((t.eccReads l).complete c (.hwFault 0) c.peer).drain
      else s
    | none => s

/-- A long command begins: it stays until its work ends (R65). -/
def startLong (s : State) (c : Cmd) (us : List LongUnit) (keep : List Byte) : State :=
  { s with tel := { s.tel with longs := s.tel.longs ++ [{ cmd := c, units := us, keep := keep }] } }

/-- The long command that holds `u`. -/
def longOf (s : State) (u : LongUnit) : Option Long := s.tel.longs.find? fun l => l.units.contains u

/-- A long command ends with its completion. -/
def endLong (s : State) (l : Long) (rp : Reply) : State :=
  { s with tel := { s.tel with longs := s.tel.longs.erase l } }.complete l.cmd rp

/-- Check 8 for one account (R19, R552): SAFETY_INHIBIT for a safety lock, DENIED for a lifecycle lock. -/
def lockReply (s : State) (b : Nat) : Option Reply :=
  match s.lockOf b with
  | .none => none
  | .safety => some .inhibit
  | .lifecycle => some (.denied 0x12)

/-- Interface of a source: host port 0, tunnel 2 (LIFE_STATE.iface, R498). -/
def srcIface : Src → Nat
  | .peer => 2
  | _ => 0

/-- A SERVICE login is active on an interface (R498). -/
def loginOn (s : State) (i : Nat) : Bool := s.rb Reg.lifeState 3 && s.rf Reg.lifeState 4 2 == i

def loginHere (s : State) (c : Cmd) : Bool := s.loginOn (srcIface c.src)

/-- The first refusal of a list of checks. -/
def firstOf : List (Option Reply) → Option Reply
  | [] => none
  | some r :: _ => some r
  | none :: t => firstOf t

/-- A check that fails with `r` when `b` holds. -/
def failIf (b : Bool) (r : Reply) : Option Reply := if b then some r else none

/-- Check 5: the lifecycle must be one of these (R496, R552). -/
def lifeReply (s : State) (ok : List Nat) : Option Reply := failIf (!ok.contains s.life) (.denied 0x10)

/-- Check 6: a SERVICE login on this interface (R498, R552). -/
def loginReply (s : State) (c : Cmd) : Option Reply := failIf (!s.loginHere c) (.denied 0x11)

end State

end Sys2Proof.Machine
end

