-- ==== Sys2Proof/Machine/Ranges.lean ====
section
/-! DEFINITION. The ranges that the fields of the class P registers state, word by word (R81, R558). Conditions
that join several registers stand with the commands that write them. -/

namespace Sys2Proof.Machine

namespace Ranges

/-- lo to hi. -/
def within (lo hi v : Nat) : Bool := decide (lo ≤ v) && decide (v ≤ hi)

/-- The instance of a strided register, when `a` is one of the run. -/
def inRun (base stride count a : Nat) : Bool :=
  decide (base ≤ a) && (a - base) % stride == 0 && decide ((a - base) / stride < count)

/-- 02_teller.md R59: slot_size 0b11 is refused. -/
def ch02 (a : Nat) (v : Word) : Bool := if a = Reg.tellerCfg then decide (fld v 0 2 ≠ 3) else true

/-- 03_feedback_inputs.md. -/
def ch03 (a : Nat) (v : Word) : Bool :=
  if inRun (Reg.encCfg 0) 0x100 3 a then decide (fld v 0 2 ≠ 3)
  else if inRun (Reg.encRevCount 0) 0x100 3 a then within 1 0x1000000 (fld v 0 25)
  else if inRun (Reg.absCfg 0) 0x100 2 a then
    within 9 999 (fld v 0 10) && within 8 40 (fld v 10 6) && within 0 4 (fld v 19 3)
  else if inRun (Reg.absTiming 0) 0x100 2 a then
    within 10 100 (fld v 0 7) && within 1 64 (fld v 8 7) && within 0 2000 (fld v 16 16)
  else if inRun (Reg.absJumpLimit 0) 0x100 2 a then decide (v ≠ 0)
  else if inRun (Reg.capCfg 0) 0x80 4 a then within 0 20 (fld v 8 5) && within 0 1000 (fld v 16 16)
  else if a = Reg.accCfg then within 9 99 (fld v 0 7)
  else if a = Reg.accCfg2 then within 1 8 (fld v 8 4) && decide (fld v 12 2 ≠ 3)
  else if a = Reg.emuCfg then decide (fld v 0 2 ≠ 3) && decide (fld v 2 2 ≠ 3)
  else if a = Reg.emuLines then within 1 65536 v.toNat
  else if a = Reg.emuTravel then decide (v ≠ 0)
  else if a = Reg.emuVmax then within 1 25000000 v.toNat
  else true

/-- 04_reckoner.md. -/
def ch04 (a : Nat) (v : Word) : Bool :=
  if inRun (Reg.obsCfgEnc 0) 0x100 3 a || inRun (Reg.obsCfgAbs 0) 0x100 2 a then within 10 2000 (fld v 0 11)
  else if inRun (Reg.obsGateEnc 0) 0x100 3 a || inRun (Reg.obsGateAbs 0) 0x100 2 a then
    within 1 1000 (fld v 0 10) && within 1 65535 (fld v 16 16)
  else if a = Reg.fusCfg then within 1 100 (fld v 8 7) && within 10 2000 (fld v 16 11)
  else if a = Reg.fusSheave then decide (v ≠ 0)
  else if a = Reg.fusTapeRes then within 1 1000000 v.toNat
  else if a = Reg.fusSlipCfg then within 10 50000 (fld v 0 16) && within 1 1000 (fld v 16 10)
  else if a = Reg.fusLimits then within 1 2000 (fld v 0 16) && within 1 5000 (fld v 16 16)
  else if a = Reg.fusTrack then within 10 10000 (fld v 0 16) && within 10 10000 (fld v 16 16)
  else if a = Reg.fusDr then within 1 10000 (fld v 0 16)
  else true

/-- 05_standing_orders.md. -/
def ch05 (a : Nat) (v : Word) : Bool :=
  if a = Reg.prfVmax then within 10000 25000000 (fld v 0 25)
  else if a = Reg.prfAcc then within 10 2500 (fld v 0 12) && within 10 2500 (fld v 16 12)
  else if a = Reg.prfJerk then within 100 10000 (fld v 0 14)
  else if a = Reg.prfSpeeds then within 10 630 (fld v 0 10) && within 0 800 (fld v 16 10)
  else if a = Reg.prfStop then within 0 500 (fld v 0 9) && within 5 200 (fld v 16 8) && within 1 30 (fld v 24 8)
  else if a = Reg.prfSeq then within 0 1000 (fld v 0 10) && within 0 1000 (fld v 16 10)
  else if a = Reg.prfRelevel then
    within 200 20000 (fld v 0 15) && within 50 10000 (fld v 16 15) && decide (fld v 16 15 < fld v 0 15)
  else if a = Reg.prfRelevel2 then within 10 300 (fld v 0 9) && within 10 2000 (fld v 16 11)
  else true

/-- An input or output number, or 63 for none. -/
def orNone (m n : Nat) : Bool := decide (n < m) || n == 63

/-- 06_door_ports.md. -/
def ch06 (a : Nat) (v : Word) : Bool :=
  let at' := fun b => inRun b 0x200 2 a
  if at' (Reg.doorCfg 0) then
    decide (fld v 2 2 ≠ 3) && orNone 48 (fld v 8 6) && orNone 48 (fld v 16 6) && orNone 32 (fld v 24 6)
  else if at' (Reg.doorPwm 0) then within 2500 6250 (fld v 0 13) && fld v 0 13 % 50 == 0 && within 10 400 (fld v 16 9)
  else if at' (Reg.doorAdc 0) then within 1 65535 (fld v 0 16) && within 1 65535 (fld v 16 16)
  else if at' (Reg.doorProt 0) then
    within 100 32000 (fld v 0 16) && within 1 254 (fld v 16 8) && decide (fld v 16 8 < fld v 24 8)
  else if at' (Reg.doorMotor 0) then within 1 65535 (fld v 0 16) && within 1 16 (fld v 16 5)
  else if at' (Reg.doorMotor2 0) then within 1 65535 (fld v 0 16) && within 1 65535 (fld v 16 16)
  else if at' (Reg.doorGear 0) then within 1000 1000000 (fld v 0 20)
  else if at' (Reg.doorMass 0) then within 100 10000 (fld v 0 16)
  else if at' (Reg.doorLimits 0) then
    within 20 150 (fld v 0 8) && within 10 100 (fld v 8 8) && within 10 100 (fld v 16 8) && within 2 18 (fld v 24 8)
  else if at' (Reg.doorSpeeds 0) then within 50 1000 (fld v 0 10) && within 50 1000 (fld v 16 10)
  else if at' (Reg.doorAcc 0) then within 100 4000 (fld v 0 12) && within 100 4000 (fld v 16 12)
  else if at' (Reg.doorNudge 0) then
    (fld v 8 8 == 0 || within 5 120 (fld v 8 8)) && within 10 200 (fld v 16 8) && within 5 100 (fld v 24 8)
  else if at' (Reg.doorTimes 0) then within 5 50 (fld v 8 8)
  else if at' (Reg.doorEnds 0) then within 0 50 (fld v 0 8) && within 0 50 (fld v 8 8) && within 5 100 (fld v 16 8)
  else true

/-- A field of FLD_FUNC (R311). -/
def funcField (n : Nat) : Bool := (decide (n % 64 < 48) || n % 64 == 63) && decide (n < 128)

/-- 08_field_io.md. -/
def ch08 (a : Nat) (v : Word) : Bool :=
  if inRun (Reg.inCfg 0) 4 48 a then within 1 200 (fld v 0 8) && within 0 4 (fld v 8 3)
  else if inRun (Reg.pairCfg 0) 4 8 a then within 5 500 (fld v 16 9)
  else if inRun (Reg.outCfg 0) 4 32 a then
    within 1 50 (fld v 2 6) && within 0 40 (fld v 8 6) && within 1 255 (fld v 16 8)
  else if a = Reg.tpTiming then within 4 100 (fld v 0 7) && within 10 100 (fld v 8 7)
  else if a = Reg.fldFunc then
    funcField (fld v 0 8) && funcField (fld v 8 8) && funcField (fld v 16 8) && funcField (fld v 24 8)
  else true

/-- 11_purse_clocks_power.md. -/
def ch11 (a : Nat) (v : Word) : Bool :=
  if a = Reg.purseLimit 0 then within 1000 10000 (fld v 0 16)
  else if a = Reg.purseLimit 1 then within 100 1200 (fld v 0 16)
  else if a = Reg.purseLimit 2 then within 20 150 (fld v 0 16)
  else if a = Reg.sensCfg then
    within 1 30 (fld v 3 5) && within 1 30 (fld v 19 5) && within 0 30 (fld v 8 8) && within 0 30 (fld v 24 8)
  else true

/-- 09_can_fd.md R320, R321, OBJ_CFG, R328, R329: what one word states by itself. -/
def ch09 (a : Nat) (v : Word) : Bool :=
  if inRun (Reg.canNbt 0) 0x1000 4 a then decide (1 ≤ fld v 16 7) && decide (1 ≤ fld v 24 8)
  else if inRun (Reg.objCfg 0) 0x80 512 a then (!bit v 6 || bit v 5) && !(bit v 7 && bit v 5)
  else if inRun (Reg.feA 0) 0x80 512 a then decide (fld v 30 2 ≠ 3) && (bit v 29 || decide (fld v 0 29 < 2048))
  else if inRun (Reg.feC 0) 0x80 512 a then decide (fld v 8 2 ≠ 3)
  else true

/-- 10_sheic_link.md LINK_CFG. -/
def ch10 (a : Nat) (v : Word) : Bool :=
  if a = Reg.linkCfg then decide (fld v 0 2 ≠ 3) && within 200 4000 (fld v 16 12) else true

/-- 12_banks.md, 11_purse_clocks_power.md: power state codes of BANK_PWR0 and BANK_PWR1. -/
def ch12 (a : Nat) (v : Word) : Bool :=
  if a = Reg.bankPwr0 ∨ a = Reg.bankPwr1 then (List.range 16).all fun k => decide (fld v (2 * k) 2 ≠ 3) else true

/-- 13_ledger.md LDG_CFG. -/
def ch13 (a : Nat) (v : Word) : Bool := if a = Reg.ldgCfg then within 1 60 (fld v 8 6) else true

/-- Every range that the fields of the word at `a` state by themselves. -/
def ok (a : Nat) (v : Word) : Bool :=
  ch02 a v && ch03 a v && ch04 a v && ch05 a v && ch06 a v && ch08 a v && ch09 a v && ch10 a v && ch11 a v &&
    ch12 a v && ch13 a v

end Ranges

end Sys2Proof.Machine
end

