-- ==== Sys2Proof/Machine/Images.lean ====
section
/-! DEFINITION. Register images in command payloads: their checks against reserved bits and ranges, their
writing, and the checks that configuration commands share (R81, R82, R551, R552). -/

namespace Sys2Proof.Machine

namespace State

/-- Register images written in order from `a` on, under the class P bits of each. -/
def wConfig (s : State) (a : Nat) : List Word → State
  | [] => s
  | v :: vs =>
    let m := match Reg.find a with
      | some r => r.rw
      | none => 0
    wConfig (s.w a (masked m v)) (a + 4) vs

/-- The byte offset of the first image out of range (R552 check 7), reserved bits included. -/
def badImage (o a : Nat) : List Word → Option Nat
  | [] => none
  | v :: vs =>
    let m := match Reg.find a with
      | some r => r.rw
      | none => 0
    if masked m v = v ∧ Ranges.ok a v then badImage (o + 4) (a + 4) vs else some o

/-- Check 7 for a run of images. -/
def imagesReply (o a : Nat) (ws : List Word) : Option Reply := (badImage o a ws).map Reply.badParam

/-- R19 then R82: a locked account, then an ACTIVE one. -/
def configPre (s : State) (b : Nat) : Option Reply :=
  firstOf [s.lockReply b, failIf (s.isActive b) .badState]

/-- Check 4: the role does not run the account (R552). -/
def roleReply (s : State) (b : Nat) : Option Reply := failIf (!s.runs b) (.badState 2)

end State

end Sys2Proof.Machine
end

