-- ==== Sys2Proof/Machine/Outputs.lean ====
section
/-! DEFINITION. Switching field outputs, gangs, test-pulse sources and sensor feeds on and off, and what they
declare to the Purse (08_field_io.md R293 to R297, 11_purse_clocks_power.md R406 to R412). -/

namespace Sys2Proof.Machine

/-- The masks of bits `ns`. -/
def maskOf (ns : List Nat) : Nat := (ns.eraseDups.map fun n => 2 ^ n).sum

namespace State

/-- OUTn is a SAFETY output: the set assigns it (R293). -/
def safetyOut (s : State) (n : Nat) : Bool := decide (24 ≤ n) && decide (n < 32) && s.outRole (n - 24) != 0

/-- The trip net or the safety state holds the trip group off (R243, R246). -/
def tripHeld (s : State) : Bool :=
  s.cpt.forced || s.cpt.st == .startPending || s.cpt.st == .tripped || s.cpt.st == .lockout

/-- OUTn is switched on. -/
def outOn (s : State) (n : Nat) : Bool :=
  if s.safetyOut n then (s.cpt.on / 2 ^ (n - 24)) % 2 == 1 else s.rb Reg.outOn n

/-- Every output that is switched on, one bit each. -/
def outOnMask (s : State) : Nat := maskOf ((List.range 32).filter s.outOn)

/-- A trip-group output is on (R267, R511). -/
def tripGroupOn (s : State) : Bool := s.cpt.on != 0

/-- The only writer of the trip group's switches: nothing switches on while the group is held off. -/
def setSafetyOn (s : State) (j : Nat) (b : Bool) : State :=
  if b && s.tripHeld then s
  else
    let m := s.cpt.on
    let cleared := m - m / 2 ^ j % 2 * 2 ^ j
    { s with cpt := { s.cpt with on := if b then cleared + 2 ^ j else cleared } }

def setOut (s : State) (n : Nat) (b : Bool) : State :=
  if s.safetyOut n then s.setSafetyOn (n - 24) b else s.wb Reg.outOn n b

/-- GPk heads a quad gang (R29). -/
def quadAt (s : State) (k : Nat) : Bool := k % 2 == 0 && s.consolidated (Acct.gp k) && bit (s.ctl (Acct.gp k)) 16

/-- The gang that OUTn belongs to, if any. -/
def gangOf (s : State) (n : Nat) : Option Nat :=
  let k := n / 2
  if s.quadAt (k - k % 2) then some (k - k % 2)
  else if s.consolidated (Acct.gp k) then some k
  else none

/-- Members of the gang at GPk. -/
def gangMembers (s : State) (k : Nat) : List Nat :=
  if s.quadAt k then [2 * k, 2 * k + 1, 2 * k + 2, 2 * k + 3] else [2 * k, 2 * k + 1]

/-- The Purse consumer that switches OUTn (R406). -/
def unitOf (s : State) (n : Nat) : Nat :=
  match s.gangOf n with
  | some k => 0x20 + k
  | none => n

/-- The outputs that a consumer switches. -/
def unitOuts (s : State) (id : Nat) : List Nat :=
  if id < 0x20 then [id] else if id < 0x30 then s.gangMembers (id - 0x20) else []

/-- Class of an output (OUT_CFG.class; the set gives SAFETY). -/
def outClass (s : State) (n : Nat) : Nat := if s.safetyOut n then 0 else s.rf (Reg.outCfg n) 0 2

/-- The test-pulse source TPOn is assigned by the set: its account is locked (R265, R283). -/
def tpoSafety (s : State) (n : Nat) : Bool := s.lockOf (Acct.tpc n) == .safety

/-- Class of a consumer (R283, R406, R293; SENS_CFG.class). -/
def unitClass (s : State) (id : Nat) : Nat :=
  if id < 0x30 then s.outClass ((s.unitOuts id).headD 0)
  else if id < 0x34 then (if s.tpoSafety (id - 0x30) then 0 else 2)
  else if id = 0x40 then s.rf Reg.sensCfg 1 2
  else if id = 0x41 then s.rf Reg.sensCfg 17 2
  else if id = 0x50 then 2
  else 3

/-- The ledger of a consumer (R406). -/
def unitLedger (id : Nat) : Nat := if id < 0x34 then 0 else if id < 0x42 then 1 else 2

/-- What a consumer declares: load in mA, and inrush shares in mA with their times in ms (R294, R296, R406;
SENS_CFG: 10 ms). -/
def unitDraw (s : State) (id : Nat) : Nat × List (Nat × Nat) :=
  if id < 0x30 then
    let ns := s.unitOuts id
    ((ns.map fun n => 10 * s.rf (Reg.outCfg n) 2 6).sum,
     (ns.map fun n => (10 * s.rf (Reg.outCfg n) 8 6, s.rf (Reg.outCfg n) 16 8)).filter fun p => p.1 != 0)
  else if id < 0x34 then (50, [])
  else if id < 0x42 then
    let o := 16 * (id - 0x40)
    (10 * s.rf Reg.sensCfg (o + 3) 5, ([(10 * s.rf Reg.sensCfg (o + 8) 8, 10)] : List (Nat × Nat)).filter fun p => p.1 != 0)
  else if id < 0x52 then (25, [])
  else (12, [])

def purseAt (s : State) (k : Nat) : Purse := s.purse.getD k Purse.init
def updPurse (s : State) (k : Nat) (f : Purse → Purse) : State := { s with purse := updAt s.purse k f }

def grantAmount (g : Grant) : Nat := g.load + (g.inrush.map (·.1)).sum
def reqAmount (q : PurseReq) : Nat := q.load + (q.inrush.map (·.1)).sum

/-- Sum of a ledger's grants. -/
def granted (s : State) (k : Nat) : Nat := ((s.purseAt k).grants.map grantAmount).sum

def hasGrant (s : State) (id : Nat) : Bool := (s.purseAt (unitLedger id)).grants.any fun g => g.id == id
def hasRequest (s : State) (id : Nat) : Bool := (s.purseAt (unitLedger id)).waits.any fun g => g.id == id

/-- The class_stat.wait bit of a PURSE account, and the words that show grants and waits (R416). -/
def showPurse (s : State) (k : Nat) : State :=
  let s := s.wf (Reg.purseLevel k) 16 16 (satN 65535 (s.granted k))
  let s := if k = 0 then s.updAud fun x => { x with fieldMax := max x.fieldMax (s.granted 0) } else s
  let n := ((s.purseAt k).waits.filter (·.listed)).length
  (s.wf (Reg.purseReserve k) 16 16 n).wb (Acct.purse k + 0xC) 8 (n != 0)

/-- A consumer asks its ledger for a grant (R294, R407). -/
def request (s : State) (id : Nat) : State :=
  if s.hasGrant id || s.hasRequest id then s
  else
    let k := unitLedger id
    let (l, i) := s.unitDraw id
    (s.updPurse k fun p =>
      { p with waits := p.waits ++ [⟨id, s.unitClass id, l, i, s.till, false, false, none⟩] }).showPurse k

/-- A consumer's grant, request and shed record end (R294). -/
def release1 (s : State) (id : Nat) : State :=
  let k := unitLedger id
  (s.updPurse k fun p =>
    { p with
      grants := p.grants.filter fun g => g.id != id
      waits := p.waits.filter fun q => q.id != id
      shed := p.shed.filter fun r => r.id != id }).showPurse k

/-- The level shed a class is under: SERVICE from UV_SHED1, SIGNAL from UV_SHED2 (R409). -/
def shedLevelOf (s : State) (cls : Nat) : Nat :=
  let v := s.rf Reg.supStat 0 3
  if cls = 3 ∧ 2 ≤ v then 2 else if cls = 2 ∧ 3 ≤ v then 3 else 0

/-- The unit of OUTn switches off at once: switch, grant, request (R294). -/
def unitOff (s : State) (id : Nat) : State :=
  ((s.unitOuts id).foldl (fun s n => s.setOut n false) s).release1 id

/-- The commanded state of a unit's outputs. -/
def setCmd (s : State) (id : Nat) (b : Bool) : State := (s.unitOuts id).foldl (fun s n => s.wb Reg.outCmd n b) s

/-- A unit is commanded on (OUT_CMD, R294). -/
def unitCmd (s : State) (id : Nat) : Bool := (s.unitOuts id).any fun n => s.rb Reg.outCmd n

/-- Steps 1 and 2 of R294: the commanded state sets, and a unit that is off asks for its grant; below its shed
threshold a SIGNAL or SERVICE unit waits, shed (R412). -/
def unitOnAsk (s : State) (id : Nat) : State :=
  let s := s.setCmd id true
  if (s.unitOuts id).all s.outOn then s
  else
    let s := s.request id
    let lv := s.shedLevelOf (s.unitClass id)
    if id < 0x30 ∧ lv ≠ 0 ∧ !(s.purseAt 0).shed.any fun r => r.id == id then
      s.updPurse 0 fun p => { p with shed := p.shed ++ [⟨id, s.unitClass id, lv, none⟩] }
    else s

/-- Switching a unit off by command: commanded state and switch (R294). -/
def unitOffCmd (s : State) (id : Nat) : State := (s.setCmd id false).unitOff id

/-- Step 3 of R294: the granted unit switches on; its account counts the turn-on. -/
def unitOn (s : State) (id : Nat) : State :=
  let ns := s.unitOuts id
  let s := ns.foldl (fun s n => s.setOut n true) s
  let s := { s with fio := { s.fio with onAt := ns.foldl (fun l n => updAt l n fun _ => s.till) s.fio.onAt } }
  if ns.all s.outOn then s.count (if id < 0x20 then outBase id else Acct.gp (id - 0x20)) else s

/-- A granted consumer starts to draw: outputs switch on, a TPO or feed sources; engines read their grant. -/
def startUnit (s : State) (id : Nat) : State :=
  if id < 0x30 then s.unitOn id
  else if id < 0x34 then (s.wb Reg.tpStat (id - 0x30) true).wb (Acct.tpc (id - 0x30) + 0xC) 8 true
  else if id = 0x40 then s.wb Reg.supStat 16 true
  else if id = 0x41 then s.wb Reg.supStat 17 true
  else s

/-- A consumer stops drawing and its grant ends. -/
def stopUnit (s : State) (id : Nat) : State :=
  if id < 0x30 then s.unitOff id
  else if id < 0x34 then ((s.wb Reg.tpStat (id - 0x30) false).wb (Acct.tpc (id - 0x30) + 0xC) 8 false).release1 id
  else if id = 0x40 then (s.wb Reg.supStat 16 false).release1 id
  else if id = 0x41 then (s.wb Reg.supStat 17 false).release1 id
  else s.release1 id

/-- OUT_WAIT: the outputs on the waiting list (R407). -/
def waitMask (s : State) : Nat := maskOf (((s.purseAt 0).waits.filter (·.listed)).flatMap fun q => s.unitOuts q.id)

/-- The outputs whose grant is still awaited, before their first decision too (R306). -/
def askMask (s : State) : Nat := maskOf ((s.purseAt 0).waits.flatMap fun q => s.unitOuts q.id)

/-- OUT_SHED: the outputs that a sag shed (R409, R410). -/
def shedMask (s : State) : Nat := maskOf ((s.purseAt 0).shed.flatMap fun q => s.unitOuts q.id)

/-- Every consumer that switches some output, lowest first. -/
def allUnits (s : State) : List Nat := (List.range 32).map s.unitOf |>.eraseDups

/-- The units of a class. -/
def unitsOfClass (s : State) (c : Nat) : List Nat := s.allUnits.filter fun id => s.unitClass id == c

/-- Every SAFETY output switches off (R243). -/
def safetyOff (s : State) : State :=
  { (s.unitsOfClass 0).foldl unitOff s with cpt := { ((s.unitsOfClass 0).foldl unitOff s).cpt with on := 0 } }

/-- Every DRIVE output switches off and its commanded state clears (R243, R293). -/
def driveOff (s : State) : State := (s.unitsOfClass 1).foldl unitOffCmd s

end State

end Sys2Proof.Machine
end

