-- ==== Sys2Proof/Machine/Trip.lean ====
section
/-! DEFINITION. The trip net, the safety states and the causes (07_comptroller.md R243, R244, R258 to R260,
R273 to R276): the only operations that change the safety state. -/

namespace Sys2Proof.Machine

/-- State code of R259. -/
def safeCode : SafeState → Nat
  | .startPending => 0 | .ready => 1 | .runPermitted => 2 | .parked => 3 | .tripped => 4 | .lockout => 5 | .restricted => 6

/-- Device causes, bits of SAFE_CAUSE.active_dev (R273). -/
inductive DevCause where
  | supply | clock | core | sequence | param | reqLost | proof | peer
deriving DecidableEq, Repr

def devBit : DevCause → Nat
  | .supply => 0 | .clock => 1 | .core => 2 | .sequence => 3 | .param => 4 | .reqLost => 5 | .proof => 6 | .peer => 7

namespace State

/-- The Comptroller posts an event: at once, or into its buffer between a partial reset and RESET_NOTICE
(R516). -/
def cptPost (s : State) (k : EvKind) (src detail : Nat) (data : List Byte := []) : State :=
  if s.rst.phase = .running ∧ (s.tel.noticed ∨ s.rst.full) then (s.qPosted 6 1).postD k src detail data
  else if s.cpt.held.length < 64 then
    { s with cpt := { s.cpt with held := s.cpt.held ++
        [{ code := k.code, src := src, cls := k.cls, detail := detail % 256, till := s.till, data := data }] } }
  else s

/-- A change of the safety state: SAFE_STATE is posted; entering a state that holds the group off switches it
off (R246, R260). -/
def toSafe (s : State) (st : SafeState) : State :=
  if s.cpt.st = st then s
  else
    let s := { s with cpt := { s.cpt with st := st } }
    let s := s.wf Reg.safeState 0 4 (safeCode st)
    let s := if s.tripHeld then s.safetyOff else s
    let s := if st = .startPending then
        { s with cpt := { s.cpt with seenZero := false, seenOne := false } }.wb (Reg.sfStat 0) 9 false
      else s
    (s.cptPost Ev.safeState 0 (safeCode st)).leaveDoze

/-- Active causes, SAFE_CAUSE[15:0]; latched causes, SAFE_CAUSE[31:16]. -/
def activeCauses (s : State) : Nat := s.rf Reg.safeCause 0 16
def latchedCauses (s : State) : Nat := s.rf Reg.safeCause 16 16

/-- A device cause becomes active, or its cause has gone (R273). -/
def setDev (s : State) (c : DevCause) (b : Bool) : State := s.wb Reg.safeCause (8 + devBit c) b

/-- The firing of the trip net (R243, R275): every SAFETY output off, then the DRIVE outputs. -/
def fireNet (s : State) : State :=
  let s := { s with cpt := { s.cpt with forced := s.cpt.st != SafeState.startPending } }
  let s := s.safetyOff.driveOff
  let s := (s.count Acct.tripNet).wTill Reg.tnLastL Reg.tnLastH s.till
  (s.wTill Reg.safeTripTillL Reg.safeTripTillH s.till).addF Reg.safeCnt 0 16 1

/-- A new demand of function k: its account counts it (R274). -/
def sfDemand (s : State) (k : Nat) : State :=
  let b := Acct.safetyFunction k
  ((s.setFlt b 0).count b).wTill (Reg.sfLastL k) (Reg.sfLastH k) s.till

/-- SAFE_TRIP once per cause bit of `new` (R276). -/
def postTrips (s : State) (new : Nat) : State :=
  (List.range 16).foldl (fun s i =>
    if new / 2 ^ i % 2 = 1 then s.cptPost Ev.safeTrip 0 (if i < 8 then i else 0x10 + (i - 8)) else s) s

/-- Bits of `b` that `a` lacks. -/
def newBits (a b : Nat) : Nat := maskOf ((List.range 16).filter fun i => b / 2 ^ i % 2 == 1 && a / 2 ^ i % 2 == 0)

def orBits (a b : Nat) : Nat := maskOf ((List.range 16).filter fun i => b / 2 ^ i % 2 == 1 || a / 2 ^ i % 2 == 1)

/-- The causes `c` are met: those not latched yet fire the trip net, are latched and posted; any state but
START_PENDING and LOCKOUT becomes TRIPPED (R243, R244, R260). -/
def trip (s : State) (c : Nat) : State :=
  let new := newBits s.latchedCauses c
  let s := s.wf Reg.safeCause 16 16 (orBits s.latchedCauses c)
  if new = 0 then s
  else
    let s := s.fireNet
    let s := (List.range 8).foldl (fun s k =>
      if new / 2 ^ k % 2 = 1 then (s.sfDemand k).wb (Reg.sfStat k) 2 true else s) s
    let s := if s.cpt.st = .startPending ∨ s.cpt.st = .lockout then s else s.toSafe .tripped
    s.postTrips new

/-- The path time of the latest firing, in Till counts (R275). -/
def recordPath (s : State) (v : Nat) : State :=
  let s := (s.wf Reg.tnDelay 0 16 v).peakF Reg.tnDelay 16 16 v
  if 50 < v then s.setFlt Acct.tripNet 0 else s

/-- A firing outside the cycle: no operand carries its path time, so a free value stands for it (log 52). -/
def tripAside (s : State) (c : Nat) : State :=
  let s' := s.trip c
  if newBits s.latchedCauses c = 0 then s' else (s'.recordPath (fld (Config.freeWord s'.free) 0 16)).takeFree

/-- A monitor's decision (R239): the device cause becomes active and trips. -/
def devTrip (s : State) (c : DevCause) : State := (s.setDev c true).tripAside (2 ^ (8 + devBit c))

/-- A function demands outside the cycle's comparators (R302, R257). -/
def sfTrip (s : State) (k : Nat) : State := (s.wb Reg.safeCause k true).tripAside (2 ^ k)

/-- Latched causes clear where the cause is absent (R260 START_PENDING, R262, R272), and with them the
domain's fault bits. -/
def clearLatched (s : State) : State :=
  let act := s.activeCauses
  let s := s.wf Reg.safeCause 16 16 act
  let s := (List.range 8).foldl (fun s k =>
    if act / 2 ^ k % 2 = 1 then s else ((s.w (Acct.safetyFunction k + 0x10) 0).wb (Reg.sfStat k) 2 false)) s
  let s := if act / 2 ^ 12 % 2 = 1 then s else s.clrFlt Acct.comptroller 0
  let s := if act / 2 ^ 10 % 2 = 1 then s else s.clrFlt Acct.comptroller 1
  s.clrFlt Acct.tripNet 0

/-- An EDM lockout for OUT24+j (R257, R258): trip, SEALED record, vault flag, LOCKOUT. -/
def lockOut (s : State) (j : Nat) : State :=
  let k := if s.outRole j = 2 then 5 else 4
  let s := ((s.wb Reg.safeCause k true).setFlt (Acct.safetyFunction k) 3).tripAside (2 ^ k)
  let s := s.toSafe .lockout
  let s := { s with vault := { s.vault with lockout := true, lockoutOut := j } }
  (s.wf Reg.safeEdm 24 3 j).cptPost Ev.safeLockout k j

/-- Entry to SERVICE_RESTRICTED (R260): by 0 Shortchange, 1 peer changed. -/
def restrict (s : State) (cause : Nat) : State :=
  if s.cpt.st = .ready ∨ s.cpt.st = .runPermitted ∨ s.cpt.st = .parked then
    ((s.wb Reg.safeState 13 (cause == 1)).toSafe .restricted).cptPost Ev.safeRestrict 0 (cause + 1)
  else s

end State

end Sys2Proof.Machine
end

