-- ==== Sys2Proof/Machine/Banks.lean ====
section
/-! DEFINITION. The memory banks, their power states, the atomic area and the March engine (12_banks.md;
11_purse_clocks_power.md R404, R405). -/

namespace Sys2Proof.Machine

namespace State

def updBanks (s : State) (f : BankSt → BankSt) : State := { s with banks := f s.banks }

/-- BANK_PWR of bank k: 0 ON, 1 RETAIN, 2 OFF; MB is always ON (R404). -/
def bankPwr (s : State) (k : Nat) : Nat :=
  if k < 16 then s.rf Reg.bankPwr0 (2 * k) 2
  else if k < 26 then s.rf Reg.bankPwr1 (2 * (k - 16)) 2
  else 0

def setBankPwr (s : State) (k v : Nat) : State :=
  if k < 16 then s.wf Reg.bankPwr0 (2 * k) 2 v
  else if k < 26 then s.wf Reg.bankPwr1 (2 * (k - 16)) 2 v
  else s

/-- BANK_USE.unit (R424). -/
def bankUnit (s : State) (k : Nat) : Nat := s.rf (Reg.bankUse k) 0 8

/-- A unit or a buffer is placed in the bank (R448). -/
def bankUsed (s : State) (k : Nat) : Bool := s.rf (Reg.bankUse k) 0 10 != 0

/-- A unit of R424 is enabled: the units with an account of their own by its en; the Teller, the Comptroller, the
Auditor, the Ledger engine, the work area, the windows and MB always (log 68). -/
def unitEn (s : State) (u : Nat) : Bool :=
  if u = 4 then
    ((List.range 3).any fun n => s.en (Acct.enc n)) || ((List.range 2).any fun n => s.en (Acct.hall n) || s.en (Acct.abs n)) ||
      ((List.range 4).any fun n => s.en (Acct.cap n)) || s.en Acct.accPort || s.en Acct.emu || s.en Acct.fusion
  else if u = 5 then s.en Acct.profileEngine
  else if u = 6 then s.en (Acct.doorPort 0) || s.en (Acct.doorPort 1)
  else if u = 7 then s.en Acct.sheicLink
  else if u = 0xA then s.en (Acct.canc 0) || s.en (Acct.canc 1)
  else if u = 0xB then s.en (Acct.canc 2) || s.en (Acct.canc 3)
  else if u = 0xD then s.en Acct.mintEngine
  else decide (u ≠ 0)

/-- The bank serves an enabled unit or holds a buffer (R405). -/
def bankBusy (s : State) (k : Nat) : Bool := s.unitEn (s.bankUnit k) || s.rf (Reg.bankUse k) 8 2 != 0

/-- The power state in force: in HUSH, ON banks go to RETAIN but for those of R404. -/
def bankPwrNow (s : State) (k : Nat) : Nat :=
  let p := s.bankPwr k
  if p = 0 ∧ k < 26 ∧ s.pwr = .hush ∧ !s.rb Reg.hushKeep k ∧
      !([2, 3, 4, 7, 0xC, 0xE] : List Nat).contains (s.bankUnit k) then 1
  else p

/-- The other half of a bank pair, or the bank alone (R423). -/
def bankHalves (s : State) (k : Nat) : List Nat :=
  match s.headOf (Acct.bank k) with
  | some _ => [k - 1, k]
  | none => if s.consolidated (Acct.bank k) then [k, k + 1] else [k]

/-- ACC_STAT of a BANK account (R448): out of service, pending row, in use, or unused; an unused bank that is not
ON reads OFF (log 68). -/
def showBank (s : State) (k : Nat) : State :=
  let b := Acct.bank k
  let c := if s.hasFlt b 4 || s.bankOut k then 7 else if s.rb (Reg.bankRepair k) 25 then 6 else if s.bankUsed k then 3 else 2
  (s.setCode b c).setEn b (s.bankUsed k || s.bankPwr k == 0)

/-- Banks of enabled units are ON (R405: the module allows neither other state for a bank in use). -/
def wakeBanks (s : State) : State :=
  (List.range 26).foldl (fun s k => if s.bankPwr k ≠ 0 ∧ s.bankBusy k then (s.setBankPwr k 0).showBank k else s) s

/-! ECC (R421). -/

/-- A single-bit error is corrected and counted. -/
def eccSingle (s : State) (k word : Nat) : State :=
  let s := ((s.count (Acct.bank k)).addF (Reg.bankEcc k) 0 16 1).eccAddr k word false
  s.updAud fun x => { x with ecc := x.ecc + 1 }

/-! The March engine (R437 to R445). -/

/-- Rows on the spares of bank k, and the pending flag (BANK_REPAIR). -/
def bankRows (s : State) (k : Nat) : List Nat := ((s.banks.map.find? fun p => p.1 == k).map (·.2)).getD []

def setBankRows (s : State) (k : Nat) (rows : List Nat) : State :=
  s.updBanks fun x =>
    { x with map := (if rows.isEmpty then x.map.filter fun p => p.1 != k
                     else (x.map.filter fun p => decide (p.1 < k)) ++ [(k, rows)] ++ x.map.filter fun p => decide (k < p.1)) }

/-- BANK_REPAIR as the spares stand. -/
def repairWord (rows : List Nat) (pending : Bool) : Word :=
  wOf ((match rows with
    | [] => 0
    | [a] => a % 256 + 256
    | a :: b :: _ => a % 256 + 256 + 65536 * (b % 256) + 16777216) + (if pending then 33554432 else 0))

/-- More than two failing rows: out of service (R442). -/
def bankFails (s : State) (k rows : Nat) : State :=
  ((s.fault (Acct.bank k) 4 Ev.bankUnrepairable k rows).setCode (Acct.bank k) 7)

/-- The failing rows of one half after a pass (R438, R442, R443). -/
def marchHalf (s : State) (k : Nat) (rows : List Nat) (preserving repair : Bool) : State :=
  if rows.isEmpty then s
  else
    let s := s.setFlt (Acct.bank k) 3
    let known := s.bankRows k
    let all := (known ++ rows).eraseDups
    if preserving then
      let s := (s.setBankRows k all).w (Reg.bankRepair k) (putBit (s.r (Reg.bankRepair k)) 25 true)
      let s := s.showBank k
      if k = 4 then s.devTrip .core else s
    else if 2 < all.length then (s.bankFails k all.length).showBank k
    else if repair then ((s.setBankRows k all).w (Reg.bankRepair k) (repairWord all (s.rb (Reg.bankRepair k) 25))).showBank k
    else s

/-- The rows of half i of the tested bank or pair, from the failing word indices; a pair has one address range
(R423). -/
def wordRows (words : List Nat) (i : Nat) : List Nat :=
  ((words.filter fun w => w / 16384 == i).map fun w => w % 16384 / 64).eraseDups

/-- A pass ends on the banks `ks` (R443, R449): registers, counters, MARCH_DONE, and MARCH_FAIL at a failing row.
`who`: 1 host, 2 Auditor. -/
def marchEnd (s : State) (ks : List Nat) (alg : Nat) (preserving repair : Bool) (who : Nat) (words : List Nat) : State :=
  let k := ks.headD 0
  let rows := ks.zipIdx.map fun (b, i) => (b, wordRows words i)
  let n := (rows.map fun p => p.2.length).sum
  let s := rows.foldl (fun s p => s.marchHalf p.1 p.2 preserving repair) s
  let fixed : Bool := !preserving && repair && n != 0 && rows.all fun p => p.2.isEmpty || !s.hasFlt (Acct.bank p.1) 4
  let m := if preserving then 1 else 0
  let s := s.w Reg.marchStat (wOf (2 * k + 64 * alg + 256 * m + 512 * who + 65536 * 100))
  let s := s.w Reg.marchLast (wOf (k + 32 * alg + 128 * m + (if n = 0 then 256 else 0) + (if fixed then 512 else 0) +
    65536 * satN 255 n))
  let s := s.w Reg.marchFailaddr (match words with
    | [] => 0
    | w :: _ => wOf (w % 16384 + 16384))
  let s := s.updBanks fun x => { x with words := words }
  let s := ((s.count Acct.marchEngine).addF Reg.marchCnt 0 16 1).post Ev.marchDone 0 k
  if n = 0 then s else (s.addF Reg.marchCnt 16 16 1).fault Acct.marchEngine 1 Ev.marchFail 0 k

/-- The bank instance and the other fields of MARCH_RUN (R566). -/
def marchBank (c : Cmd) : Nat := c.argF 0 5
def marchKeeps (c : Cmd) : Bool := bit c.arg 12

/-- The host pass that runs: the first MARCH_RUN that holds its grant. -/
def marchNow (s : State) : Option Long :=
  s.tel.longs.find? fun l => l.cmd.opcode == 0x0A01 && s.hasGrant (0x60 + marchBank l.cmd)

/-- LongUnit of a bank. -/
def bankUnits (ks : List Nat) : List LongUnit := ks.filterMap fun k => if h : k < 27 then some (.bank ⟨k, h⟩) else none

def bankStateRow : CmdRow where
  opcode := 0x0903
  units := fun c => bankUnits [c.argF 0 5]
  pre := fun c s =>
    let k := c.argF 0 5
    let v := c.argF 8 2
    firstOf [
      failIf (!c.argOnly 0x31F || decide (26 < k) || v == 3 || k == 26 || (v == 2 && decide (23 < k))) .badArg,
      failIf (v != 0 && (s.bankHalves k).any s.bankBusy) .badState,
      failIf (s.unitHeld (bankUnits (s.bankHalves k))) .busy]
  run := fun c s =>
    let v := c.argF 8 2
    ((s.bankHalves (c.argF 0 5)).foldl (fun s k =>
      let s := (s.setBankPwr k v).showBank k
      if v = 2 then s.release1 (0x60 + k) else s) s, some (.ok 0))

def hushKeepRow : CmdRow where
  opcode := 0x0904
  pre := fun c _ => failIf (!c.argOnly 0x3FFFFFF) .badArg
  run := fun c s => (s.w Reg.hushKeep c.arg, some (.ok 0))

def marchRunRow : CmdRow where
  opcode := 0x0A01
  long := true
  units := fun c => bankUnits [marchBank c]
  pre := fun c s =>
    let k := marchBank c
    let d := !marchKeeps c
    let ks := s.bankHalves k
    firstOf [
      failIf (!c.argOnly 0x331F || decide (26 < k) || c.argF 8 2 == 3 || (s.headOf (Acct.bank k)).isSome ||
        (d && decide (23 < k))) .badArg,
      failIf (d && ks.any fun b => s.bankUsed b || s.bankPwrNow b != 0) .badState,
      failIf (ks.any fun b => s.bankOut b || s.bankPwrNow b != 0) .badState,
      failIf (s.unitHeld (bankUnits ks)) .busy]
  run := fun c s => ((s.startLong c (bankUnits (s.bankHalves (marchBank c))) []).request (0x60 + marchBank c), none)

/-- The host pass ends with its completion (R445). -/
def marchDone (s : State) (words : List Nat) : State :=
  match s.marchNow with
  | none => s
  | some l =>
    let k := marchBank l.cmd
    let s := s.marchEnd (s.bankHalves k) (l.cmd.argF 8 2) (marchKeeps l.cmd) (bit l.cmd.arg 13) 1 words
    let s := s.release1 (0x60 + k)
    s.endLong l (.ok (wOf (s.rf Reg.marchLast 16 8 + (if s.rb Reg.marchLast 9 then 256 else 0))))

def marchResultRow : CmdRow where
  opcode := 0x0A02
  pre := fun c _ => failIf (!c.argOnly 0) .badArg
  run := fun _ s =>
    let ws := s.banks.words.take 16
    (s, some (.ok (wOf ws.length) (leBytes 4 (s.r Reg.marchLast).toNat ++ leBytes 4 (s.r Reg.marchFailaddr).toNat ++
      leBytes 4 ws.length ++ ws.flatMap (leBytes 2))))

def repairStatusRow : CmdRow where
  opcode := 0x0A03
  pre := fun c _ => failIf (!c.argOnly 0) .badArg
  run := fun _ s =>
    (s, some (.ok 0 (leBytes 1 (if s.banks.mapA then 1 else 0) ++ leBytes 1 (if s.banks.mapB then 1 else 0) ++ [0, 0] ++
      (List.range 27).flatMap fun k =>
        leBytes 4 (s.r (Reg.bankRepair k)).toNat ++ leBytes 4 (s.stateCode (Acct.bank k)))))

/-! The atomic area (R431 to R433). -/

/-- Atomic word w, kept under its host address in the ADD aperture. -/
def atomicWord (s : State) (w : Nat) : Word := Sparse.get (fun _ => 0) s.mb (0x24000 + 4 * w)

def setAtomicWord (s : State) (w : Nat) (v : Word) : State :=
  { s with mb := Sparse.set (fun _ => 0) s.mb (0x24000 + 4 * w) v }

/-- A committed host atomic (R433): ignored while one is busy; nothing but its record at a double-bit error. -/
def hostAtomic (s : State) (w : Nat) (swap : Bool) (v : Word) (busy doubleBit : Bool) : State :=
  if busy then s.wb Reg.atomicStat 1 true
  else
    let old := if doubleBit then 0 else s.atomicWord w
    let s := if doubleBit then s.wb Reg.atomicStat 2 true
      else s.setAtomicWord w (if swap then v else old + v)
    let s := (s.w Reg.atomicResultH old).wf Reg.atomicStat 16 11 w
    (s.wf Reg.atomicStat 3 2 (if swap then 2 else 1)).wf Reg.atomicStat 8 8 (s.rf Reg.atomicStat 8 8 + 1)

end State

/-- BANK_STATE (R405, R565). -/
def execBankState (src : Src) (s : State) : Host.Outcome State Fault Refusal := .next (s.runRow State.bankStateRow src)

/-- HUSH_KEEP (R405, R565). -/
def execHushKeep (src : Src) (s : State) : Host.Outcome State Fault Refusal := .next (s.runRow State.hushKeepRow src)

/-- MARCH_RUN (R445, R566). -/
def execMarchRun (src : Src) (s : State) : Host.Outcome State Fault Refusal := .next (s.runRow State.marchRunRow src)

/-- MARCH_DONE (R443, R445): the pass that runs ends with these failing word indices. -/
def execMarchDone (words : List Nat) (s : State) : Host.Outcome State Fault Refusal := .next (s.marchDone words)

/-- MARCH_RESULT (R446, R566). -/
def execMarchResult (src : Src) (s : State) : Host.Outcome State Fault Refusal := .next (s.runRow State.marchResultRow src)

/-- REPAIR_STATUS (R446, R566). -/
def execRepairStatus (src : Src) (s : State) : Host.Outcome State Fault Refusal :=
  .next (s.runRow State.repairStatusRow src)

/-- BANK_STALL (R429): a wait of a requester of this priority. -/
def execBankStall (bank : Fin 27) (prio : Fin 9) (cycles : BitVec 16) (s : State) : Host.Outcome State Fault Refusal :=
  let s := s.peakF (Reg.bankStall bank) 16 16 cycles.toNat
  if 1 ≤ prio.val ∧ prio.val ≤ 4 ∧ 64 < cycles.toNat then
    .next ((s.addF (Reg.bankStall bank) 0 16 1).fault (Acct.bank bank) 2 Ev.bankStall bank prio)
  else .next s

/-- SR_ACCESS_REFUSED (R435). -/
def execSrAccessRefused (k : Fin 2) (s : State) : Host.Outcome State Fault Refusal :=
  .next (s.fault (Acct.bank (24 + k)) 6 Ev.bankEcc (24 + k) 4)

end Sys2Proof.Machine
end

