-- ==== Sys2Proof/Machine/Groups.lean ====
section
/-! DEFINITION. Consolidation: which groups exist, when one forms or dissolves, and what that does (R29 to
R32, with the class conditions of R288 and R296). -/

namespace Sys2Proof.Machine

namespace State

/-- The members that the head at `b` would have with these fields (R29); `ext` is quad or fifo_len. -/
def membersOf (b ext : Nat) : List Nat :=
  if Acct.gp 0 ≤ b ∧ b < Acct.gp 16 then
    let k := (b - Acct.gp 0) / 0x60
    if ext = 1 then
      [Acct.gp (k + 1), Acct.outa k, Acct.outb k, Acct.outa (k + 1), Acct.outb (k + 1)]
    else [Acct.outa k, Acct.outb k]
  else if Acct.sp 0 ≤ b ∧ b < Acct.sp 8 then
    let k := (b - Acct.sp 0) / 0x60
    [Acct.ina k, Acct.inb k]
  else if Acct.bank 0 ≤ b ∧ b < Acct.bank 24 then [b + 0x40]
  else if Acct.obj 0 ≤ b ∧ b < Acct.obj 512 then (List.range ext).map fun d => b + 0x80 * (d + 1)
  else []

/-- The extra head field as stored: quad, or fifo_len (R29). -/
def groupExt (s : State) (b : Nat) : Nat :=
  if Acct.gp 0 ≤ b ∧ b < Acct.gp 16 then fld (s.ctl b) 16 1
  else if Acct.obj 0 ≤ b ∧ b < Acct.obj 512 then fld (s.ctl b) 16 5
  else 0

/-- The account may head a group (ACC_CAPS.cons_head, R29). -/
def mayHead (b : Nat) : Bool :=
  (decide (Acct.gp 0 ≤ b ∧ b < Acct.gp 16) && (b - Acct.gp 0) % 0x60 == 0) ||
    (decide (Acct.sp 0 ≤ b ∧ b < Acct.sp 8) && (b - Acct.sp 0) % 0x60 == 0) ||
    (decide (Acct.bank 0 ≤ b ∧ b < Acct.bank 24) && (b - Acct.bank 0) / 0x40 % 2 == 0) ||
    decide (Acct.obj 0 ≤ b ∧ b < Acct.obj 512)

/-- Outputs among the accounts of a gang. -/
def gangOuts (b ext : Nat) : List Nat :=
  let k := (b - Acct.gp 0) / 0x60
  if ext = 1 then [2 * k, 2 * k + 1, 2 * k + 2, 2 * k + 3] else [2 * k, 2 * k + 1]

/-- All of a list agree. -/
def allEq (l : List Nat) : Bool :=
  match l with
  | [] => true
  | x :: t => t.all (· == x)

/-- dp_en of OUTn: 1 for SAFETY outputs (R298). -/
def dpEn (s : State) (n : Nat) : Bool := s.safetyOut n || s.rb (Reg.outCfg n) 24

/-- The class conditions of a gang (R296). -/
def gangClassOk (s : State) (b : Nat) (form : Bool) (ext : Nat) : Bool :=
  let ns := gangOuts b ext
  let k := (b - Acct.gp 0) / 0x60
  ns.all (fun n => !s.rb Reg.outCmd n) &&
    (!form || (allEq (ns.map s.outClass) && (ns.all s.dpEn || ns.all fun n => !s.dpEn n) &&
      (ns.all s.safetyOut || ns.all fun n => !s.safetyOut n) &&
      (ext == 0 || (k % 2 == 0 && !s.consolidated b && !s.consolidated (Acct.gp (k + 1))))))

/-- The class conditions of a safety pair on the values of its two IN_CFG words (R288). -/
def pairClassOk (a b : Word) : Bool :=
  fld a 0 8 == fld b 0 8 &&
    ((fld a 8 3 == 0 && fld b 8 3 == 0) || (fld a 8 3 != 0 && fld b 8 3 != 0 && fld a 8 3 != fld b 8 3))

/-- Targets that frames of object j's controller are sent to: of each filter element, and of the catch-all. -/
def frameTargets (s : State) (j : Nat) : List Nat :=
  let n := j / 128
  s.rf (Reg.canCfg n) 4 7 :: (List.range 128).map fun k => s.rf (Reg.feC (128 * n + k)) 0 7

/-- The class conditions of a message-object FIFO with head object j and `ext` members (R29, R327). -/
def fifoClassOk (s : State) (j ext : Nat) : Bool :=
  let ms := (List.range ext).map fun d => j + d + 1
  decide (1 ≤ ext) && decide (j % 128 + ext < 128) &&
    (j :: ms).all (fun m => s.rf (Reg.objCfg m) 0 5 == s.rf (Reg.objCfg j) 0 5 && !s.rb (Reg.objCfg m) 0 &&
      !s.rb (Reg.objCfg m) 9) &&
    (s.frameTargets j).all fun t => !ms.contains (128 * (j / 128) + t)

/-- The class conditions of R30 for a change at the head `b`. -/
def classOk (s : State) (b : Nat) (form : Bool) (ext : Nat) : Bool :=
  if Acct.gp 0 ≤ b ∧ b < Acct.gp 16 then s.gangClassOk b form (if form then ext else s.groupExt b)
  else if Acct.sp 0 ≤ b ∧ b < Acct.sp 8 then
    let k := (b - Acct.sp 0) / 0x60
    !form || pairClassOk (s.r (Reg.inCfg (32 + 2 * k))) (s.r (Reg.inCfg (33 + 2 * k)))
  else if Acct.obj 0 ≤ b ∧ b < Acct.obj 512 then !form || s.fifoClassOk ((b - Acct.obj 0) / 0x80) ext
  else true

/-- The conditions of R30, but for en: forming with `form`, dissolving otherwise. -/
def groupOkButEn (s : State) (b : Nat) (form : Bool) (ext : Nat) : Bool :=
  let ms := if form then membersOf b ext else membersOf b (s.groupExt b)
  s.lockOf b == Lock.none && ms.all (fun m => s.lockOf m == Lock.none) &&
    (s.headOf b).isNone &&
    (!form || ms.all fun m => (s.headOf m == none || s.headOf m == some b) && !(m != b && s.consolidated m) &&
      !s.unavailable m) &&
    s.classOk b form ext

/-- The conditions of R30. -/
def groupOk (s : State) (b : Nat) (form : Bool) (ext : Nat) : Bool :=
  let ms := if form then membersOf b ext else []
  !s.en b && ms.all (fun m => !s.en m || decide (s.headOf m = some b)) && s.groupOkButEn b form ext

/-- Members get their ACC_CTL back at a dissolution (R32). -/
def freeMembers (s : State) (ms : List Nat) : State :=
  ms.foldl (fun s m => s.w (m + 8) (masked 0xFFFF0000 (s.ctl m))) s

/-- A safety pair starts in AGREED with value 0 (R290). -/
def pairStart (s : State) (k : Nat) : State :=
  let a := Acct.sp k + 0xC
  ((s.wf a 8 5 0).wf a 16 16 0).wb Reg.inStateH (16 + k) false

/-- The grouping fields change: the old group dissolves, the new one forms (R29 to R32). -/
def setGroup (s : State) (b : Nat) (form : Bool) (ext : Nat) : State :=
  let old := if s.consolidated b then membersOf b (s.groupExt b) else []
  let new := if form then membersOf b ext else []
  let s := s.freeMembers (old.filter fun m => !new.contains m)
  let s := s.wb (b + 8) 1 form
  let s := if Acct.gp 0 ≤ b ∧ b < Acct.gp 16 then s.wf (b + 8) 16 1 (if form then ext else 0)
    else if Acct.obj 0 ≤ b ∧ b < Acct.obj 512 then s.wf (b + 8) 16 5 (if form then ext else 0)
    else s
  if Acct.sp 0 ≤ b ∧ b < Acct.sp 8 then s.pairStart ((b - Acct.sp 0) / 0x60) else s

end State

end Sys2Proof.Machine
end

