-- ==== Sys2Proof/Machine/Purse.lean ====
section
/-! DEFINITION. The Purse and the supply monitors (11_purse_clocks_power.md R394 to R396, R406 to R416). -/

namespace Sys2Proof.Machine

namespace State

/-- Filtered VF in 10 mV: the mean of the last 20 samples (R409). -/
def vfFiltered (s : State) : Nat := s.vf.sum / s.vf.length

/-- s of R409 in 1/24000 of the limit: 60 % + 40 % x (VF - 19.2 V) / 2.4 V between 19.2 and 21.6 V. -/
def shrink24000 (v : Nat) : Nat :=
  if 2160 ≤ v then 24000 else if v < 1920 then 14400 else 14400 + 40 * (v - 1920)

/-- Limit of ledger k. -/
def purseLim (s : State) (k : Nat) : Nat := s.rf (Reg.purseLimit k) 0 16

/-- Budget of ledger k: the field limit shrinks with VF; no sample yet counts as full supply (R409). -/
def budget (s : State) (k : Nat) : Nat :=
  if k = 0 ∧ !s.vf.isEmpty then s.purseLim 0 * shrink24000 s.vfFiltered / 24000 else s.purseLim k

/-- The SAFETY reserve (R408): load and inrush of every output and TPO that the set assigns. -/
def safetyReserve (s : State) : Nat :=
  let outs := (List.range 8).filter fun j => s.outRole j != 0
  let tpos := (List.range 4).filter s.tpoSafety
  (outs.map fun j => 10 * (s.rf (Reg.outCfg (24 + j)) 2 6 + s.rf (Reg.outCfg (24 + j)) 8 6)).sum + 50 * tpos.length

/-- The order of R407: class, then identifier. -/
def purseKey (cls id : Nat) : Nat := cls * 256 + id

/-- Requests in grant order. -/
def grantOrder (l : List PurseReq) : List PurseReq :=
  sortBy (fun a b => decide (purseKey a.cls a.id ≤ purseKey b.cls b.id)) l

/-- A consumer is shed. -/
def isShed (s : State) (id : Nat) : Bool := (s.purseAt 0).shed.any fun r => r.id == id

/-- A unit is shed (R409, R410): off, grant released, commanded state kept, its request waits. -/
def shedUnit (s : State) (id level : Nat) : State :=
  let cls := s.unitClass id
  let old := (s.purseAt 0).shed.filter fun r => r.id == id
  let s := (s.unitOff id).request id
  let s := s.updPurse 0 fun p =>
    { p with shed := p.shed ++ (old.filter fun r => r.level != level) ++ [⟨id, cls, level, none⟩] }
  s.addF (Reg.purseCnt 0) 16 16 1

/-- Units that hold a field grant in a class. -/
def grantedOf (s : State) (cls : Nat) : List Nat :=
  ((s.purseAt 0).grants.filter fun g => g.cls == cls && decide (g.id < 0x30)).map (·.id)

/-- The highest identifier. -/
def highest (l : List Nat) : Option Nat := l.max?

/-- R410: SERVICE then SIGNAL grants shed from the highest identifier until the sum fits. -/
def shedToFit : Nat → State → State
  | 0, s => s
  | n + 1, s =>
    if s.granted 0 ≤ s.budget 0 then s
    else
      match highest (s.grantedOf 3) with
      | some id => shedToFit n ((s.shedUnit id 0).post Ev.purseShed 0 id)
      | none =>
        match highest (s.grantedOf 2) with
        | some id => shedToFit n ((s.shedUnit id 0).post Ev.purseShed 0 id)
        | none => if s.hasFlt (Acct.purse 0) 1 then s else s.fault (Acct.purse 0) 1 Ev.purseDeficit 0 0

/-- A grant is given: it leaves the waiting list, counts, and its consumer starts (R407). -/
def give (s : State) (k : Nat) (q : PurseReq) : State :=
  let g : Grant := { id := q.id, cls := q.cls, load := q.load,
                     inrush := q.inrush.map fun p => (p.1, s.till + p.2 * 200000) }
  let s := s.updPurse k fun p =>
    { p with waits := p.waits.filter (fun x => x.id != q.id), grants := p.grants ++ [g], lastOn := some s.till }
  ((s.count (Acct.purse k)).startUnit q.id).showPurse k

/-- The 1 ms stagger of the field and V5 ledgers (R407). -/
def staggered (s : State) (k : Nat) : Bool :=
  match (s.purseAt k).lastOn with
  | some t => decide (k < 2) && decide (s.till < t + 200000)
  | none => false

/-- A SAFETY or DRIVE request that has waited 100 ms blocks lower classes (R407). -/
def blocks (s : State) (k cls : Nat) : Bool :=
  (s.purseAt k).waits.any fun q => decide (q.cls < 2) && decide (q.cls < cls) && decide (q.since + 20000000 ≤ s.till)

/-- An armed Shortchange delays the grant of a request that fits (R536 perturbation 9). -/
def scHolds (s : State) (k : Nat) (q : PurseReq) : Bool :=
  match q.fitAt with
  | some t => decide (s.till < t + 200000 * s.rf Reg.scPurse 0 10)
  | none => s.scOn 9 && decide (k < 2) && decide (0 < s.rf Reg.scPurse 0 10)

/-- The delay of a request starts when it first fits. -/
def scFits (s : State) (k : Nat) (q : PurseReq) : State :=
  if q.fitAt.isSome then s
  else s.scApplied.updPurse k fun p =>
    { p with waits := p.waits.map fun x => if x.id = q.id then { x with fitAt := some s.till } else x }

/-- The walk of R407 over the waiting requests; `once`: one turn-on per decision. -/
def walk (k : Nat) (once : Bool) : List PurseReq → State → State
  | [], s => s
  | q :: t, s =>
    if s.isShed q.id then walk k once t s
    else if s.budget k < s.granted k + reqAmount q then
      let first := !(s.purseAt k).waits.any fun x => x.unfit
      let s := if q.unfit then s else s.addF (Reg.purseCnt k) 0 16 1
      let s := s.updPurse k fun p => { p with waits := p.waits.map fun x => if x.id = q.id then { x with unfit := true, fitAt := none } else x }
      walk k once t (if first then s.post Ev.purseWait k q.id else s)
    else
      let s := s.updPurse k fun p => { p with waits := p.waits.map fun x => if x.id = q.id then { x with unfit := false } else x }
      if s.scHolds k q then walk k once t (s.scFits k q)
      else if s.blocks k q.cls then walk k once t s
      else if s.staggered k then walk k once t s
      else if once then s.give k q
      else walk k once t (s.give k q)

/-- Requests still there after a decision are on the waiting list (R407). -/
def listAll (s : State) (k : Nat) : State :=
  (s.updPurse k fun p => { p with waits := p.waits.map fun q => { q with listed := true } }).showPurse k

/-- PURSE_HEAD, PURSE_LEVEL.budget and the reserve (R416). -/
def showHead (s : State) (k : Nat) : State :=
  let s := s.wf (Reg.purseLevel k) 0 16 (satN 65535 (s.budget k))
  let s := if k = 0 then s.wf (Reg.purseReserve 0) 0 16 s.safetyReserve else s
  match grantOrder ((s.purseAt k).waits.filter (·.listed)) with
  | q :: _ => s.w (Reg.purseHead k) (wOf (q.id + 256 * q.cls + 65536 * satN 65535 ((s.till - q.since) / 200000)))
  | [] => s.w (Reg.purseHead k) 0

/-- Budget sheds whose request fits within the budget less 10 % of the limit (R411). -/
def trackBudgetSheds (s : State) : State :=
  let room := s.budget 0 - s.purseLim 0 / 10
  let fits := fun id => match (s.purseAt 0).waits.find? fun q => q.id == id with
    | some q => decide (s.granted 0 + reqAmount q ≤ room)
    | none => false
  s.updPurse 0 fun p =>
    { p with shed := p.shed.map fun r =>
        if r.level ≠ 0 then r
        else if !fits r.id then { r with clearSince := none }
        else if r.clearSince.isNone then { r with clearSince := some s.till } else r }

/-- One decision of one ledger (R407). -/
def decide1 (s : State) (k : Nat) : State :=
  let s := if k = 0 then (if s.budget 0 < s.granted 0 then shedToFit 64 s else s) else s
  let s := walk k (decide (k < 2)) (grantOrder (s.purseAt k).waits) s
  let s := s.listAll k
  (if k = 0 then s.trackBudgetSheds else s).showHead k

/-- A measured current (R414, R416). -/
def measure (s : State) (k v : Nat) : State := (s.wf (Reg.purseMeas k) 0 16 v).peakF (Reg.purseMeas k) 16 16 v

end State

/-- PURSE_DECISION (R407): the three ledgers, with the measured currents of the field and V5 ledgers. -/
def execPurseDecision (measField measV5 : BitVec 16) (s : State) : Host.Outcome State Fault Refusal :=
  .next ((((((s.measure 0 measField.toNat).measure 1 measV5.toNat).decide1 0).decide1 1).decide1 2))

namespace State

/-- A shed unit's conditions have all cleared (R411). -/
def restorable (s : State) (id : Nat) : Bool :=
  (s.purseAt 0).shed.all fun r => r.id != id || r.clearSince.isSome

/-- The units to restore, in the order of R407. -/
def restoreList (s : State) : List PurseReq :=
  (grantOrder (s.purseAt 0).waits).filter fun q =>
    s.isShed q.id && s.restorable q.id && decide (s.granted 0 + reqAmount q ≤ s.budget 0)

end State

/-- PURSE_RESTORE (R303, R411): the first shed unit whose conditions stayed clear is restored. -/
def execPurseRestore (s : State) : Host.Outcome State Fault Refusal :=
  match s.restoreList with
  | q :: _ =>
    let s := s.updPurse 0 fun p => { p with shed := p.shed.filter fun r => r.id != q.id }
    let s := s.give 0 q
    let m := maskOf (s.unitOuts q.id)
    let s := { s with fio := { s.fio with restored := (wOf s.fio.restored ||| wOf m).toNat } }
    .next (s.post Ev.purseRestore 0 q.id)
  | [] => .next s

/-- OVER_MEASURE (R414): the measured current exceeds the grants by more than 10 % of the limit. -/
def execOverMeasure (k : Fin 2) (s : State) : Host.Outcome State Fault Refusal :=
  if 10 * s.granted k + s.purseLim k < 10 * s.rf (Reg.purseMeas k) 0 16 then
    .next (s.fault (Acct.purse k) 2 Ev.purseDeficit k 1)
  else .next s

/-- INRUSH_END (R294, R296): the consumer's next inrush share ends. -/
def execInrushEnd (id : Fin 256) (s : State) : Host.Outcome State Fault Refusal :=
  let k := State.unitLedger id
  let next : Grant → Grant := fun g =>
    match (g.inrush.map (·.2)).min? with
    | some t => { g with inrush := g.inrush.filter fun p => decide (t < p.2) }
    | none => g
  .next ((s.updPurse k fun p => { p with grants := p.grants.map fun g => if g.id = id.val then next g else g }).showPurse k)

namespace State

/-- The falling and clearing levels of R409 in 10 mV, for levels 1 to 4. -/
def vfFall (l : Nat) : Nat := if l = 1 then 2040 else if l = 2 then 1920 else if l = 3 then 1800 else 1680
def vfClear (l : Nat) : Nat := vfFall l + 60

def vfLevel (s : State) : Nat := s.rf Reg.supStat 0 3

/-- The level now in force in SUP_STAT and SAFE_STATE, and VF_LEVEL (R270, R409). -/
def showVf (s : State) (l : Nat) : State :=
  ((((s.wf Reg.supStat 0 3 l).wf Reg.safeState 11 2 (l - 1)).count Acct.supplyMonitor)).post Ev.vfLevel 0 l

/-- The units of a class that are commanded on. -/
def commandedOf (s : State) (cls : Nat) : List Nat := (s.unitsOfClass cls).filter s.unitCmd

/-- A threshold sheds a class: PURSE_SHED once with the lowest identifier (R409). -/
def shedClass (s : State) (cls level : Nat) : State :=
  match s.commandedOf cls with
  | [] => s
  | id :: t => ((id :: t).foldl (fun s i => s.shedUnit i level) s).post Ev.purseShed 0 ((id :: t).min?.getD id)

/-- A threshold acts (R409, R270). -/
def vfAct (s : State) (l : Nat) : State :=
  let s := s.showVf l
  if l = 2 then s.shedClass 3 2
  else if l = 3 then s.shedClass 2 3
  else if l = 4 then (s.devTrip .supply).safetyOff.driveOff
  else s

/-- Thresholds crossed downwards, one after the other. -/
def vfDown : Nat → Nat → State → State
  | 0, _, s => s
  | n + 1, v, s => if s.vfLevel < 4 ∧ v ≤ vfFall (s.vfLevel + 1) then vfDown n v (s.vfAct (s.vfLevel + 1)) else s

/-- Thresholds cleared, one after the other. -/
def vfUp : Nat → Nat → State → State
  | 0, _, s => s
  | n + 1, v, s => if 0 < s.vfLevel ∧ vfClear s.vfLevel < v then vfUp n v (s.showVf (s.vfLevel - 1)) else s

/-- The time that the filtered VF has stayed above a threshold's clearing level (R411). -/
def trackClear (s : State) (v : Nat) : State :=
  s.updPurse 0 fun p =>
    { p with shed := p.shed.map fun r =>
        if r.level = 0 then r
        else if v ≤ vfClear r.level then { r with clearSince := none }
        else if r.clearSince.isNone then { r with clearSince := some s.till } else r }

/-- A filtered value and its minimum in one of the SUP words (R418). -/
def showSup (s : State) (i v : Nat) : State :=
  let a := Reg.supVf i
  let s := s.updAud fun x =>
    { x with low := updAt x.low i (min v)
             vfLo := if i = 0 then min v x.vfLo else x.vfLo
             vfHi := if i = 0 then max v x.vfHi else x.vfHi
             v5Lo := if i = 1 then min v x.v5Lo else x.v5Lo
             vddLo := if i = 2 then min v x.vddLo else x.vddLo }
  let s := s.wf a 0 16 v
  if v < s.rf a 16 16 then s.wf a 16 16 v else s

end State

/-- VF_SAMPLE (R409): one sample of VF in 10 mV. -/
def execVfSample (v : BitVec 16) (s : State) : Host.Outcome State Fault Refusal :=
  let s := { s with vf := (v.toNat :: s.vf).take 20 }
  let f := s.vfFiltered
  let s := (s.showSup 0 f).wf Reg.supStat 8 8 (State.shrink24000 f / 240)
  .next ((State.vfUp 4 f (State.vfDown 4 f s)).trackClear f)

/-- SUPPLY_FAULT (R394, R239): a supply out of its range, with its reading in 10 mV. -/
def execSupplyFault (kind : SupplyKind) (v : BitVec 16) (s : State) : Host.Outcome State Fault Refusal :=
  match kind with
  | .v5 => .next (((s.showSup 1 v.toNat).fault Acct.supplyMonitor 0 Ev.supplyFault 0 1).devTrip .supply)
  | .coreRail => .next ((s.fault Acct.supplyMonitor 1 Ev.supplyFault 0 2).devTrip .supply)
  | .vbatLow => .next ((s.showSup 3 v.toNat).fault Acct.supplyMonitor 2 Ev.supplyFault 0 3)
  | .vfOver => .next (s.fault Acct.supplyMonitor 3 Ev.supplyFault 0 4)
  | .vddLow => .next ((s.showSup 2 v.toNat).fault Acct.supplyMonitor 6 Ev.supplyFault 0 7)

/-- SENS_OVERCURRENT (R396): a sensor feed at its limit switches off. -/
def execSensOvercurrent (k : Fin 2) (s : State) : Host.Outcome State Fault Refusal :=
  if s.rb Reg.supStat (16 + k) then
    .next ((s.stopUnit (0x40 + k)).fault Acct.supplyMonitor (4 + k) Ev.supplyFault 0 (5 + k))
  else .next s

namespace State

/-- Cause SUPPLY has gone: VF above 17.4 V, and neither V5 nor a rail is reported out (R239, R270). -/
def supplyGone (s : State) : Bool :=
  decide (s.vfLevel < 4) && !s.hasFlt Acct.supplyMonitor 0 && !s.hasFlt Acct.supplyMonitor 1

end State

/-- SUPPLY_CAUSE_CLEAR (R270): VF above 17.4 V for 50 ms. -/
def execSupplyCauseClear (s : State) : Host.Outcome State Fault Refusal :=
  .next (if s.supplyGone then s.setDev .supply false else s)

namespace State

/-- Enable bit of a feed in a SENS_CFG image. -/
def sensEn (v : Word) (k : Nat) : Bool := bit v (16 * k)

/-- Class, draw and inrush of a feed in a SENS_CFG image. -/
def sensPart (v : Word) (k : Nat) : Nat := fld v (16 * k + 1) 15

/-- A feed follows its enable bit (R396, R413). -/
def sensFollow (s : State) (k : Nat) : State :=
  if sensEn (s.r Reg.sensCfg) k then
    (if s.hasFlt Acct.supplyMonitor (4 + k) then s else s.request (0x40 + k))
  else s.stopUnit (0x40 + k)

/-- Check 7 of PURSE_SET: the ranges of each limit and of SENS_CFG. -/
def purseImages (c : Cmd) : Option Reply :=
  firstOf [imagesReply 0 (Reg.purseLimit 0) [c.img 0], imagesReply 4 (Reg.purseLimit 1) [c.img 1],
    imagesReply 8 (Reg.purseLimit 2) [c.img 2], imagesReply 12 Reg.sensCfg [c.img 3]]

def purseSetRow : CmdRow where
  opcode := 0x0901
  len := fun n => n == 16
  pre := fun c s =>
    firstOf [failIf (!c.argOnly 0) .badArg, purseImages c,
      failIf (decide (60 * (c.img 0).toNat < 100 * s.safetyReserve)) (.badParam 0),
      failIf ((List.range 3).any fun k => decide ((c.img k).toNat < s.granted k)) .badState,
      failIf ((List.range 2).any fun k => s.rb Reg.supStat (16 + k) && sensEn (c.img 3) k &&
        sensPart (c.img 3) k != sensPart (s.r Reg.sensCfg) k) .badState]
  run := fun c s =>
    let s := ((s.w (Reg.purseLimit 0) (c.img 0)).w (Reg.purseLimit 1) (c.img 1)).w (Reg.purseLimit 2) (c.img 2)
    let s := s.w Reg.sensCfg (c.img 3)
    ((s.sensFollow 0).sensFollow 1, some (.ok 0))

/-- The 12 bytes of one ledger in PURSE_STATUS (R565). -/
def purseBytes (s : State) (k : Nat) : List Byte :=
  leBytes 2 (s.purseLim k) ++ leBytes 2 (s.budget k) ++ leBytes 2 (s.granted k) ++
    leBytes 2 (s.rf (Reg.purseMeas k) 0 16) ++ leBytes 2 (if k = 0 then s.safetyReserve else 0) ++
    leBytes 2 ((s.purseAt k).waits.filter (·.listed)).length

/-- The waiting list in grant order, ledger by ledger. -/
def purseWaiting (s : State) : List PurseReq :=
  (List.range 3).flatMap fun k => grantOrder ((s.purseAt k).waits.filter (·.listed))

def purseStatusRow : CmdRow where
  opcode := 0x0902
  pre := fun c _ => failIf (!c.argOnly 0) .badArg
  run := fun _ s =>
    let ws := s.purseWaiting.take 32
    (s, some (.ok (wOf ws.length) ((List.range 3).flatMap s.purseBytes ++
      ws.flatMap fun q => leBytes 1 q.id ++ leBytes 1 q.cls)))

end State

/-- PURSE_SET (R396, R408, R413, R565). -/
def execPurseSet (src : Src) (s : State) : Host.Outcome State Fault Refusal := .next (s.runRow State.purseSetRow src)

/-- PURSE_STATUS (R413, R565). -/
def execPurseStatus (src : Src) (s : State) : Host.Outcome State Fault Refusal := .next (s.runRow State.purseStatusRow src)

end Sys2Proof.Machine
end

