-- ==== Sys2Proof/Machine/Field.lean ====
section
/-! DEFINITION. The Field engine (08_field_io.md): input filters, test pulses, safety pairs, dark pulses and
output faults. -/

namespace Sys2Proof.Machine

/-- The number with bit `i` set to `b`. -/
def nset (m i : Nat) (b : Bool) : Nat := m - (if nbit m i then 2 ^ i else 0) + (if b then 2 ^ i else 0)

namespace State

def updFio (s : State) (f : Fio → Fio) : State := { s with fio := f s.fio }

/-- Filtered level of INn as every reader sees it (R281). -/
def inLevel (s : State) (n : Nat) : Bool := if n < 32 then s.rb Reg.inStateL n else s.rb Reg.inStateH (n - 32)

def setInLevel (s : State) (n : Nat) (b : Bool) : State :=
  if n < 32 then s.wb Reg.inStateL n b else s.wb Reg.inStateH (n - 32) b

/-- Value of SPk (R288). -/
def pairVal (s : State) (k : Nat) : Bool := s.rb Reg.inStateH (16 + k)

/-- INn is a member of a consolidated pair. -/
def inPaired (s : State) (n : Nat) : Bool := decide (32 ≤ n) && s.consolidated (Acct.sp ((n - 32) / 2))

/-- INn works: its own en, or its pair's (R31, R281). -/
def inEn (s : State) (n : Nat) : Bool :=
  if s.inPaired n then s.en (Acct.sp ((n - 32) / 2)) else s.en (inBase n)

/-- The test-pulse source that INn names (R284). -/
def tpSrc (s : State) (n : Nat) : Option Nat :=
  let v := s.rf (Reg.inCfg n) 8 3
  if v = 0 then none else some (v - 1)

/-- A fault forces INn to 0: disabled, tp_stuck, tp_cross, a lost coupler, or its TPO in overload (R281, R286,
R287, R304). -/
def inForced (s : State) (n : Nat) : Bool :=
  let b := inBase n
  !s.inEn n || s.hasFlt b 1 || s.hasFlt b 2 || s.hasFlt b 3 ||
    (match s.tpSrc n with
      | some m => s.hasFlt (Acct.tpc m) 1
      | none => false)

/-- Filter length in input ticks (R280). -/
def filtTicks (s : State) (n : Nat) : Nat := 10 * s.rf (Reg.inCfg n) 0 8

/-- One tick of the filter of INn: the raw level against the filtered one; `lim` ticks after the first accept
(R280, R282). -/
def filterTick (s : State) (n lim : Nat) (raw : Bool) : State :=
  let cur := nbit s.fio.filt n
  let c := s.fio.cnt.getD n 0
  if raw = cur then (if c = 0 then s else s.updFio fun f => { f with cnt := updAt f.cnt n fun _ => 0 })
  else if lim ≤ c then
    let s := s.updFio fun f => { f with filt := nset f.filt n raw, cnt := updAt f.cnt n fun _ => 0 }
    if s.inForced n then s
    else
      let s := s.count (inBase n)
      if s.rb (Reg.inCfg n) 11 then s.post Ev.inChange n (if raw then 1 else 0) else s
  else s.updFio fun f => { f with cnt := updAt f.cnt n fun c => c + 1 }

/-- The displayed level follows the filter unless a fault forces it (R281, R286). -/
def showIn (s : State) (n : Nat) : State := s.setInLevel n (nbit s.fio.filt n && !s.inForced n)

/-- The filter of INn starts anew from 0 (R281). -/
def restartIn (s : State) (n : Nat) : State :=
  ((s.updFio fun f => { f with filt := nset f.filt n false, cnt := updAt f.cnt n fun _ => 0 }).setInLevel n false)

/-- A channel whose coupler is lost is taken as 0 (R304); a channel that is not enabled is not sampled. -/
def rawIn (s : State) (raw n : Nat) : Bool := nbit raw n && !s.hasFlt (inBase n) 3

/-- TPOj pulses: enabled, granted, pulse_en, no overload (R283, R287). -/
def tpoPulses (s : State) (j : Nat) : Bool :=
  s.en (Acct.tpc j) && s.rb Reg.tpStat j && s.rb (Reg.tpoCfg j) 0 && !s.hasFlt (Acct.tpc j) 1

/-- Till counts since the start of TPOj's latest pulse (R283), with the timing in force. -/
def tpPhase (s : State) (j : Nat) : Nat :=
  let p := fld s.fio.tpTiming 0 7
  if p = 0 then 0 else (s.till + (4 - j) * p * 50000) % (p * 200000)

/-- One failed check of INn against TPOj (R284, R286). -/
def tpFail (s : State) (n : Nat) (own : Bool) : State :=
  let i := if own then 1 else 2
  if s.hasFlt (inBase n) i then s else s.fault (inBase n) i Ev.inFault n i

/-- The check of every input at the after tick of a pulse of TPOj (R284). -/
def tpCheckAll (s : State) (j raw : Nat) : State :=
  let before := s.fio.tpBefore.getD j 0
  let atCheck := s.fio.tpCheck.getD j 0
  (List.range 48).foldl (fun s n =>
    match s.tpSrc n with
    | none => s
    | some m =>
      if !s.inEn n || !nbit before n || !s.rawIn raw n then s
      else if j = m then
        (if nbit atCheck n then s.tpFail n true else s.wb (inBase n + 0xC) 10 true)
      else if nbit atCheck n then s
      else (s.wf (inBase n + 0xC) 11 3 (j + 1)).tpFail n false) s

/-- The three ticks of TPOj's pulse that matter (R284). -/
def tpTick (s : State) (raw j : Nat) : State :=
  if !s.tpoPulses j then s
  else
    let p := fld s.fio.tpTiming 0 7 * 200000
    let w := fld s.fio.tpTiming 8 7 * 2000
    let ph := s.tpPhase j
    if ph + 2000 = p then s.updFio fun f => { f with tpBefore := updAt f.tpBefore j fun _ => raw }
    else if ph + 2000 = w then s.updFio fun f => { f with tpCheck := updAt f.tpCheck j fun _ => raw }
    else if ph = w + 10000 ∧ s.fio.tpFrom + ph + 2000 ≤ s.till then s.tpCheckAll j raw
    else s

/-- A new TP_TIMING starts at a period boundary (R309). -/
def tpAdopt (s : State) : State :=
  let v := s.r Reg.tpTiming
  if s.fio.tpTiming = v then s
  else
    let p := fld s.fio.tpTiming 0 7 * 200000
    if p = 0 ∨ s.till % p = 0 then s.updFio fun f => { f with tpTiming := v, tpFrom := s.till } else s

/-- Faults of either channel of SPk that put the pair in PAIR_FAULT (R290). -/
def pairChanFault (s : State) (k : Nat) : Bool :=
  [Acct.ina k, Acct.inb k].any fun b => s.hasFlt b 1 || s.hasFlt b 2 || s.hasFlt b 3

def pairState (s : State) (k : Nat) : Nat := s.rf (Acct.sp k + 0xC) 11 2
def setPairState (s : State) (k v : Nat) : State := s.wf (Acct.sp k + 0xC) 11 2 v

/-- The value of SPk, in its account and in IN_STATE_H. -/
def setPairVal (s : State) (k : Nat) (b : Bool) : State := (s.wb (Acct.sp k + 0xC) 8 b).wb Reg.inStateH (16 + k) b

/-- N of R289, in input ticks. -/
def discN (s : State) (k : Nat) : Nat := 100 * s.rf (Reg.pairCfg k) 16 9

/-- The safety functions that use SPk (R246, R596). -/
def pairUsers (s : State) (k : Nat) : List Nat :=
  let u := s.pairUse k
  if u = 0 then [] else if u ≤ 4 then [0] else if u ≤ 6 then [1, 3] else if u ≤ 8 then [6] else [2]

/-- SPk enters PAIR_FAULT with value 0 (R290); the functions that use it note the input fault (R274). -/
def pairFault (s : State) (k detail : Nat) : State :=
  let s := (s.setPairState k 2).setPairVal k false
  let s := (s.pairUsers k).foldl (fun s f => s.setFlt (Acct.safetyFunction f) 1) s
  let s := s.count (Acct.sp k)
  if detail = 0 then s.fault (Acct.sp k) 1 Ev.pairDisc k 0 else s.post Ev.pairDisc k 1

/-- SPk leaves RECOVER (R290). -/
def pairBack (s : State) (k : Nat) : State := ((s.setPairState k 0).setPairVal k false).post Ev.pairRecover k 0

/-- Logical values of SPk's channels (R288). -/
def pairA (s : State) (k : Nat) : Bool := s.inLevel (32 + 2 * k)
def pairB (s : State) (k : Nat) : Bool := s.inLevel (33 + 2 * k) != s.rb (Reg.pairCfg k) 0

/-- One input tick of SPk (R289, R290). -/
def pairTick (s : State) (k : Nat) : State :=
  if !s.consolidated (Acct.sp k) || !s.en (Acct.sp k) then s
  else
    let a := s.pairA k
    let b := s.pairB k
    let at' := Acct.sp k + 0xC
    let s := (s.wb at' 9 a).wb at' 10 b
    let bad := s.pairChanFault k
    match s.pairState k with
    | 0 =>
      if bad then s.pairFault k 1
      else if a = b then s.setPairVal k a
      else (s.wf at' 16 16 0).setPairState k 1
    | 1 =>
      if bad then s.pairFault k 1
      else if a = b then ((s.wf at' 16 16 0).setPairVal k a).setPairState k 0
      else
        let s := s.addF at' 16 16 1
        if s.discN k ≤ s.rf at' 16 16 then s.pairFault k 0 else s
    | 2 =>
      if !a && !b && !bad then
        (s.setPairState k 3).updFio fun f => { f with recov := updAt f.recov k fun _ => 0 }
      else s
    | _ =>
      if a || b || bad then s.setPairState k 2
      else
        let s := s.updFio fun f => { f with recov := updAt f.recov k fun n => n + 1 }
        if s.filtTicks (32 + 2 * k) ≤ s.fio.recov.getD k 0 then s.pairBack k else s

/-- The raw image in IN_RAW (R311). -/
def showRaw (s : State) (raw : Nat) : State := (s.w Reg.inRawL (wOf raw)).w Reg.inRawH (wOf (raw / 2 ^ 32 % 65536))

/-- One input tick (R280 to R290). -/
def inputTick (s : State) (raw : Nat) : State :=
  let s := (s.showRaw raw).tpAdopt
  let s := (List.range 4).foldl (fun s j => s.tpTick raw j) s
  let s := (List.range 48).foldl (fun s n =>
    if s.inEn n then (s.filterTick n (s.filtTicks n) (s.rawIn raw n)).showIn n else s.setInLevel n false) s
  (List.range 8).foldl pairTick s

/-- A sample in HUSH: the channels of pairs and the EDM inputs hold, the others count samples (R282). -/
def hushSample (s : State) (raw : Nat) : State :=
  let s := s.showRaw raw
  (List.range 48).foldl (fun s n =>
    if !s.inEn n || s.inPaired n || (List.range 8).any (fun j => s.edmInput j == some n) then s
    else (s.filterTick n ((s.rf (Reg.inCfg n) 0 8 + 9) / 10) (s.rawIn raw n)).showIn n) s

end State

/-- INPUT_TICK (R280 to R291): the pads at one input tick, bit n = INn at 11 V or more. -/
def execInputTick (raw : BitVec 48) (s : State) : Host.Outcome State Fault Refusal :=
  if s.pwr = .hush then .next s else .next (s.inputTick raw.toNat)

/-- HUSH_INPUT_SAMPLE (R282). -/
def execHushInputSample (raw : BitVec 48) (s : State) : Host.Outcome State Fault Refusal :=
  if s.pwr = .hush then .next (s.hushSample raw.toNat) else .next s

/-- PAIR_DISC (R289, R290): DISC_CNT has reached N in DISAGREE, or a channel fault stands. -/
def execPairDisc (k : Fin 8) (s : State) : Host.Outcome State Fault Refusal :=
  if !s.consolidated (Acct.sp k) || !s.en (Acct.sp k) then .next s
  else if s.pairState k < 2 ∧ s.pairChanFault k then .next (s.pairFault k 1)
  else if s.pairState k = 1 then .next ((s.wf (Acct.sp k + 0xC) 16 16 (s.discN k)).pairFault k 0)
  else .next s

/-- PAIR_RECOVER (R290): Nf ticks with both channels at 0 have passed in RECOVER. -/
def execPairRecover (k : Fin 8) (s : State) : Host.Outcome State Fault Refusal :=
  if s.consolidated (Acct.sp k) && s.en (Acct.sp k) && s.pairState k == 3 then .next (s.pairBack k) else .next s

/-- TPO_PULSE (R283): TPOn goes low for its pulse, or high again. -/
def execTpoPulse (n : Fin 4) (start : Bool) (s : State) : Host.Outcome State Fault Refusal :=
  if s.pwr = .hush || !s.tpoPulses n then .next s
  else
    let s := (s.wb Reg.tpStat (4 + n) start).wb (Acct.tpc n + 0xC) 9 start
    .next (if start then s.count (Acct.tpc n) else s)

/-- TPO_FAULT (R287): an overload switches the source off; a missing pulse is reported. -/
def execTpoFault (n : Fin 4) (kind : TpoFaultKind) (s : State) : Host.Outcome State Fault Refusal :=
  if !s.rb Reg.tpStat n then .next s
  else
    match kind with
    | .overload => .next ((s.stopUnit (0x30 + n)).fault (Acct.tpc n) 1 Ev.tpoFault n 1)
    | .pulse => if s.tpoPulses n then .next (s.fault (Acct.tpc n) 2 Ev.tpoFault n 2) else .next s

namespace State

/-! Output faults (R297 to R304). -/

/-- Function that owns a SAFETY output (R302, R596). -/
def ownerOf (s : State) (n : Nat) : Nat :=
  let j := n - 24
  match s.outRole j with
  | 1 => 4
  | 2 => 5
  | _ => s.setByte (84 + 2 * j) / 4 % 8

/-- A SAFETY output's fault: its owner demands and notes the output fault (R274, R302). -/
def safetyReact (s : State) (n : Nat) : State := (s.setFlt (Acct.safetyFunction (s.ownerOf n)) 2).sfTrip (s.ownerOf n)

/-- The unit of OUTn is off and latched; OUT_LATCH carries the cause (R302). -/
def latchOff (s : State) (n cause : Nat) : State :=
  let id := s.unitOf n
  let s := s.unitOffCmd id
  let s := (s.unitOuts id).foldl (fun s m => s.wb Reg.outLatch m true) s
  s.post Ev.outLatch n cause

/-- A fault bit of OUTn sets, posted at its first detection (R302). -/
def outBit (s : State) (n i : Nat) : State :=
  if s.hasFlt (outBase n) i then s else s.fault (outBase n) i Ev.outFault n i

/-- A detection that reacts at once: overload, thermal, coupler; and any of a SAFETY output (R302). -/
def outReact (s : State) (n i : Nat) : State :=
  let s := s.outBit n i
  if s.safetyOut n then s.safetyReact n else s.latchOff n i

/-- A detection at a check instant: a SAFETY output reacts, another latches at the third in a row (R302). -/
def slotReact (s : State) (n i : Nat) : State :=
  let s := s.outBit n i
  if s.safetyOut n then s.safetyReact n
  else
    let s := s.updFio fun f => { f with det := updAt f.det n fun c => c + 1 }
    if 3 ≤ s.fio.det.getD n 0 then s.latchOff n i else s

/-- A cross between A and B records the partners (R301). -/
def setPartner (s : State) (a b : Nat) : State := (s.wf (outBase a + 0xC) 14 5 b).wb (outBase a + 0xC) 19 true

/-- cross on B, the partner of the output whose slot it is. -/
def partnerCross (s : State) (a b : Nat) : State :=
  let s := (s.setPartner b a).outBit b 2
  if s.safetyOut b then s.safetyReact b else s

/-- The partner of an output whose pulse was not seen (R301): currents in mA. -/
def pulsePartner (s : State) (a : Nat) (members before atCheck : List Nat) : Option Nat :=
  (List.range 32).find? fun b =>
    !members.contains b && s.outOn b &&
      decide (before.getD b 0 + 10 ≤ atCheck.getD b 0) &&
      decide (2 * before.getD b 0 + before.getD a 0 ≤ 2 * atCheck.getD b 0)

/-- The partner of an off channel that reads high (R301). -/
def offPartner (s : State) (c : Nat) : Option Nat :=
  ((s.fio.checks.filter fun k => decide (s.till ≤ k.till + 4000000) && k.out != c && !nbit k.rb c).map (·.out)).min?

/-- A member's readback was high at the check instant (R299, R301). -/
def detect (s : State) (m : Nat) (partner : Option Nat) : State :=
  match partner with
  | some b => ((s.setPartner m b).slotReact m 2).partnerCross m b
  | none => s.slotReact m 1

/-- One slot of the unit whose lowest output is `n` (R297 to R303). -/
def darkSlot (s : State) (n rb : Nat) (before atCheck : List Nat) : State :=
  let ms := s.unitOuts (s.unitOf n)
  let on := ms.all s.outOn
  let s := s.w Reg.outRb (wOf rb)
  let s := ms.foldl (fun s m => s.wf (outBase m + 0xC) 20 12 (satN 4095 (before.getD m 0))) s
  if on then
    if nbit s.fio.restored n ∧ s.till < s.fio.onAt.getD n 0 + 200000 then s
    else if !s.dpEn n then s
    else
      let s := s.updFio fun f =>
        { f with checks := (f.checks.filter fun k => decide (s.till ≤ k.till + 4000000)) ++ [⟨s.till, n, rb⟩] }
      let bad := ms.filter (nbit rb)
      let s := ms.foldl (fun s m => if nbit rb m then s else s.updFio fun f => { f with det := updAt f.det m fun _ => 0 }) s
      bad.foldl (fun s m => s.detect m (s.pulsePartner m ms before atCheck)) s
  else
    let bad := ms.filter (nbit rb)
    let s := ms.foldl (fun s m => if nbit rb m then s else s.updFio fun f => { f with det := updAt f.det m fun _ => 0 }) s
    bad.foldl (fun s m => s.detect m (s.offPartner m)) s

end State

/-- DARK_PULSE_SLOT (R298 to R303): the slot of OUTn with the readbacks at its check instant and the currents
before the pulse and at the check, mA. -/
def execDarkPulseSlot (n : Fin 32) (rb : BitVec 32) (before atCheck : List Nat) (s : State) :
    Host.Outcome State Fault Refusal :=
  if (s.unitOuts (s.unitOf n)).headD n = n.val then .next (s.darkSlot n rb.toNat before atCheck) else .next s

/-- OUT_OVERLOAD (R300, R302). -/
def execOutOverload (n : Fin 32) (s : State) : Host.Outcome State Fault Refusal :=
  if s.outOn n then .next (s.outReact n 3) else .next s

/-- OUT_THERMAL (R300, R302). -/
def execOutThermal (n : Fin 32) (s : State) : Host.Outcome State Fault Refusal :=
  if s.outOn n then .next (s.outReact n 4) else .next s

/-- OUT_OPEN_LOAD (R300, R302): reported, no other action. -/
def execOutOpenLoad (n : Fin 32) (s : State) : Host.Outcome State Fault Refusal :=
  if s.outOn n && s.rb (Reg.outCfg n) 25 && decide (2 ≤ s.rf (Reg.outCfg n) 2 6) then .next (s.outBit n 5) else .next s

/-- GANG_SHARE (R297): a member carries more than 600 mA; the gang reacts as an overload. -/
def execGangShare (k : Fin 16) (member : Fin 32) (s : State) : Host.Outcome State Fault Refusal :=
  if s.gangOf member = some k.val ∧ s.outOn member then
    let s := if s.hasFlt (Acct.gp k) 0 then s else s.fault (Acct.gp k) 0 Ev.gangShare k member
    .next (if s.safetyOut member then s.safetyReact member else s.latchOff member 3)
  else .next s

/-- COUPLER_LOSS (R304): the carrier of a channel's coupler is lost. A capture input is only taken as 0. -/
def execCouplerLoss (ch : Channel) (s : State) : Host.Outcome State Fault Refusal :=
  match ch with
  | .input n =>
    let s := if s.hasFlt (State.inBase n) 3 then s else s.fault (State.inBase n) 3 Ev.inFault n 3
    .next (s.showIn n)
  | .capture _ => .next s
  | .output n => .next ((s.setOut n false).outReact n 6)
  | .testpulse n =>
    let s := (s.wb Reg.tpStat n false).wb Reg.tpStat (4 + n) false
    .next (if s.hasFlt (Acct.tpc n) 3 then s else s.fault (Acct.tpc n) 3 Ev.tpoFault n 3)

namespace State

/-! Enabling and disabling (R281, R283, R294). -/

/-- An output or a gang head disabled by the host: off, grant released, commanded state cleared (R294). -/
def disableUnit (s : State) (id : Nat) : State := s.unitOffCmd id

/-- TPOn enabled: it asks for its grant (R283). -/
def enableTpo (s : State) (n : Nat) : State := if s.hasFlt (Acct.tpc n) 1 then s else s.request (0x30 + n)

/-- TPOn disabled. -/
def disableTpo (s : State) (n : Nat) : State := (s.stopUnit (0x30 + n)).wb Reg.tpStat (4 + n) false

/-! Commands (R305 to R309, R562). -/

/-- The shortest filter that a test-pulse source of this width allows, in 0.1 ms (R285). -/
def filtOk (cfg : Word) (width : Nat) : Bool := fld cfg 8 3 == 0 || decide (width + 10 ≤ 10 * fld cfg 0 8)

/-- INn is the light curtain or safety edge of an enabled port (R202). -/
def doorInput (s : State) (n : Nat) : Bool :=
  (List.range 2).any fun p => s.runs (Acct.doorPort p) && s.en (Acct.doorPort p) &&
    (s.rf (Reg.doorCfg p) 8 6 == n || s.rf (Reg.doorCfg p) 16 6 == n)

/-- R202 on an IN_CFG image. -/
def doorFiltOk (s : State) (n : Nat) (cfg : Word) : Bool := !s.doorInput n || decide (fld cfg 0 8 ≤ 190)

/-- Run states in which FLD_FUNC, profiles and tables may change (R161, R176, R305). -/
def runIdle (s : State) : Bool :=
  !s.runs Acct.profileEngine || s.rf Reg.prfStat 0 4 == 0 || s.rf Reg.prfStat 0 4 == 10

/-- OUTn is a consolidated member. -/
def outMember (s : State) (n : Nat) : Bool := (s.gangOf n).isSome

/-- The TPO_CFG entries that IO_CONFIG includes, ascending. -/
def tpoNamed (c : Cmd) : List Nat := (List.range 4).filter fun j => nbit (leAt c.pay 4 1) j

structure IoImage where
  inF : Nat
  inN : Nat
  outF : Nat
  outN : Nat
  tpos : List Nat
  func : Bool
deriving DecidableEq, Repr

def ioImage (c : Cmd) : IoImage :=
  { inF := leAt c.pay 0 1, inN := leAt c.pay 1 1, outF := leAt c.pay 2 1, outN := leAt c.pay 3 1,
    tpos := tpoNamed c, func := nbit (leAt c.pay 5 1) 0 }

/-- Word i of the words that follow the 8 bytes. -/
def ioWord (c : Cmd) (i : Nat) : Word := wordAt c.pay (8 + 4 * i)

/-- Range, class, R285 and R202 on the words, in payload order. -/
def ioWords (c : Cmd) (m : IoImage) (s : State) : Option Reply :=
  let w := fld (s.r Reg.tpTiming) 8 7
  firstOf ((List.range m.inN).map (fun i =>
      let v := ioWord c i
      let n := m.inF + i
      firstOf [imagesReply (8 + 4 * i) (Reg.inCfg n) [v],
        failIf (!filtOk v w || !s.doorFiltOk n v) (.badParam (8 + 4 * i))]) ++
    (List.range m.outN).map (fun i =>
      let v := ioWord c (m.inN + i)
      let o := 8 + 4 * (m.inN + i)
      firstOf [imagesReply o (Reg.outCfg (m.outF + i)) [v],
        failIf (fld v 0 2 == 0 && !s.safetyOut (m.outF + i)) (.badParam o)]) ++
    (List.range m.tpos.length).map (fun i =>
      imagesReply (8 + 4 * (m.inN + m.outN + i)) (Reg.tpoCfg (m.tpos.getD i 0)) [ioWord c (m.inN + m.outN + i)]) ++
    [if m.func then
      let i := m.inN + m.outN + m.tpos.length
      failIf (!Ranges.ch08 Reg.fldFunc (ioWord c i)) (.badParam (8 + 4 * i))
     else none])

def ioConfigRow : CmdRow where
  opcode := 0x0501
  len := fun n => decide (8 ≤ n) && decide (n ≤ 256)
  pre := fun c s =>
    let m := ioImage c
    let ins := (List.range m.inN).map (m.inF + ·)
    let outs := (List.range m.outN).map (m.outF + ·)
    let accts := ins.map inBase ++ outs.map outBase ++ m.tpos.map Acct.tpc
    firstOf [failIf (!c.argOnly 0) .badArg,
      failIf (decide (0 < m.inN) && decide (47 < m.inF)) (.badParam 0), failIf (decide (48 < m.inF + m.inN)) (.badParam 1),
      failIf (decide (0 < m.outN) && decide (31 < m.outF)) (.badParam 2), failIf (decide (32 < m.outF + m.outN)) (.badParam 3),
      failIf (decide (15 < leAt c.pay 4 1)) (.badParam 4), failIf (decide (1 < leAt c.pay 5 1)) (.badParam 5),
      failIf (decide (leAt c.pay 6 2 ≠ 0)) (.badParam 6),
      failIf (decide (c.len ≠ 8 + 4 * (m.inN + m.outN + m.tpos.length + if m.func then 1 else 0)))
        (.badParam 0xFFFFFF04),
      ioWords c m s, firstOf (accts.map s.lockReply),
      failIf (outs.any (fun n => s.rb Reg.outCmd n) || outs.any s.outMember || ins.any s.inPaired) .badState,
      failIf (m.func && !s.runIdle && decide (ioWord c (m.inN + m.outN + m.tpos.length) ≠ s.r Reg.fldFunc)) .badState]
  run := fun c s =>
    let m := ioImage c
    let s := (List.range m.inN).foldl (fun s i =>
      ((s.w (Reg.inCfg (m.inF + i)) (ioWord c i)).setEn (inBase (m.inF + i)) true).restartIn (m.inF + i)) s
    let s := (List.range m.outN).foldl (fun s i =>
      (s.w (Reg.outCfg (m.outF + i)) (ioWord c (m.inN + i))).setEn (outBase (m.outF + i)) true) s
    let s := (List.range m.tpos.length).foldl (fun s i =>
      let j := m.tpos.getD i 0
      ((s.w (Reg.tpoCfg j) (ioWord c (m.inN + m.outN + i))).setEn (Acct.tpc j) true).enableTpo j) s
    (if m.func then s.w Reg.fldFunc (ioWord c (m.inN + m.outN + m.tpos.length)) else s, some (.ok 0))

/-- DRIVE outputs may not switch on now (R306). -/
def driveBarred (s : State) : Bool := s.cpt.st == .tripped || s.cpt.st == .lockout || s.vfLevel == 4

/-- The account of a unit's head. -/
def unitBase (id : Nat) : Nat := if id < 0x20 then outBase id else Acct.gp (id - 0x20)

/-- The refusals of R306 for a unit and the state it is to take. -/
def outSetCheck (s : State) (id : Nat) (on : Bool) : Option Reply :=
  firstOf [failIf (!s.en (unitBase id) || (on && (s.unitOuts id).any fun n => s.rb Reg.outLatch n)) .badState,
    failIf (on && s.unitClass id == 1 && s.driveBarred) .inhibit]

/-- A unit takes a commanded state (R294, R306). -/
def unitSet (s : State) (id : Nat) (on : Bool) : State := if on then s.unitOnAsk id else s.unitOffCmd id

def outSetRow : CmdRow where
  opcode := 0x0502
  len := fun n => n == 8
  pre := fun c s =>
    let ns := (List.range 32).filter fun n => bit (c.img 0) n
    firstOf [failIf (!c.argOnly 0) .badArg, firstOf (ns.map fun n => s.lockReply (outBase n)),
      failIf (ns.any s.outMember) .badState, firstOf (ns.map fun n => s.outSetCheck n (bit (c.img 1) n))]
  run := fun c s =>
    let ns := (List.range 32).filter fun n => bit (c.img 0) n
    let s := ns.foldl (fun s n => s.unitSet n (bit (c.img 1) n)) s
    (s, some (.ok (wOf s.askMask &&& c.img 0)))

/-- GANG_SET: the gang head that arg names, and its action (R307, R562). -/
def gangK (c : Cmd) : Nat := c.argF 0 4
def gangAct (c : Cmd) : Nat := c.argF 8 3

/-- Forming or dissolving with en cleared for the change and set again (R307). -/
def gangForm (s : State) (k : Nat) (form : Bool) (ext : Nat) : State × Option Reply :=
  let b := Acct.gp k
  if s.groupOkButEn b form ext then
    let ms := if form then membersOf b ext else membersOf b (s.groupExt b)
    let s := ms.foldl (fun s m => s.setEn m false) (s.setEn b false)
    let s := (s.setGroup b form ext).setEn b true
    (if form then s else ms.foldl (fun s m => s.setEn m true) s, some (.ok 0))
  else (s.setFlt b 30, some .badState)

/-- The checks that every GANG_SET passes: arg and locks (R307, R552). -/
def gangPre (c : Cmd) (s : State) (ext : Nat) : List (Option Reply) :=
  let b := Acct.gp (gangK c)
  [failIf (!c.argOnly 0x70F || decide (4 < gangAct c)) .badArg, s.lockReply b,
    firstOf ((membersOf b ext).map s.lockReply)]

def gangRow (act : Nat) : CmdRow where
  opcode := 0x0503
  form := fun c => gangAct c == act || (act == 0 && decide (4 < gangAct c))
  pre := fun c s =>
    let k := gangK c
    let b := Acct.gp k
    match act with
    | 0 => firstOf (gangPre c s 0 ++ [failIf ((gangOuts b 0).any fun n => s.rb Reg.outCmd n) .badState,
        failIf (s.consolidated b) .badState])
    | 1 => firstOf (gangPre c s 1 ++ [failIf (decide (k % 2 = 1)) .badState,
        failIf (s.consolidated b || s.consolidated (Acct.gp (k + 1))) .badState,
        failIf ((gangOuts b 1).any fun n => s.rb Reg.outCmd n) .badState])
    | 2 => firstOf (gangPre c s (s.groupExt b) ++ [failIf (!s.consolidated b) .badState,
        failIf ((s.gangMembers k).any fun n => s.rb Reg.outCmd n) .badState])
    | _ => firstOf (gangPre c s (s.groupExt b) ++ [failIf (!s.consolidated b) .badState,
        s.outSetCheck (0x20 + k) (act == 3)])
  run := fun c s =>
    let k := gangK c
    match act with
    | 0 => s.gangForm k true 0
    | 1 => s.gangForm k true 1
    | 2 => s.gangForm k false 0
    | 3 =>
      let s := s.unitSet (0x20 + k) true
      (s, some (.ok (wOf s.askMask &&& wOf (maskOf (s.gangMembers k)))))
    | _ => (s.unitSet (0x20 + k) false, some (.ok 0))

/-- PAIR_CONFIG (R288, R308): SPk, both IN_CFG words and the grouping. -/
def pairConfigRow : CmdRow where
  opcode := 0x0504
  len := fun n => n == 12
  pre := fun c s =>
    let k := c.argF 0 3
    let w := fld (s.r Reg.tpTiming) 8 7
    let n := 32 + 2 * k
    firstOf [failIf (!c.argOnly 0x107) .badArg, imagesReply 0 (Reg.pairCfg k) [c.img 0],
      imagesReply 4 (Reg.inCfg n) (wordsAt c.pay 4 2),
      failIf (!filtOk (c.img 1) w || !s.doorFiltOk n (c.img 1)) (.badParam 4),
      failIf (!filtOk (c.img 2) w || !s.doorFiltOk (n + 1) (c.img 2)) (.badParam 8),
      failIf (c.argF 8 1 == 1 && !pairClassOk (c.img 1) (c.img 2)) (.badParam 4),
      s.lockReply (Acct.sp k), s.lockReply (Acct.ina k), s.lockReply (Acct.inb k)]
  run := fun c s =>
    let k := c.argF 0 3
    let n := 32 + 2 * k
    let form := c.argF 8 1 == 1
    let s := ((s.setEn (Acct.sp k) false).setEn (Acct.ina k) false).setEn (Acct.inb k) false
    let s := ((s.w (Reg.pairCfg k) (c.img 0)).w (Reg.inCfg n) (c.img 1)).w (Reg.inCfg (n + 1)) (c.img 2)
    let s := (s.setGroup (Acct.sp k) form 0).setEn (Acct.sp k) true
    let s := if form then s else (s.setEn (Acct.ina k) true).setEn (Acct.inb k) true
    (((s.restartIn n).restartIn (n + 1)).pairStart k, some (.ok 0))

/-- TESTPULSE_CONFIG (R285, R309). -/
def testpulseConfigRow : CmdRow where
  opcode := 0x0505
  len := fun n => n == 20
  pre := fun c s =>
    firstOf [failIf (!c.argOnly 0) .badArg, imagesReply 0 Reg.tpTiming [c.img 0],
      failIf ((List.range 48).any fun n => s.inEn n && !filtOk (s.r (Reg.inCfg n)) (fld (c.img 0) 8 7)) (.badParam 0),
      imagesReply 4 (Reg.tpoCfg 0) (wordsAt c.pay 4 4), firstOf ((List.range 4).map fun j => s.lockReply (Acct.tpc j))]
  run := fun c s =>
    let s := s.w Reg.tpTiming (c.img 0)
    ((List.range 4).foldl (fun s j => s.w (Reg.tpoCfg j) (c.img (1 + j))) s, some (.ok 0))

end State

/-- IO_CONFIG (R305, R562). -/
def execIoConfig (src : Src) (s : State) : Host.Outcome State Fault Refusal := .next (s.runRow State.ioConfigRow src)

/-- OUT_SET (R306, R562). -/
def execOutSet (src : Src) (s : State) : Host.Outcome State Fault Refusal := .next (s.runRow State.outSetRow src)

/-- GANG_SET FORM2 (R296, R307). A GANG_SET with an action that does not exist is refused here too. -/
def execGangSetForm2 (src : Src) (s : State) : Host.Outcome State Fault Refusal := .next (s.runRow (State.gangRow 0) src)

/-- GANG_SET FORM4 (R296, R307). -/
def execGangSetForm4 (src : Src) (s : State) : Host.Outcome State Fault Refusal := .next (s.runRow (State.gangRow 1) src)

/-- GANG_SET DISSOLVE (R296, R307). -/
def execGangSetDissolve (src : Src) (s : State) : Host.Outcome State Fault Refusal := .next (s.runRow (State.gangRow 2) src)

/-- GANG_SET ON (R306, R307). -/
def execGangSetOn (src : Src) (s : State) : Host.Outcome State Fault Refusal := .next (s.runRow (State.gangRow 3) src)

/-- GANG_SET OFF (R306, R307). -/
def execGangSetOff (src : Src) (s : State) : Host.Outcome State Fault Refusal := .next (s.runRow (State.gangRow 4) src)

/-- PAIR_CONFIG (R288, R308). -/
def execPairConfig (src : Src) (s : State) : Host.Outcome State Fault Refusal := .next (s.runRow State.pairConfigRow src)

/-- TESTPULSE_CONFIG (R309). -/
def execTestpulseConfig (src : Src) (s : State) : Host.Outcome State Fault Refusal := .next (s.runRow State.testpulseConfigRow src)

end Sys2Proof.Machine
end

