-- ==== Sys2Proof/Machine/DoorCore.lean ====
section
/-! DEFINITION. Door port states and faults (06_door_ports.md R213, R214, R227, R228): the operations that
other units use too. -/

namespace Sys2Proof.Machine

namespace State

def doorAt (s : State) (n : Nat) : Door := s.doors.getD n Door.init
def updDoor (s : State) (n : Nat) (f : Door → Door) : State := { s with doors := updAt s.doors n f }

/-- DOOR_STATE.state (R213). -/
def doorCode (s : State) (n : Nat) : Nat := s.rf (Reg.doorState n) 0 4

/-- The account state of a door state (R213); DEGRADED while enc_lost works. -/
def doorAcct (s : State) (n code : Nat) : Nat :=
  let base := if code = 9 then 5 else if code = 0xB ∨ code = 0xF then 1
    else if [2, 4, 5, 6, 0xA].contains code then 3 else 2
  if (s.doorAt n).align ∧ (base = 2 ∨ base = 3) then 6 else base

def showDoorAcct (s : State) (n : Nat) : State := s.setCode (Acct.doorPort n) (s.doorAcct n (s.doorCode n))

/-- The buzzer output follows NUDGING (R225). -/
def buzz (s : State) (n : Nat) (b : Bool) : State :=
  let o := s.rf (Reg.doorCfg n) 24 6
  let s := s.wb (Reg.doorState n) 12 b
  if o ≥ 32 then s
  else if b then (if s.en (outBase o) then s.unitOnAsk (s.unitOf o) else s)
  else s.unitOffCmd (s.unitOf o)

/-- A change of door state: registers, account, buzzer, DOOR_STATE (R213, R214). -/
def toDoor (s : State) (n code : Nat) : State :=
  let was := s.doorCode n
  if was = code then s
  else
    let s := s.wf (Reg.doorState n) 0 4 code
    let s := (s.wf (Acct.doorPort n + 0xC) 8 4 code).showDoorAcct n
    let s := if code = 6 then s.buzz n true else if was = 6 then s.buzz n false else s
    s.post Ev.doorState n code

/-- The stage of a port. -/
def setStage (s : State) (n : Nat) (g : Stage) : State := s.updDoor n fun d => { d with stage := g }

/-- The port is enabled and runs here. -/
def doorLive (s : State) (n : Nat) : Bool := s.runs (Acct.doorPort n) && s.en (Acct.doorPort n)

/-- Fault bits that hold a port in FAULT (R227): hall_stop, pstage, overcurrent, vbus, adc. -/
def doorFaulted (s : State) (n : Nat) : Bool :=
  [1, 2, 3, 4, 6].any fun i => s.hasFlt (Acct.doorPort n) i

/-- A cause of R227: its bit, DOOR_FAULT, its stop, FAULT. Hall and bus voltage coast and then brake; the
power stage and overcurrent switch everything off at once. -/
def doorFault (s : State) (n i detail : Nat) : State :=
  if !s.doorLive n then s
  else
    let s := if s.hasFlt (Acct.doorPort n) i then s else s.fault (Acct.doorPort n) i Ev.doorFault n detail
    let coast := i == 1 || i == 4
    let s := s.updDoor n fun d =>
      { d with stage := if coast then .idle else .off, coastAt := if coast then some s.till else none,
               goal := .none, vref := 0, dwell := false, contactWait := false, lockWait := false, paused := false }
    let s := if i = 1 ∧ s.rf (Reg.doorCfg n) 2 2 = 0 then
        (s.wb (Reg.doorState n) 4 false).wb (Acct.doorPort n + 0xC) 12 false
      else s
    s.toDoor n 9

/-- The ports bound to Hall account h. -/
def hallDoors (s : State) (h : Nat) : List Nat :=
  (List.range 2).filter fun n => s.doorLive n && s.rf (Reg.doorCfg n) 14 1 == h

/-- HALL_STOP stops the bound port (R100, R227). -/
def hallStopDoors (s : State) (h : Nat) : State := (s.hallDoors h).foldl (fun s n => s.doorFault n 1 1) s

/-- A bound encoder lost its trust (R228): enc_lost, DEGRADED, on the Hall input. -/
def encLostDoors (s : State) (e : Nat) : State :=
  ((List.range 2).filter fun n => s.doorLive n && s.rf (Reg.doorCfg n) 2 2 == e && e != 0).foldl (fun s n =>
    let s := if s.hasFlt (Acct.doorPort n) 5 then s else s.fault (Acct.doorPort n) 5 Ev.doorFault n 5
    (s.updDoor n fun d => { d with align := true }).showDoorAcct n) s

/-- A good Hall transition: the port counts a step, and realigns to an encoder that is trusted again once
enc_lost has been cleared (R207, R228). -/
def hallStepDoors (s : State) (h : Nat) (fwd : Bool) : State :=
  (s.hallDoors h).foldl (fun s n =>
    let s := s.updDoor n fun d => { d with steps := if fwd then d.steps + 1 else d.steps - 1 }
    let e := s.rf (Reg.doorCfg n) 2 2
    if (s.doorAt n).align ∧ !s.hasFlt (Acct.doorPort n) 5 ∧ e ≠ 0 ∧ !s.rb (Acct.enc e + 0xC) 8 ∧
        s.rf (Acct.enc e + 0xC) 4 4 ≠ 5 then
      (s.updDoor n fun d => { d with align := false }).showDoorAcct n
    else s) s

end State

end Sys2Proof.Machine
end

