-- ==== Sys2Proof/Machine/Feedback.lean ====
section
/-! DEFINITION. Feedback inputs (03_feedback_inputs.md): encoders, Hall, SSI, capture, accelerometer and
emulation, with the observer gate that their edges move (04_reckoner.md R129, R130). -/

namespace Sys2Proof.Machine

/-- Round to the nearest whole, halves up. -/
def ratRound (q : Rat) : Int := (q + 1 / 2).floor

/-- Till counts as seconds. -/
def tillSec (n : Int) : Rat := (n : Rat) / 200000000

namespace State

def encAt (s : State) (n : Nat) : Enc := s.fb.enc.getD n Enc.init
def updEnc (s : State) (n : Nat) (f : Enc → Enc) : State := { s with fb := { s.fb with enc := updAt s.fb.enc n f } }
def absAt (s : State) (n : Nat) : AbsSt := s.fb.abs.getD n AbsSt.init
def updAbs (s : State) (n : Nat) (f : AbsSt → AbsSt) : State := { s with fb := { s.fb with abs := updAt s.fb.abs n f } }
def updEmu (s : State) (f : Emu → Emu) : State := { s with fb := { s.fb with emu := f s.fb.emu } }
def obsAt (s : State) (c : Nat) : Obs := s.obs.getD c Obs.init
def updObs (s : State) (c : Nat) (f : Obs → Obs) : State := { s with obs := updAt s.obs c f }
def updFus (s : State) (f : Fusion → Fusion) : State := { s with fus := f s.fus }

/-- Account of observer channel c: 0 to 2 ENC, 3 and 4 ABS. -/
def obsBase (c : Nat) : Nat := if c < 3 then Acct.enc c else Acct.abs (c - 3)

/-- First word of a channel's observer registers. -/
def obsReg (c : Nat) : Nat := obsBase c + 0x80

/-- mstat.valid of the fused model (R155). -/
def mstatValid (s : State) : Bool := s.rb Reg.fusMstat 3
def mstatMoving (s : State) : Bool := s.rb Reg.fusMstat 0

/-- Show the gate in OBS_STAT (R130, R131). -/
def showGate (s : State) (c : Nat) : State :=
  let o := s.obsAt c
  let g := match o.gate with
    | .standstill => 0 | .first => 1 | .tracking => 2 | .reversed => 3
  s.w (obsReg c + 8) (wOf (g + (if o.moving then 256 else 0) + (if o.reversal then 512 else 0) +
    (if o.gate = .tracking then 0 else 1024)))

/-- A seed counts in OBS_CNT.seeds (R129). -/
def countSeed (s : State) (c : Nat) : State := s.addF (obsReg c + 0x2C) 16 16 1

/-- The gate takes a counted edge with its stamp and count (R130). -/
def gateEdge (s : State) (c stamp : Nat) (count : Int) : State :=
  let o := s.obsAt c
  match o.gate with
  | .standstill =>
    (s.updObs c fun o => { o with gate := .first, moving := true, mark := (stamp, count) }).showGate c
  | .first =>
    let dt := tillSec ((stamp : Int) - o.mark.1)
    ((s.updObs c fun o =>
      { o with
        gate := .tracking
        reversal := false
        p := count
        v := if dt = 0 then 0 else ((count - o.mark.2 : Int) : Rat) / dt
        a := 0
        mark := (stamp, count) }).countSeed c).showGate c
  | .tracking => s.updObs c fun o => { o with mark := (stamp, count) }
  | .reversed => (s.updObs c fun o => { o with gate := .first, mark := (stamp, count) }).showGate c

/-- The gate takes an absorbed edge (R130). -/
def gateAbsorbed (s : State) (c : Nat) : State :=
  match (s.obsAt c).gate with
  | .standstill => s
  | .reversed => s
  | _ => (s.updObs c fun o => { o with gate := .reversed, reversal := true }).showGate c

/-- Enable and every observer reset: STANDSTILL and zero (R130). -/
def resetObs (s : State) (c : Nat) : State := (s.updObs c fun _ => Obs.init).showGate c

/-- ENC_REV × ENC_REV_COUNT + ENC_POS (R86). -/
def extPos (s : State) (n : Nat) : Int :=
  wInt (s.r (Reg.encRev n)) * (s.rf (Reg.encRevCount n) 0 25 : Int) + (s.rf (Reg.encPos n) 0 24 : Int)

/-- One count forward or back with the wrap of R86. -/
def encStep (s : State) (n : Nat) (fwd : Bool) : State :=
  let rc := s.rf (Reg.encRevCount n) 0 25
  let pos := s.rf (Reg.encPos n) 0 24
  if fwd then
    if pos + 1 = rc then (s.w (Reg.encPos n) 0).w (Reg.encRev n) (s.r (Reg.encRev n) + 1)
    else s.w (Reg.encPos n) (wOf (pos + 1))
  else
    if pos = 0 then (s.w (Reg.encPos n) (wOf (rc - 1))).w (Reg.encRev n) (s.r (Reg.encRev n) - 1)
    else s.w (Reg.encPos n) (wOf (pos - 1))

/-- The channel is untrusted (class_stat[8], R88, R109). -/
def untrusted (s : State) (b : Nat) : Bool := s.rb (b + 0xC) 8

def setUntrusted (s : State) (b : Nat) (v : Bool) : State := s.wb (b + 0xC) 8 v

/-- ENC state after a change of its faults: FAULTED for a line fault on A or B, DEGRADED for untrusted or a
line fault on Z (R88, R92). -/
def encCode (s : State) (n : Nat) : State :=
  let b := Acct.enc n
  if s.rf (b + 0xC) 4 4 = 1 then s
  else if s.hasFlt b 2 || s.hasFlt b 3 then (s.setCode b 5).encLostDoors n
  else if s.untrusted b then (s.setCode b 6).encLostDoors n
  else if s.hasFlt b 4 then s.setCode b 6
  else if (match (s.encAt n).last with
      | some t => decide (s.till ≤ t + 200000)
      | none => false) then s.setCode b 3
  else s.setCode b 2

/-- The index check of R91 for travel without an index. -/
def encMissing (s : State) (n : Nat) : State :=
  let e := s.encAt n
  if s.rb (Reg.encCfg n) 3 && s.rb (Reg.encCfg n) 5 && !e.missed &&
      decide (5 * (s.rf (Reg.encRevCount n) 0 25 : Int) ≤ 4 * (s.extPos n - e.idxRef).natAbs) then
    (s.updEnc n fun e => { e with missed := true }).fault (Acct.enc n) 6 Ev.encIndex n 2
  else s

/-- A counted edge at its stamp (R85, R86, R89, R95). -/
def encCount (s : State) (n stamp : Nat) (fwd : Bool) : State :=
  let e := s.encAt n
  let s := s.encStep n fwd
  let s := match e.last with
    | some t => s.w (Reg.encEdgeDt n) (wOf (satN 0xFFFFFFFF (sub64 stamp t)))
    | none => s
  let s := s.wTill (Reg.encEdgeTillL n) (Reg.encEdgeTillH n) stamp
  let s := (s.wb (Acct.enc n + 0xC) 9 (!fwd)).wb (Acct.enc n + 0xC) 10 false
  let s := s.updEnc n fun e => { e with dir := some fwd, last := some stamp }
  let c := s.extPos n
  let s := s.updObs n fun o => { o with meas := some (c, stamp), lastCount := c, fwd := fwd }
  ((s.gateEdge n stamp c).encMissing n).encCode n

/-- A legal edge that the decode mode selects: ENC_RAW, then counted or absorbed (R89, R90). -/
def encLegal (s : State) (n stamp : Nat) (fwd : Bool) : State :=
  let s := s.w (Reg.encRaw n) (if fwd then s.r (Reg.encRaw n) + 1 else s.r (Reg.encRaw n) - 1)
  match (s.encAt n).dir with
  | some d =>
    if d = fwd then s.encCount n stamp fwd
    else ((s.updEnc n fun e => { e with dir := some fwd }).wb (Acct.enc n + 0xC) 10 true).gateAbsorbed n
  | none => s.encCount n stamp fwd

/-- An illegal transition and its burst (R87, R88). -/
def encIllegal (s : State) (n : Nat) : State :=
  let s := s.addF (Reg.encQerr n) 0 32 1
  let s := s.updObs n fun o => { o with invalid := true }
  let ill := ((s.encAt n).ill ++ [s.till])
  let ill := ill.drop (ill.length - 4)
  let s := s.updEnc n fun e => { e with ill := ill }
  if ill.length = 4 ∧ s.till ≤ ill.headD 0 + 200000 then
    ((s.fault (Acct.enc n) 1 Ev.encQburst n 0).setUntrusted (Acct.enc n) true).encCode n
  else s

/-- Does the decode mode count this edge (R85)? `onA`: the edge is on A; `b`: the level of B. -/
def encSelected (decode : Nat) (onA b : Bool) : Bool :=
  match decode with
  | 0 => onA && !b
  | 1 => onA
  | _ => true

end State

/-- ENC_EDGE (R83 to R91): A and B as the filters accept them. -/
def execEncEdge (n : Fin 3) (a b : Bool) (s : State) : Host.Outcome State Fault Refusal :=
  let base := Acct.enc n
  let e := s.encAt n
  let a := if s.hasFlt base 2 then e.a else a
  let b := if s.hasFlt base 3 then e.b else b
  let s1 := s.updEnc n fun e => { e with a := a, b := b }
  if !s.runs base || !s.en base || (a == e.a && b == e.b) then .next s1
  else if a ≠ e.a ∧ b ≠ e.b then .next (s1.encIllegal n)
  else
    let onA := a != e.a
    let fwd := (if onA then a != b else a == b) != s.rb (Reg.encCfg n) 2
    let f := s.rf (Reg.encFilt n) (if onA then 0 else 8) 5
    if State.encSelected (s.rf (Reg.encCfg n) 0 2) onA b then .next (s1.encLegal n (s.till - (f - 1)) fwd)
    else .next s1

/-- UNTRUSTED_CLEAR (R88): qburst, line_a and line_b clear and no illegal transition for 1 ms. -/
def execUntrustedClear (n : Fin 3) (s : State) : Host.Outcome State Fault Refusal :=
  let b := Acct.enc n
  let quiet := match (s.encAt n).ill.getLast? with
    | some t => decide (t + 200000 ≤ s.till)
    | none => true
  if s.untrusted b && !s.hasFlt b 1 && !s.hasFlt b 2 && !s.hasFlt b 3 && quiet then
    .next ((s.setUntrusted b false).encCode n)
  else .next s

/-- ENC_INDEX_EDGE (R91): an accepted level of Z. -/
def execEncIndexEdge (n : Fin 3) (z : Bool) (s : State) : Host.Outcome State Fault Refusal :=
  let base := Acct.enc n
  let e := s.encAt n
  let s1 := s.updEnc n fun e => { e with z := z }
  if !s.runs base || !s.en base || s.hasFlt base 4 || z == e.z || !s.rb (Reg.encCfg n) 3 ||
      z == s.rb (Reg.encCfg n) 4 then .next s1
  else
    let pos := s.rf (Reg.encPos n) 0 24
    let rc := s.rf (Reg.encRevCount n) 0 25
    let ref := s.extPos n
    let s2 := ((s1.w (Reg.encIdxCap n) (wOf pos)).count base).updEnc n fun e => { e with idxRef := ref, missed := false }
    let d := (pos + rc - s.rf (Reg.encIdxExp n) 0 24 % rc) % rc
    let d := if d ≤ rc - d then d else rc - d
    if s.rb (Reg.encCfg n) 5 && decide (s.rf (Reg.encCfg n) 8 8 < d) then
      .next (s2.fault base 5 Ev.encIndex n 1)
    else .next s2

/-- ENC_LINE (R92): `lines` says which receivers stay below 200 mV for more than 1 us. -/
def execEncLine (n : Fin 3) (lines : BitVec 3) (s : State) : Host.Outcome State Fault Refusal :=
  let base := Acct.enc n
  if !s.runs base || !s.en base || !s.rb (Reg.encCfg n) 7 || lines == 0#3 then .next s
  else
    let set (i : Nat) (s : State) := if lines.getLsbD i then s.setFlt base (2 + i) else s
    let s := set 2 (set 1 (set 0 s))
    let s := if lines.getLsbD 0 || lines.getLsbD 1 then s.setUntrusted base true else s
    .next ((s.encCode n).post Ev.encLine n lines.toNat)

/-- ENC_RECEIVER_SETTLE (R93): 10 us after the enable, STARTING ends. -/
def execEncReceiverSettle (n : Fin 3) (s : State) : Host.Outcome State Fault Refusal :=
  let base := Acct.enc n
  if s.runs base && s.en base && s.rf (base + 0xC) 4 4 == 1 then .next ((s.setCode base 2).encCode n)
  else .next s

namespace State

/-- ENC, from 0 to 1 of en (R93). -/
def enableEnc (s : State) (n : Nat) : State :=
  let s := ((((s.w (Reg.encPos n) 0).w (Reg.encRev n) 0).w (Reg.encRaw n) 0).w (Reg.encQerr n) 0).w (Reg.encIdxCap n) 0
  let s := s.updEnc n fun e => { e with dir := none, idxRef := 0, missed := false, last := none, ill := [] }
  let s := s.wf (Acct.enc n + 0xC) 8 3 0
  (s.resetObs n).setCode (Acct.enc n) 1

/-! Hall inputs (R96 to R101). -/

/-- Sector of a valid state (R96). -/
def hallSector (st : Nat) : Nat :=
  match st with
  | 1 => 0 | 3 => 1 | 2 => 2 | 6 => 3 | 4 => 4 | _ => 5

/-- HALL_STOP; the door port that DOOR_CONFIG binds to Hall account n stops (R100, R227). -/
def signalHallStop (s : State) (n : Nat) : State := (s.fault (Acct.hall n) 3 Ev.hallStop n 0).hallStopDoors n

/-- One more invalid or skip event in a row (R100). -/
def hallBad (s : State) (n : Nat) : State :=
  let c := s.rf (Reg.hallState n) 16 2
  let s := s.wf (Reg.hallState n) 16 2 (satN 3 (c + 1))
  if c = 2 then s.signalHallStop n else s

/-- A good transition (R99). -/
def hallGood (s : State) (n st stamp : Nat) (fwd : Bool) : State :=
  let s := (s.wf (Reg.hallState n) 4 3 st).wf (Reg.hallState n) 8 3 (hallSector st)
  let s := (s.wb (Reg.hallState n) 12 (!fwd)).wf (Reg.hallState n) 16 2 0
  let s := match s.fb.hallLast.getD n none with
    | some t => s.w (Reg.hallPeriod n) (wOf (satN 0xFFFFFFFF (sub64 stamp t)))
    | none => s
  let s := s.wTill (Reg.hallEdgeTillL n) (Reg.hallEdgeTillH n) stamp
  let s := { s with fb := { s.fb with hallLast := updAt s.fb.hallLast n fun _ => some stamp } }
  (s.count (Acct.hall n)).hallStepDoors n fwd

end State

/-- HALL_CHANGE (R96 to R100): the filtered lines W, V, U. -/
def execHallChange (n : Fin 2) (lines : BitVec 3) (s : State) : Host.Outcome State Fault Refusal :=
  let base := Acct.hall n
  let st := lines.toNat
  let old := s.rf (Reg.hallState n) 0 3
  let held := s.rf (Reg.hallState n) 4 3
  let s1 := s.wf (Reg.hallState n) 0 3 st
  if !s.runs base || !s.en base || st == old then .next s1
  else if st = 0 ∨ st = 7 then
    .next (((s1.addF (Reg.hallErr n) 0 16 1).fault base 1 Ev.hallInvalid n st).hallBad n)
  else if held = 0 then
    .next ((s1.wf (Reg.hallState n) 4 3 st).wf (Reg.hallState n) 8 3 (State.hallSector st))
  else if st = held then .next s1
  else
    let d := (State.hallSector st + 6 - State.hallSector held) % 6
    let stamp := s.till - (s.rf (Reg.hallCfg n) 0 8 - 1)
    let inv := s.rb (Reg.hallCfg n) 9
    if d = 1 then .next (s1.hallGood n st stamp (!inv))
    else if d = 5 then .next (s1.hallGood n st stamp inv)
    else
      let s2 := (s1.wf (Reg.hallState n) 4 3 st).wf (Reg.hallState n) 8 3 (State.hallSector st)
      .next (((s2.addF (Reg.hallErr n) 16 16 1).fault base 2 Ev.hallSkip n st).hallBad n)

namespace State

/-! SSI inputs (R102 to R110). -/

/-- Bits of one frame, N of R102. -/
def absN (cfg : Word) : Nat := fld cfg 22 2 + fld cfg 10 6 + fld cfg 19 3 + (if bit cfg 17 then 6 else 0)

/-- R103 in units of 1 ns. -/
def absPeriodOk (cfg tim : Word) : Bool :=
  decide ((absN cfg + 1) * (fld cfg 0 10 + 1) * 10 + fld cfg 24 8 * 5 + fld tim 8 7 * 1000 ≤ fld tim 0 7 * 1000)

/-- The 6-bit CRC of R105 over `n` bits of `v`, most significant first. -/
def crc6 (v : Nat) : Nat → Nat
  | 0 => 0
  | n + 1 =>
    let c := crc6 (v / 2) n
    let fb := (v % 2 + c / 32) % 2
    let c := c * 2 % 64
    if fb = 1 then c ^^^ 3 else c

/-- Gray to binary over `n` bits (R106). -/
def unGray (v : Nat) : Nat → Nat
  | 0 => 0
  | n + 1 => v ^^^ unGray (v / 2) n

/-- The fields of a received frame: data, status and CRC (R102). -/
def absData (cfg : Word) (f : Nat) : Nat :=
  let c := if bit cfg 17 then 6 else 0
  f / 2 ^ (c + fld cfg 19 3) % 2 ^ fld cfg 10 6

def absStatus (cfg : Word) (f : Nat) : Nat :=
  f / 2 ^ (if bit cfg 17 then 6 else 0) % 2 ^ fld cfg 19 3

/-- Check 2 of R106. -/
def absCrcOk (cfg : Word) (f : Nat) : Bool :=
  if bit cfg 17 then
    let rx := if bit cfg 18 then (f % 64) ^^^ 63 else f % 64
    crc6 (f / 64 % 2 ^ (fld cfg 10 6 + fld cfg 19 3)) (fld cfg 10 6 + fld cfg 19 3) == rx
  else true

/-- Check 3 of R106: the k-th status bit received is the (stat_bits - 1 - k)-th from the right. -/
def absStatusOk (cfg rule : Word) (f : Nat) : Bool :=
  (List.range (fld cfg 19 3)).all fun k =>
    !(bit rule k && ((absStatus cfg f / 2 ^ (fld cfg 19 3 - 1 - k) % 2 == 1) == bit rule (4 + k)))

/-- The observer's prediction at a stamp, raw counts (R107). -/
def obsPredict (s : State) (c stamp : Nat) : Rat :=
  let o := s.obsAt c
  let dt := tillSec ((stamp : Int) - o.tick)
  o.p + o.v * dt + o.a * dt * dt / 2

/-- A rejected read (R106). -/
def absReject (s : State) (n order : Nat) : State :=
  let b := Acct.abs n
  let first := s.rf (Reg.absConsec n) 0 8 == 0
  let s := (s.addF (Reg.absErr n) (8 * (order - 1)) 8 1).setFlt b order
  let s := s.addF (Reg.absConsec n) 0 8 1
  let s := s.updAbs n fun x => { x with jumps := if order = 4 then x.jumps + 1 else 0 }
  let s := if first then s.post Ev.absReject n order else s
  if order = 4 ∧ (s.absAt n).jumps = 8 ∧ !s.hasFlt b 5 then
    ((s.fault b 5 Ev.absJumpLock n 0).setUntrusted b true).setCode b 6
  else s

/-- The ABS observer takes an accepted read: seed, second read or measurement, and the gate's edges (R129,
R130). -/
def absObserve (s : State) (n stamp : Nat) (m : Int) (seed second : Bool) : State :=
  let c := n + 3
  let o := s.obsAt c
  let s :=
    if seed then
      let res := (s.rf Reg.fusTapeRes 0 32 : Rat)
      let v : Rat :=
        if s.mstatValid then
          (wInt (s.r Reg.carspd) : Rat) * 1000 / res * (if s.rb Reg.fusCfg 5 then -1 else 1)
        else 0
      ((s.updObs c fun o => { o with p := m, v := v, a := 0, tick := stamp }).countSeed c).updAbs n
        fun x => { x with second := !s.mstatValid }
    else if second then
      let dt := tillSec ((stamp : Int) - (s.rTill (Reg.absTillL n) (Reg.absTillH n)))
      let old : Int := (s.r (Reg.absPosL n)).toNat + 2 ^ 32 * (s.r (Reg.absPosH n)).toNat
      (s.updObs c fun o =>
        { o with p := m, v := if dt = 0 then 0 else ((m - old : Int) : Rat) / dt, tick := stamp }).updAbs n
        fun x => { x with second := false }
    else s.updObs c fun o => { o with meas := some (m, stamp) }
  match o.prev with
  | none => s.updObs c fun o => { o with prev := some m }
  | some q =>
    if m = q then s
    else
      let fwd := decide (q < m)
      let s := s.updObs c fun o => { o with prev := some m, prevFwd := some fwd }
      if o.prevFwd = some (!fwd) then s.gateAbsorbed c
      else (s.updObs c fun o => { o with lastCount := m, fwd := fwd }).gateEdge c stamp m

/-- An accepted read (R106 to R109). -/
def absAccept (s : State) (n stamp v : Nat) (seed second : Bool) : State :=
  let b := Acct.abs n
  let s := s.absObserve n stamp v seed second
  let s := ((s.w (Reg.absPosL n) (wOf v)).w (Reg.absPosH n) (wOf (v / 2 ^ 32))).wTill (Reg.absTillL n) (Reg.absTillH n) stamp
  let s := (s.w (Reg.absConsec n) 0).count b
  let s := s.updAbs n fun x => { x with seed := false, jumps := 0 }
  let s := if seed then s.wb (b + 0xC) 9 true else s
  let s := if s.hasFlt b 5 then s else (s.setUntrusted b false).setCode b 2
  if n = 0 ∧ s.role = .solo then
    s.updFus fun x => { x with tapeIn := x.tapeIn ++ [{ stamp := stamp, value := (v : Int), seed := seed }] }
  else if n = 0 ∧ s.role = .car then
    { s with link := { s.link with tape := some { stamp := stamp, value := (v : Int), seed := seed } } }
  else s

/-- ABS, from 0 to 1 of en: the next good read is a seed read (R107). -/
def enableAbs (s : State) (n : Nat) : State :=
  ((s.updAbs n fun _ => AbsSt.init).resetObs (n + 3)).setCode (Acct.abs n) 2

end State

/-- ABS_READ (R102 to R104, R124): a read starts on a period boundary. -/
def execAbsRead (n : Fin 2) (dataHigh : Bool) (s : State) : Host.Outcome State Fault Refusal :=
  let b := Acct.abs n
  if !s.runs b || !s.en b || s.pwr == .hush || s.till % (200 * s.rf (Reg.absTiming n) 0 7) != 0 then .next s
  else .next (s.updAbs n fun x => { x with reading := some (s.till, dataHigh) })

/-- ABS_FRAME_END (R105 to R108): the frame's bits as received, right-aligned. -/
def execAbsFrameEnd (n : Fin 2) (frame : BitVec 53) (s : State) : Host.Outcome State Fault Refusal :=
  match (s.absAt n).reading with
  | none => .next s
  | some (t0, high) =>
    let b := Acct.abs n
    let cfg := s.r (Reg.absCfg n)
    let f := frame.toNat % 2 ^ State.absN cfg
    let x := s.absAt n
    let s1 := s.updAbs n fun x => { x with reading := none }
    let s1 := (s1.w (Reg.absRawL n) (wOf f)).w (Reg.absRawH n) (wOf (f / 2 ^ 32))
    let stamp := t0 + s.rf (Reg.absTiming n) 16 16
    let raw := State.absData cfg f
    let v := if bit cfg 16 then State.unGray raw (fld cfg 10 6) else raw
    if !s.en b then .next s1
    else if !high then .next (s1.absReject n 1)
    else if !State.absCrcOk cfg f then .next (s1.absReject n 2)
    else if !State.absStatusOk cfg (s.r (Reg.absStatusRule n)) f then .next (s1.absReject n 3)
    else if s.hasFlt b 5 then .next (s1.absReject n 4)
    else if x.seed then .next (s1.absAccept n stamp v true false)
    else if x.second then .next (s1.absAccept n stamp v false true)
    else
      let d := ((v : Int) : Rat) - s.obsPredict (n + 3) stamp
      let d := if d < 0 then -d else d
      if ((s.r (Reg.absJumpLimit n)).toNat : Rat) < d then .next (s1.absReject n 4)
      else .next (s1.absAccept n stamp v false false)

/-- ABS_STALE (R109, R124): no accepted read for 8 periods. -/
def execAbsStale (n : Fin 2) (s : State) : Host.Outcome State Fault Refusal :=
  let b := Acct.abs n
  if !s.runs b || !s.en b || s.pwr == .hush then .next s
  else .next (((s.fault b 6 Ev.absStale n 0).setUntrusted b true).setCode b 6)

namespace State

/-! Capture (R111 to R115). -/

/-- CARPOS extrapolated to now with CARSPD (R113). -/
def carposNow (s : State) : Int :=
  ratRound ((wInt (s.r Reg.carpos) : Rat) + (wInt (s.r Reg.carspd) : Rat) *
    tillSec ((s.till : Int) - s.rTill Reg.fusTillL Reg.fusTillH))

/-- The positions that a capture latches (R113). -/
def capLatch (s : State) (n : Nat) : State :=
  let word (s : State) (k : Nat) (pos : Bool) : Word :=
    if s.unavailable (Acct.enc k) then 0 else if pos then s.r (Reg.encPos k) else s.r (Reg.encRev k)
  let s := (s.w (Reg.capEnc0Pos n) (word s 0 true)).w (Reg.capEnc0Rev n) (word s 0 false)
  let s := (s.w (Reg.capEnc1Pos n) (word s 1 true)).w (Reg.capEnc1Rev n) (word s 1 false)
  let s := (s.w (Reg.capEnc2Pos n) (word s 2 true)).w (Reg.capEnc2Rev n) (word s 2 false)
  let remote := s.role == .car
  let s := s.w (Reg.capCarpos n) (if remote then s.r Reg.carpos else wOfInt s.carposNow)
  (s.wb (Reg.capFlags n) 2 remote).wb (Reg.capFlags n) 3 s.mstatValid

end State

namespace State

/-- A capture joins the queue to the peer; a full queue loses it (R361). -/
def capQueue (s : State) (c : CapRec) : State :=
  if 8 ≤ s.link.caps.length then s.addF Reg.linkCnt2 16 16 1
  else { s with link := { s.link with caps := s.link.caps ++ [(s.link.capSeq, c)], capSeq := (s.link.capSeq + 1) % 256 } }

end State

/-- CAPTURE (R111 to R115): a filtered edge of a capture input. -/
def execCapture (n : Fin 4) (rising : Bool) (s : State) : Host.Outcome State Fault Refusal :=
  let b := Acct.cap n
  let s1 := s.wb (Reg.capFlags n) 1 rising
  if !s.runs b || !s.en b then .next s1
  else if !(if rising then s.rb (Reg.capCfg n) 0 else s.rb (Reg.capCfg n) 1) then .next s1
  else if s.till < s.fb.capHold.getD n 0 then .next (s1.addF (Reg.capFlags n) 16 16 1)
  else
    let stamp := s.till - (s.rf (Reg.capCfg n) 8 5 - 1) - 24
    let s1 := if s.scOn 6 ∧ s.rb Reg.scCap (8 + n) then s1.scApplied else s1
    let s2 := s1.w (Reg.capSeq n) (s.r (Reg.capSeq n) + 2)
    let s2 := (s2.wTill (Reg.capTillL n) (Reg.capTillH n) stamp).wb (Reg.capFlags n) 0 rising
    let s2 := (s2.capLatch n).count b
    let s2 := { s2 with fb := { s2.fb with capHold := updAt s2.fb.capHold n fun _ => s.till + 200 * s.rf (Reg.capCfg n) 16 16 } }
    let c : CapRec := { ch := n, stamp := stamp, rising := rising }
    let s2 := if s.role = .car then s2.capQueue c else s2.updFus fun x => { x with capIn := x.capIn ++ [c] }
    if s.rb (Reg.capCfg n) 13 then .next (s2.post Ev.capEdge n (if rising then 1 else 0)) else .next s2

namespace State

/-! Accelerometer port (R116 to R118). -/

/-- Two bytes as a signed sample in the byte order of big_endian (R116). -/
def accAxis (s : State) (bs : List Byte) (i : Nat) : Int :=
  let b0 := leAt bs (2 * i) 1
  let b1 := leAt bs (2 * i + 1) 1
  let v := if s.rb Reg.accCfg 10 then b0 * 256 + b1 else b1 * 256 + b0
  if v < 32768 then v else (v : Int) - 65536

/-- ACC_FAULT: the bit sets, the data no longer reach fusion (R117). -/
def accFault (s : State) (bitNo : Nat) : State := s.fault Acct.accPort bitNo Ev.accFault 0 bitNo

end State

/-- ACC_SAMPLE (R116 to R118): the identity byte that the port read at its enable, and the six bytes. -/
def execAccSample (idByte : Byte) (bytes : List Byte) (s : State) : Host.Outcome State Fault Refusal :=
  let b := Acct.accPort
  if bytes.length ≠ 6 then .fault .illFormed
  else if !s.runs b || !s.en b || s.pwr == .hush || s.hasFlt b 1 then .next s
  else if s.rf (b + 0xC) 4 4 = 1 ∧ idByte.toNat ≠ s.rf Reg.accCfg2 0 8 then .next ((s.accFault 1).setCode b 5)
  else
    let s := if s.rf (b + 0xC) 4 4 = 1 then s.setCode b 2 else s
    let stuck := bytes.all (· == 0x00#8) || bytes.all (· == 0xFF#8)
    let k := if stuck then satN 8 (s.fb.accStuck + 1) else 0
    let s := { s with fb := { s.fb with accStuck := k } }
    if stuck then .next (if k = 8 ∧ !s.hasFlt b 2 then s.accFault 2 else s)
    else
      let x := s.accAxis bytes 0
      let y := s.accAxis bytes 1
      let z := s.accAxis bytes 2
      let ax := match s.rf Reg.accCfg2 12 2 with
        | 0 => x
        | 1 => y
        | _ => z
      let ax := if s.rb Reg.accCfg2 14 then -ax else ax
      let s := ((s.w Reg.accX (wOfInt x)).w Reg.accY (wOfInt y)).w Reg.accZ (wOfInt z)
      let s := s.w Reg.accVert (wOfInt (ax * (s.rf Reg.accCfg2 16 16 : Int) / 16))
      let s := { s with link := { s.link with accNew := true } }
      .next ((s.wTill Reg.accTillL Reg.accTillH s.till).count b)

/-- ACC_LATE (R117): no DRDY edge for 4 sample periods. -/
def execAccLate (s : State) : Host.Outcome State Fault Refusal :=
  if s.runs Acct.accPort && s.en Acct.accPort && s.pwr != .hush && s.rb Reg.accCfg 9 then .next (s.accFault 3)
  else .next s

namespace State

/-! Encoder emulation (R119 to R123). -/

/-- The drivers go to high impedance or drive; class_stat[8] shows it. -/
def emuDrive (s : State) (v : Bool) : State :=
  let s := (s.updEmu fun e => { e with on := v }).wb (Acct.emu + 0xC) 8 v
  if s.rf (Acct.emu + 0xC) 4 4 = 5 then s else s.setCode Acct.emu (if v then 3 else 2)

/-- EMU turns off with a fault (R119, R120, R122). -/
def emuOff (s : State) (bitNo detail : Nat) (faulted : Bool) : State :=
  let s := (s.emuDrive false).fault Acct.emu bitNo Ev.emuOff 0 detail
  if faulted then s.setCode Acct.emu 5 else s

/-- Count step of a quadrature edge pair, forward positive. -/
def quadStep (a0 b0 a1 b1 : Bool) : Int :=
  if a0 ≠ a1 ∧ b0 ≠ b1 then 0
  else if a0 ≠ a1 then (if a1 ≠ b1 then 1 else -1)
  else if b0 ≠ b1 then (if a1 = b1 then 1 else -1)
  else 0

/-- EMU, from 0 to 1 of en: it drives in repeat mode; in synthesize mode it waits for a valid fused value. -/
def enableEmu (s : State) : State :=
  let s := s.setCode Acct.emu 2
  let src := s.rf Reg.emuCfg 2 2
  if s.rf Reg.emuCfg 0 2 = 1 ∧ s.pwr ≠ .hush then
    let e := s.encAt src
    (s.updEmu fun x => { x with a := e.a, b := e.b, z := e.z }).emuDrive true
  else s.emuDrive false

end State

/-- EMU_REPEAT_EDGE (R120): the filtered levels of the source channel. -/
def execEmuRepeatEdge (a b z : Bool) (s : State) : Host.Outcome State Fault Refusal :=
  let e := s.fb.emu
  if !s.runs Acct.emu || !s.en Acct.emu || s.rf Reg.emuCfg 0 2 != 1 || !e.on || s.pwr == .hush then .next s
  else
    let out := max s.till (e.last + 40)
    if s.till + 80 < out then .next (s.emuOff 1 1 true)
    else
      let z := z && s.rb Reg.emuCfg 4
      let d := State.quadStep e.a e.b a b
      let s := s.w Reg.emuCount (wOfInt (wInt (s.r Reg.emuCount) + d))
      let s := if z && !e.z then s.count Acct.emu else s
      .next (s.updEmu fun _ => { a := a, b := b, z := z, last := out, on := true })

/-- EMU_DRIVE_FAULT (R119): a pad differs from its commanded level for more than 1 us. -/
def execEmuDriveFault (s : State) : Host.Outcome State Fault Refusal :=
  if s.runs Acct.emu && s.en Acct.emu && s.fb.emu.on then .next (s.emuOff 4 3 true) else .next s

namespace State

/-! Configuration commands (R82, R559). -/

/-- EMU_CFG and its limits of R121. -/
def emuRateOk (lines travel vmax : Word) : Bool :=
  decide (4 * lines.toNat * vmax.toNat ≤ 5000000 * travel.toNat)

def encConfigRow : CmdRow where
  opcode := 0x0201
  len := fun n => n == 16
  pre := fun c s =>
    let n := c.argF 0 2
    firstOf [failIf (!c.argOnly 3 || n == 3) .badArg, s.roleReply (Acct.enc n),
      imagesReply 0 (Reg.encCfg n) (wordsAt c.pay 0 4),
      failIf (decide ((c.img 2).toNat ≤ (c.img 3).toNat)) (.badParam 12), s.configPre (Acct.enc n)]
  run := fun c s =>
    let n := c.argF 0 2
    let s := s.wConfig (Reg.encCfg n) (wordsAt c.pay 0 4)
    (((s.setEn (Acct.enc n) true).enableEnc n), some (.ok 0))

def hallConfigRow : CmdRow where
  opcode := 0x0202
  len := fun n => n == 4
  pre := fun c s =>
    let n := c.argF 0 1
    firstOf [failIf (!c.argOnly 1) .badArg, s.roleReply (Acct.hall n),
      imagesReply 0 (Reg.hallCfg n) [c.img 0], s.configPre (Acct.hall n)]
  run := fun c s =>
    let n := c.argF 0 1
    (((s.wConfig (Reg.hallCfg n) [c.img 0]).setEn (Acct.hall n) true).setCode (Acct.hall n) 2, some (.ok 0))

def absConfigRow : CmdRow where
  opcode := 0x0203
  len := fun n => n == 16
  pre := fun c s =>
    let n := c.argF 0 1
    firstOf [failIf (!c.argOnly 1) .badArg, s.roleReply (Acct.abs n),
      imagesReply 0 (Reg.absCfg n) (wordsAt c.pay 0 4),
      failIf (!absPeriodOk (c.img 0) (c.img 1)) (.badParam 4), s.configPre (Acct.abs n)]
  run := fun c s =>
    let n := c.argF 0 1
    (((s.wConfig (Reg.absCfg n) (wordsAt c.pay 0 4)).setEn (Acct.abs n) true).enableAbs n, some (.ok 0))

def capConfigRow : CmdRow where
  opcode := 0x0208
  len := fun n => n == 4
  pre := fun c s =>
    let n := c.argF 0 2
    firstOf [failIf (!c.argOnly 3) .badArg, s.roleReply (Acct.cap n),
      imagesReply 0 (Reg.capCfg n) [c.img 0], s.configPre (Acct.cap n)]
  run := fun c s =>
    let n := c.argF 0 2
    (((s.wConfig (Reg.capCfg n) [c.img 0]).setEn (Acct.cap n) true).setCode (Acct.cap n) 2, some (.ok 0))

def emuConfigRow : CmdRow where
  opcode := 0x0207
  len := fun n => n == 16
  pre := fun c s =>
    firstOf [failIf (!c.argOnly 0) .badArg, s.roleReply Acct.emu,
      imagesReply 0 Reg.emuCfg (wordsAt c.pay 0 4),
      failIf (!emuRateOk (c.img 1) (c.img 2) (c.img 3)) (.badParam 12), s.configPre Acct.emu]
  run := fun c s => (((s.wConfig Reg.emuCfg (wordsAt c.pay 0 4)).setEn Acct.emu true).enableEmu, some (.ok 0))

def obsConfigRow : CmdRow where
  opcode := 0x0204
  len := fun n => n == 8
  pre := fun c s =>
    let k := c.argF 0 3
    let ch := if k < 3 then k else k - 1
    firstOf [failIf (!c.argOnly 7 || k == 3 || decide (5 < k)) .badArg, s.roleReply (obsBase ch),
      imagesReply 0 (obsReg ch) (wordsAt c.pay 0 2), s.configPre (obsBase ch)]
  run := fun c s =>
    let k := c.argF 0 3
    let ch := if k < 3 then k else k - 1
    let s := (s.wConfig (obsReg ch) (wordsAt c.pay 0 2)).setEn (obsBase ch) true
    (if ch < 3 then s.enableEnc ch else s.enableAbs (ch - 3), some (.ok 0))

end State

/-- ENC_CONFIG (R82, R559). -/
def execEncConfig (src : Src) (s : State) : Host.Outcome State Fault Refusal := .next (s.runRow State.encConfigRow src)

/-- HALL_CONFIG (R82, R559). -/
def execHallConfig (src : Src) (s : State) : Host.Outcome State Fault Refusal := .next (s.runRow State.hallConfigRow src)

/-- ABS_CONFIG (R82, R103, R559). -/
def execAbsConfig (src : Src) (s : State) : Host.Outcome State Fault Refusal := .next (s.runRow State.absConfigRow src)

/-- CAP_CONFIG (R82, R559). -/
def execCapConfig (src : Src) (s : State) : Host.Outcome State Fault Refusal := .next (s.runRow State.capConfigRow src)

/-- EMU_CONFIG (R82, R121, R559). -/
def execEmuConfig (src : Src) (s : State) : Host.Outcome State Fault Refusal := .next (s.runRow State.emuConfigRow src)

/-- OBS_CONFIG (R152, R559). -/
def execObsConfig (src : Src) (s : State) : Host.Outcome State Fault Refusal := .next (s.runRow State.obsConfigRow src)

end Sys2Proof.Machine
end

