-- ==== Sys2Proof/Machine/Reckoner.lean ====
section
/-! DEFINITION. The Reckoner (04_reckoner.md): tracking observers, the gate's expiry, fusion of motor encoder,
tape, captures and accelerometer, and their configuration. Positions and speeds are exact rationals; the
rounded values stand in the registers (log 14). -/

namespace Sys2Proof.Machine

/-- One update of R127 to the tick `t`: predict, then correct with the measurement or hold an encoder inside
its count; answers the correction too. -/
def obsStep (o : Obs) (isEnc : Bool) (w : Rat) (t : Nat) : Obs × Rat :=
  let T : Rat := 1 / 1000000
  let p := o.p + o.v * T + o.a * T * T / 2
  let v := o.v + o.a * T
  let e : Rat :=
    match o.meas with
    | some (m, ts) =>
      let dt := tillSec ((ts : Int) - t)
      (m : Rat) - (p + v * dt + o.a * dt * dt / 2)
    | none =>
      if isEnc then
        let b : Rat := (o.lastCount + (if o.fwd then 1 else -1) : Int)
        if (o.fwd && decide (b < p)) || (!o.fwd && decide (p < b)) then b - p else 0
      else 0
  if o.invalid then ({ o with p := p, v := v, tick := t, meas := none, invalid := false }, 0)
  else
    ({ o with p := p + 3 * w * T * e, v := v + 3 * w * w * T * e, a := o.a + w * w * w * T * e, tick := t, meas := none }, e)

namespace State

/-- The tick that an update publishes (R126). -/
def nextTick (s : State) : Nat := (s.till / 200 + 1) * 200

/-- The tick that runs now. -/
def thisTick (s : State) : Nat := s.till / 200 * 200

/-- The observer's state in its registers (R153). -/
def obsPublish (s : State) (c : Nat) (e : Rat) : State :=
  let o := s.obsAt c
  let a := obsReg c
  let spd := wOfInt (ratRound (o.v * 16))
  let s := (s.w (a + 0xC) (wOfInt o.p.floor)).w (a + 0x10) (wOfInt ((o.p - o.p.floor) * 65536).floor)
  let s := (s.w (a + 0x14) spd).w (a + 0x18) (if o.gate = .tracking then spd else 0)
  let s := (s.w (a + 0x1C) (wOfInt (ratRound o.a))).wTill (a + 0x20) (a + 0x24) o.tick
  if e = 0 then s else s.w (a + 0x28) (wOfInt (clampI (-2147483648) 2147483647 (ratRound (e * 256))))

/-- One channel's update (R126 to R128). -/
def obsUpdate1 (s : State) (c : Nat) : State :=
  let b := obsBase c
  if !s.runs b || !s.en b then s
  else
    let o := s.obsAt c
    let (o', e) := obsStep o (decide (c < 3)) (Config.omega (s.rf (obsReg c) 0 11)) s.nextTick
    let s := if o.invalid then s.addF (obsReg c + 0x2C) 0 16 1 else s
    (s.updObs c fun _ => o').obsPublish c e

end State

/-- OBS_UPDATE (R126 to R131): every observer, one 1 us update. -/
def execObsUpdate (s : State) : Host.Outcome State Fault Refusal :=
  .next (State.obsUpdate1 (State.obsUpdate1 (State.obsUpdate1 (State.obsUpdate1 (s.obsUpdate1 0) 1) 2) 3) 4)

namespace State

/-- No counted edge for T_ZERO (R130), on an observer value. -/
def gateExpire (o : Obs) (vZero : Nat) : Obs :=
  match o.gate with
  | .standstill => o
  | .tracking =>
    if (if o.v < 0 then -o.v else o.v) < (vZero : Rat) then
      { o with gate := .standstill, v := 0, a := 0, moving := false }
    else o
  | _ => { o with gate := .standstill, moving := false, reversal := false }

end State

/-- GATE_T_ZERO_EXPIRY (R130) of channel 0 to 2 ENC, 3 and 4 ABS. Fusion's own tape observer follows channel
3. -/
def execGateTZeroExpiry (ch : Fin 5) (s : State) : Host.Outcome State Fault Refusal :=
  let vz := s.rf (State.obsReg ch + 4) 16 16
  let s := if ch.val = 3 then s.updFus fun f => { f with tape := State.gateExpire f.tape (s.rf (State.obsReg 3 + 4) 16 16) } else s
  if s.runs (State.obsBase ch) && s.en (State.obsBase ch) then
    .next ((s.updObs ch fun o => State.gateExpire o vz).showGate ch)
  else .next s

namespace State

/-! Fusion. -/

/-- Motor position in um from an ENC0 count (R134). -/
def motorUm (s : State) (p : Rat) : Rat :=
  let q := p * (s.r Reg.fusSheave).toNat / (1000 * (s.rf (Reg.encRevCount 0) 0 25 : Rat))
  if s.rb Reg.fusCfg 4 then -q else q

/-- Tape counts in um, sign applied, without offset. -/
def tapeScale (s : State) (v : Rat) : Rat :=
  let q := v * (s.r Reg.fusTapeRes).toNat / 1000
  if s.rb Reg.fusCfg 5 then -q else q

/-- p_t of R134. -/
def tapeUm (s : State) (v : Rat) : Rat := s.tapeScale v + wInt (s.r Reg.fusTapeOfs) + s.fus.zcorr

/-- p_m at a stamp, linear between the two ticks around it (R135). -/
def motorAt (s : State) (ts : Nat) : Rat :=
  go s.fus.hist
where
  go : List (Nat × Rat) → Rat
    | [] => 0
    | [(_, q)] => q
    | (t1, q1) :: (t0, q0) :: rest =>
      if t1 ≤ ts then q1
      else if t0 ≤ ts then q0 + (q1 - q0) * ((ts - t0 : Int) : Rat) / ((t1 - t0 : Int) : Rat)
      else go ((t0, q0) :: rest)

/-- A sample outside the window of R135. -/
def sampleLate (s : State) (ts : Nat) : Bool :=
  decide (ts + 400000 < s.thisTick) || decide (s.thisTick + 200 < ts)

/-- A discarded sample (R135). -/
def fusLate (s : State) : State :=
  let s := (s.addF Reg.fusCnt 0 16 1).setFlt Acct.fusion 6
  let s' := s.updFus fun f => { f with lateRun := true }
  if s.fus.lateRun then s' else s'.post Ev.fusLate 0 0

/-- The tape's trust (R139): SOLO by ABS0 itself, MACHINE by the slice; in HUSH reads stop (R146). -/
def tapeUsable (s : State) : Bool :=
  s.pwr != .hush &&
    (if s.role = .solo then
      s.runs (Acct.abs 0) && s.en (Acct.abs 0) && !s.untrusted (Acct.abs 0) && !s.hasFlt (Acct.abs 0) 6
    else s.fus.sliceUsable)

/-- ENC0 is trusted (R88, R92, R139). -/
def motorTrusted (s : State) : Bool :=
  s.en (Acct.enc 0) && !s.untrusted (Acct.enc 0) && s.rf (Acct.enc 0 + 0xC) 4 4 != 1

/-- CARPOS at a stamp: p_m plus SLIP, or the tape observer in TAPE_ONLY. -/
def carAt (s : State) (ts : Nat) : Rat :=
  if s.fus.source = 3 then
    let o := s.fus.tape
    let dt := tillSec ((ts : Int) - o.tick)
    s.tapeUm (o.p + o.v * dt)
  else s.motorAt ts + s.fus.slip

/-- p_t at a stamp from fusion's tape observer (R138). -/
def tapeAt (s : State) (ts : Nat) : Rat :=
  let o := s.fus.tape
  let dt := tillSec ((ts : Int) - o.tick)
  s.tapeUm (o.p + o.v * dt)

def ratAbs (q : Rat) : Rat := if q < 0 then -q else q
def ratClamp (lo hi q : Rat) : Rat := if q < lo then lo else if hi < q then hi else q

/-- Set SLIP, held to 1/256 um (R136). -/
def setSlip (s : State) (q : Rat) : State := s.updFus fun f => { f with slip := (ratRound (q * 256) : Rat) / 256 }

/-- Change the source; FUS_SOURCE is posted (R139). -/
def setSource (s : State) (src : Nat) : State :=
  if s.fus.source = src then s
  else
    let s := (s.updFus fun f => { f with source := src, needSeed := src == 2, slipTarget := none }).post Ev.fusSource 0 src
    if src = 0 then s.setFlt Acct.fusion 7 else s

/-- SLIP follows an accepted read in source FULL (R136, R137). -/
def slipUpdate (s : State) (ts : Nat) (r : Rat) : State :=
  let dt := match s.fus.lastRead with
    | some (t, _) => tillSec ((ts : Int) - t)
    | none => 0
  let tau : Rat := (s.rf Reg.fusSlipCfg 16 10 : Rat) / 1000
  let lim : Rat := (s.rf Reg.fusSlipCfg 0 16 : Rat) * dt
  let resid := r - s.fus.slip
  let s := s.w Reg.fusResid (wOfInt (ratRound resid))
  let isOver := decide ((s.rf Reg.fusTrack 0 16 * 10 : Rat) < ratAbs resid)
  let k := if isOver then s.fus.overRun + 1 else 0
  let s := s.updFus fun f => { f with overRun := k }
  let s := if k = 3 ∧ !s.hasFlt Acct.fusion 2 then s.fault Acct.fusion 2 Ev.fusTrack 0 0 else s
  s.setSlip (s.fus.slip + ratClamp (-lim) lim (resid * dt / tau))

/-- Confirmation of a tape seed (R143). -/
def confirmRead (s : State) (ts : Nat) (pt pm : Rat) : State :=
  match s.fus.seedRead with
  | none => s.updFus fun f => { f with seedRead := some (ts, pt, pm) }
  | some (_, pt0, pm0) =>
    let lim := ratAbs (s.tapeScale ((s.r (Reg.absJumpLimit 0)).toNat : Rat))
    if ratAbs ((pt - pt0) - (pm - pm0)) ≤ lim then
      let s := (s.setSlip (pt - pm)).updFus fun f => { f with confirmed := true, seedRead := none, deadReckon := false }
      (s.post Ev.fusRebase 0 0).setSource (if s.motorTrusted then 1 else 3)
    else s.updFus fun f => { f with seedRead := some (ts, pt, pm) }

/-- One tape read reaches fusion (R135 to R137, R140, R143). -/
def takeRead (s : State) (x : TapeRead) : State :=
  if s.sampleLate x.stamp then s.fusLate
  else
    let s := (s.updFus fun f => { f with lateRun := false }).count Acct.fusion
    let pt := s.tapeUm x.value
    let pm := s.motorAt x.stamp
    let o := s.fus.tape
    let o := if x.seed || o.prev.isNone then { o with p := x.value, v := (if o.prev.isNone then 0 else o.v), a := 0, tick := x.stamp, prev := some x.value }
             else { o with meas := some (x.value, x.stamp) }
    let s := s.updFus fun f => { f with tape := o }
    let s :=
      if !s.fus.confirmed then s.confirmRead x.stamp pt pm
      else if s.fus.source = 2 ∧ (s.fus.needSeed ∨ x.seed) then
        let car := pm + s.fus.slip
        if ratAbs (pt - car) ≤ (s.rf Reg.fusTrack 16 16 * 10 : Rat) then
          (s.updFus fun f => { f with deadReckon := false, drTravel := 0 }).setSource 1
        else
          let s := s.updFus fun f => { f with needSeed := false }
          if s.hasFlt Acct.fusion 3 then s else s.fault Acct.fusion 3 Ev.fusSeedConflict 0 0
      else if s.fus.source = 1 then
        (s.slipUpdate x.stamp (pt - pm)).updFus fun f => { f with drTravel := 0 }
      else s
    s.updFus fun f => { f with lastRead := some (x.stamp, pt) }

/-- Landings in the table (LT_CFG.count). -/
def ltCount (s : State) : Nat := s.rf Reg.ltCfg 0 9
def ltPos (s : State) (n : Nat) : Int := wInt (s.r (Reg.ltPos n))
def ltWindow (s : State) (n : Nat) : Nat := s.rf (Reg.ltAttr n) 0 19

/-- The car travels up: the sign of the latest ENC0 edge in car terms. -/
def travelUp (s : State) : Bool := (s.obsAt 0).fwd != s.rb Reg.fusCfg 4

/-- The nearest expected vane edge for a capture (R138): travelling up, entry below and exit above the sill. -/
def expectedEdge (s : State) (rising : Bool) (car : Rat) : Option Int :=
  let side : Int := if s.travelUp == rising then -1 else 1
  ((List.range s.ltCount).filter fun n => s.ltWindow n != 0).foldl (fun best n =>
    let e := s.ltPos n + side * (s.ltWindow n : Int)
    match best with
    | none => some e
    | some q => if ratAbs (car - e) < ratAbs (car - q) then some e else some q) none

/-- A door-zone capture corrects ZCORR, SLIP or settles a seed conflict (R138, R141, R142). -/
def takeZone (s : State) (x : CapRec) : State :=
  let car := s.carAt x.stamp
  match s.expectedEdge x.rising car with
  | none => s
  | some e =>
    let lim : Rat := (s.rf Reg.fusLimits 16 16 * 10 : Rat)
    let pt := s.tapeAt x.stamp
    if s.hasFlt Acct.fusion 3 ∧ s.fus.source = 2 then
      let tapeOk := decide (ratAbs ((e : Rat) - pt) ≤ lim)
      let carOk := decide (ratAbs ((e : Rat) - car) ≤ lim)
      if tapeOk && !carOk then s.updFus fun f => { f with rebase := true }
      else if carOk && !tapeOk then
        ((s.clrFlt Acct.fusion 3).updFus fun f => { f with needSeed := true }).post Ev.fusSeedConflict 0 2
      else s
    else if s.fus.source = 1 then
      let z := (e : Rat) - (pt - s.fus.zcorr)
      if ratAbs (z - s.fus.zcorr) ≤ lim then
        (s.updFus fun f => { f with zcorr := ratRound z }).w Reg.zcorr (wOfInt (ratRound z))
      else (s.addF Reg.fusCnt 16 16 1).post Ev.fusZoneReject 0 x.ch
    else if s.fus.source = 2 then
      let d := (e : Rat) - car
      if ratAbs d ≤ lim then
        s.updFus fun f => { f with slipTarget := some (f.slip + d), drTravel := 0 }
      else (s.addF Reg.fusCnt 16 16 1).post Ev.fusZoneReject 0 x.ch
    else s

/-- A capture reaches fusion: a learn run takes it as a vane edge, otherwise R138. -/
def takeCap (s : State) (x : CapRec) : State :=
  if s.sampleLate x.stamp then s.fusLate
  else
    let s := s.updFus fun f => { f with lateRun := false }
    match s.learn with
    | some l =>
      if l.cap = x.ch then { s with learn := some { l with edges := l.edges ++ [ratRound (s.carAt x.stamp)] } } else s
    | none =>
      if s.rb Reg.fusCfg 6 && bit (s.r Reg.fusCfg) x.ch && s.ltCount != 0 && s.fus.confirmed then s.takeZone x else s

/-- The source that the trust of ENC0 and the tape selects (R139); the return to FULL from MOTOR_ONLY waits for
a seed read (R140), and from NONE the position is established anew (R143). -/
def chooseSource (s : State) : State :=
  if !s.fus.confirmed then s
  else
    match s.motorTrusted, s.tapeUsable with
    | true, true =>
      if s.fus.source = 3 then
        (s.setSlip ((wInt (s.r Reg.carpos) : Rat) - (s.fus.hist.headD (0, 0)).2)).setSource 1
      else if s.fus.source = 0 then s.updFus fun f => { f with confirmed := false, seedRead := none }
      else s
    | true, false => s.setSource 2
    | false, true => s.setSource 3
    | false, false => s.setSource 0

/-- MOTOR_ONLY: travel, dead reckoning and the capture target (R141). -/
def deadReckon (s : State) (dp : Rat) : State :=
  if s.fus.source ≠ 2 then s
  else
    let s := s.updFus fun f => { f with drTravel := f.drTravel + ratAbs dp }
    let s := match s.fus.slipTarget with
      | some t =>
        let lim : Rat := (s.rf Reg.fusSlipCfg 0 16 : Rat) / 1000000
        let d := t - s.fus.slip
        if ratAbs d ≤ lim then (s.setSlip t).updFus fun f => { f with slipTarget := none, deadReckon := false }
        else s.setSlip (s.fus.slip + ratClamp (-lim) lim d)
      | none => s
    let s := s.w Reg.drTravel (wOf (satN 0xFFFFFFFF (ratRound s.fus.drTravel).toNat))
    if (s.rf Reg.fusDr 0 16 * 10000 : Rat) < s.fus.drTravel ∧ !s.fus.deadReckon ∧ s.fus.slipTarget.isNone then
      (s.updFus fun f => { f with deadReckon := true }).fault Acct.fusion 4 Ev.fusDeadReckon 0 0
    else s

/-- mstat.valid by the source (R139 to R143). -/
def fusValid (s : State) : Bool :=
  s.fus.confirmed && (s.fus.source == 1 || s.fus.source == 3 || (s.fus.source == 2 && !s.fus.deadReckon))

/-- The high-pass blend and G_REF (R144). -/
def accBlend (s : State) (aObs : Rat) : State × Rat :=
  let still := (s.obsAt 0).gate == .standstill
  let mac := s.role == .machine
  let okPort := if mac then s.linkOpen && nbit (leAt s.link.slice 30 1) 1 else s.en Acct.accPort && !s.hasFlt Acct.accPort 1 && !s.hasFlt Acct.accPort 2 && !s.hasFlt Acct.accPort 3
  let vert := if mac then wInt (wordAt s.link.slice 22) else wInt (s.r Reg.accVert)
  let s := s.updFus fun f =>
    if still then { f with stillTicks := f.stillTicks + 1, accSum := f.accSum + vert, accN := f.accN + 1 }
    else { f with stillTicks := 0, accSum := 0, accN := 0 }
  let s :=
    if s.fus.stillTicks = 1000000 then
      let g := s.fus.accSum / (s.fus.accN : Int)
      ((s.updFus fun f => { f with stillTicks := 0, accSum := 0, accN := 0, gRefValid := true }).w Reg.gRef (wOfInt g)).wb
        (Acct.fusion + 0xC) 11 true
    else s
  let active := s.rb Reg.fusCfg 7 && s.fus.gRefValid && okPort
  let x : Rat := ((vert - wInt (s.r Reg.gRef) : Int) : Rat) - aObs
  let y := Config.hpAlpha (s.rf Reg.fusCfg 8 7) * (s.fus.hpState + x - s.fus.hpIn)
  let s := (s.updFus fun f => { f with hpState := y, hpIn := x }).wb (Acct.fusion + 0xC) 12 active
  (s, if active then aObs + y else aObs)

/-- The values of one update in the registers (R132, R134, R139, R154, R155). -/
def fusPublish (s : State) (pm : Rat) : State :=
  let src := s.fus.source
  let o := if src = 3 then s.fus.tape else s.obsAt 0
  let conv := fun q => if src = 3 then s.tapeScale q else s.motorUm q
  let zero := o.gate != .tracking
  let pos : Rat := if src = 3 then s.tapeUm o.p else pm + s.fus.slip
  let hold := src == 0 || !s.fus.confirmed
  let (s, acc) := s.accBlend (s.motorUm (s.obsAt 0).a)
  let raw := ratRound (conv o.v)
  let s := if hold then s else s.w Reg.carpos (wOfInt (ratRound pos))
  let s := s.w Reg.carspdRaw (wOfInt (if hold then 0 else raw))
  let s := s.w Reg.carspd (wOfInt (if hold || zero then 0 else raw))
  let s := s.w Reg.caracc (wOfInt (if hold || zero then 0 else ratRound (if src = 3 then conv o.a else acc)))
  let m := (if o.moving then 1 else 0) + (if o.reversal then 2 else 0) + (if zero then 4 else 0) +
    (if s.fusValid then 8 else 0)
  let s := (s.w Reg.fusMstat (wOf m)).wTill Reg.fusTillL Reg.fusTillH s.nextTick
  let s := (s.w Reg.slip (wOfInt (ratRound s.fus.slip))).wf (Acct.fusion + 0xC) 8 3 src
  let s := s.setCode Acct.fusion (if !s.fus.confirmed then 1 else if src = 1 then 3 else if src = 0 then 5 else 6)
  if (s.rf Reg.fusLimits 0 16 * 1000 : Rat) < ratAbs s.fus.slip ∧ !s.hasFlt Acct.fusion 1 then
    s.fault Acct.fusion 1 Ev.fusSlipExcess 0 0
  else s

/-- A rebase for the tape at standstill (R142). -/
def doRebase (s : State) (pm : Rat) : State :=
  if s.fus.rebase ∧ (s.obsAt 0).gate = .standstill then
    let s := (s.setSlip (s.tapeUm s.fus.tape.p - pm)).updFus fun f => { f with rebase := false, deadReckon := false }
    (((s.clrFlt Acct.fusion 3).post Ev.fusRebase 0 1).post Ev.fusSeedConflict 0 1).setSource 1
  else s

/-- A completed fusion update (R134 to R144, R146). -/
def fusRun (s : State) : State :=
  let pm := s.motorUm (s.obsAt 0).p
  let old := (s.fus.hist.headD (0, pm)).2
  let t := s.nextTick
  let s := s.updFus fun f =>
    { f with
      hist := (t, pm) :: f.hist.filter fun x => decide (t ≤ x.1 + 400200)
      missedLast := false
      tape := (obsStep f.tape false (Config.omega (s.rf Reg.fusCfg 16 11)) t).1 }
  let reads := s.fus.tapeIn
  let caps := s.fus.capIn
  let s := s.updFus fun f => { f with tapeIn := [], capIn := [] }
  let s := reads.foldl takeRead s
  let s := caps.foldl takeCap s
  let s := s.chooseSource
  let s := if s.learn.isSome ∧ s.fus.source ≠ 1 then
      { s with learn := s.learn.map fun l => { l with lostFull := true } }
    else s
  (((s.deadReckon (pm - old)).doRebase pm)).fusPublish pm

/-- A missed update: the previous state, extrapolated by 1 us (R145). -/
def fusMissed (s : State) : State :=
  let v := wInt (s.r Reg.carspd)
  let a := wInt (s.r Reg.caracc)
  let s := s.w Reg.carpos (wOfInt (ratRound ((wInt (s.r Reg.carpos) : Rat) + (v : Rat) / 1000000)))
  let s := s.w Reg.carspd (wOfInt (ratRound ((v : Rat) + (a : Rat) / 1000000)))
  let s := s.wTill Reg.fusTillL Reg.fusTillH s.nextTick
  let first := !s.fus.missedLast
  let s := ((s.addF Reg.fusOverrun 0 32 1).setFlt Acct.fusion 5).updFus fun f => { f with missedLast := true }
  if first then s.post Ev.fusOverrun 0 0 else s

/-- The scaled position that EMU follows (R121). -/
def emuTarget (s : State) : Int :=
  ((wInt (s.r Reg.carpos) : Rat) * (4 * (s.r Reg.emuLines).toNat : Rat) / ((s.r Reg.emuTravel).toNat : Rat)).floor

/-- Levels of A, B and Z at an emitted count (R121). -/
def emuLevels (s : State) (c : Int) : Emu :=
  let q := c % 4
  let a := q == 1 || q == 2
  let b := q == 2 || q == 3
  let z := s.rb Reg.emuCfg 4 && c % (4 * (s.r Reg.emuLines).toNat : Int) == 2
  { a := if s.rb Reg.emuCfg 5 then b else a, b := if s.rb Reg.emuCfg 5 then a else b, z := z,
    last := s.till, on := true }

/-- EMU in synthesize mode takes the new position (R121, R122): at most 5 counts in 1 us, never skipping one. -/
def emuFollow (s : State) : State :=
  if !s.runs Acct.emu || !s.en Acct.emu || s.rf Reg.emuCfg 0 2 != 2 || s.pwr == .hush || s.rf (Acct.emu + 0xC) 4 4 == 5
  then s
  else if !s.mstatValid then
    if s.hasFlt Acct.emu 2 ∧ !s.fb.emu.on then s else s.emuOff 2 2 false
  else if !s.fb.emu.on then
    let c := s.emuTarget
    ((s.w Reg.emuCount (wOfInt c)).updEmu fun _ => s.emuLevels c).emuDrive true
  else
    let c0 := wInt (s.r Reg.emuCount)
    let t := s.emuTarget
    let c := c0 + clampI (-5) 5 (t - c0)
    let lag := (t - c).natAbs
    let was := s.rf Reg.emuLag 0 16
    let s := (s.w Reg.emuCount (wOfInt c)).updEmu fun _ => s.emuLevels c
    let rev : Int := 4 * ((s.r Reg.emuLines).toNat : Int)
    let passed := ((c - 2) / rev - (c0 - 2) / rev).natAbs
    let s := if s.rb Reg.emuCfg 4 then s.addF (Acct.emu + 0x14) 0 32 passed else s
    let s := (s.wf Reg.emuLag 0 16 (satN 65535 lag)).peakF Reg.emuLag 16 16 lag
    if 4 < lag ∧ was ≤ 4 then s.fault Acct.emu 3 Ev.emuLag 0 0 else s

/-- FUSION, from 0 to 1 of en: STARTING until a tape seed is confirmed (R143). -/
def enableFusion (s : State) : State :=
  let usable := s.fus.sliceUsable
  let s := { s with fus := { Fusion.init with sliceUsable := usable } }
  ((s.w Reg.fusMstat 4).wf (Acct.fusion + 0xC) 8 5 0).setCode Acct.fusion 1

end State

/-- FUSION_UPDATE (R134 to R146; EMU R122): one 1 us update, or a missed one. -/
def execFusionUpdate (missed : Bool) (s : State) : Host.Outcome State Fault Refusal :=
  if !s.runs Acct.fusion || !s.en Acct.fusion then .next s
  else .next (if missed then s.fusMissed else s.fusRun).emuFollow

namespace State

/-- V_ZERO in um/s as counts/s, rounded up (R133). -/
def vZeroEnc (s : State) (v sheave : Nat) : Nat :=
  let d := sheave
  max 1 (satN 65535 ((v * 1000 * s.rf (Reg.encRevCount 0) 0 25 + d - 1) / d))

def vZeroTape (v res : Nat) : Nat := max 1 (satN 65535 ((v * 1000 + res - 1) / res))

def fusionConfigRow : CmdRow where
  opcode := 0x0205
  len := fun n => n == 44
  pre := fun c s =>
    let t0 := leAt c.pay 32 2
    let v0 := leAt c.pay 34 2
    firstOf [failIf (!c.argOnly 0) .badArg, s.roleReply Acct.fusion,
      imagesReply 0 Reg.fusCfg (wordsAt c.pay 0 8),
      failIf (decide (t0 = 0) || decide (1000 < t0)) (.badParam 32),
      failIf (decide (v0 = 0) || decide (10000 < v0)) (.badParam 34),
      imagesReply 36 Reg.accCfg (wordsAt c.pay 36 2),
      s.lockReply Acct.fusion, failIf s.mstatMoving .badState]
  run := fun c s =>
    let t0 := leAt c.pay 32 2
    let v0 := leAt c.pay 34 2
    let s := s.wConfig Reg.fusCfg (wordsAt c.pay 0 8)
    let s := s.w (Reg.obsGateEnc 0) (wOf (t0 + 65536 * s.vZeroEnc v0 (c.img 1).toNat))
    let s := s.w (Reg.obsGateAbs 0) (wOf (t0 + 65536 * vZeroTape v0 (c.img 2).toNat))
    let s := s.wConfig Reg.accCfg (wordsAt c.pay 36 2)
    let s := if s.en Acct.accPort then { s.setCode Acct.accPort 1 with fb := { s.fb with accStuck := 0 } } else s
    ((s.setEn Acct.fusion true).enableFusion, some (.ok 0))

end State

/-- FUSION_CONFIG (R133, R143, R152, R559). -/
def execFusionConfig (src : Src) (s : State) : Host.Outcome State Fault Refusal := .next (s.runRow State.fusionConfigRow src)

end Sys2Proof.Machine
end

