-- ==== Sys2Proof/Machine/Doors.lean ====
section
/-! DEFINITION. The door engine (06_door_ports.md R198 to R235): the control period, the state machine, the
timers, the commands. The loops' torque demand shows only through what the period measures; the model holds
the speed reference, the stage and the measured quantities (log 28). -/

namespace Sys2Proof.Machine

namespace State

/-! Measured quantities (R204, R207 to R210, R219). -/

/-- A phase current in mA: (code - offset) x i_scale (R204). -/
def phaseMa (s : State) (n : Nat) (ch : Nat) (code : Nat) : Int :=
  ((code : Int) - (s.doorAt n).offs.getD ch 8192) * (s.rf (Reg.doorAdc n) 0 16 : Int) / 1000

/-- travel_rev in um. -/
def travelRev (s : State) (n : Nat) : Nat := s.rf (Reg.doorGear n) 0 20

/-- The encoder that gives position now; none on the Hall input (R207, R228). -/
def doorEnc (s : State) (n : Nat) : Option Nat :=
  let e := s.rf (Reg.doorCfg n) 2 2
  if e = 0 ∨ (s.doorAt n).align then none else some e

/-- Travel of one Hall step, um (R207). -/
def hallStep (s : State) (n : Nat) : Rat := (s.travelRev n : Rat) / (6 * s.rf (Reg.doorMotor n) 16 5 : Rat)

/-- Position before the origin is applied, um. -/
def doorRaw (s : State) (n : Nat) : Rat :=
  match s.doorEnc n with
  | some e => (s.obsAt e).p * (s.travelRev n : Rat) / (s.rf (Reg.encRevCount e) 0 25 : Rat)
  | none =>
    let h := s.rf (Reg.doorCfg n) 14 1
    let step := s.hallStep n
    let period := (s.r (Reg.hallPeriod h)).toNat
    let since := sub64 s.till (s.rTill (Reg.hallEdgeTillL h) (Reg.hallEdgeTillH h))
    let part : Rat := if since < period then (since : Rat) / (period : Rat) else 1
    let dir : Rat := if s.rb (Reg.hallState h) 12 then -1 else 1
    let moving : Rat := if period = 0xFFFFFFFF then 0 else part * dir
    ((s.doorAt n).steps : Rat) * step + moving * step

/-- Speed in um/s, positive opening (R207). -/
def doorSpeed (s : State) (n : Nat) : Rat :=
  match s.doorEnc n with
  | some e => (s.obsAt e).v * (s.travelRev n : Rat) / (s.rf (Reg.encRevCount e) 0 25 : Rat)
  | none =>
    let h := s.rf (Reg.doorCfg n) 14 1
    let period := (s.r (Reg.hallPeriod h)).toNat
    let since := sub64 s.till (s.rTill (Reg.hallEdgeTillL h) (Reg.hallEdgeTillH h))
    let p := max period since
    if period = 0xFFFFFFFF ∨ p = 0 then 0
    else (if s.rb (Reg.hallState h) 12 then -1 else 1) * s.hallStep n * 200000000 / (p : Rat)

/-- Motor force in the closing direction, N (R208). -/
def doorForceN (s : State) (n : Nat) (iq : Int) : Rat :=
  let f : Rat := (iq : Rat) * (s.rf (Reg.doorMotor n) 0 16 : Rat) * 2 * Config.pi / (100 * (s.travelRev n : Rat))
  if s.rb (Reg.doorCfg n) 4 then f else -f

/-- The clamp current in mA for the closing force limit (R208). -/
def clampMa (fClose travelRev kt : Nat) : Rat :=
  (fClose : Rat) * 100 * (travelRev : Rat) / (2 * Config.pi * (kt : Rat))

/-- Friction at a position in N: interpolated between the 16 points; the largest while not homed (R219,
R229). -/
def friction (s : State) (n : Nat) (x : Rat) (opening : Bool) : Rat :=
  let pt := fun k : Nat => (s.rf (Reg.doorFric0 n + 4 * k) (if opening then 0 else 16) 16 : Rat) / 10
  if !s.rb (Reg.doorState n) 4 then (List.range 16).foldl (fun m k => if m < pt k then pt k else m) 0
  else
    let t := (s.r (Reg.doorTravel n)).toNat
    if t = 0 then 0
    else
      let y := ratClamp 0 15 (x * 15 / (t : Rat))
      let k := min 14 y.floor.toNat
      pt k + (pt (k + 1) - pt k) * (y - (k : Rat))

/-- Moving mass in kg (R209). -/
def doorMassKg (s : State) (n : Nat) : Rat := (s.rf (Reg.doorMass n) 0 16 : Rat) / 10

/-- E in mJ at a speed in um/s (R209). -/
def doorEnergyMj (s : State) (n : Nat) (v : Rat) : Rat := s.doorMassKg n * v * v / 2000000000

/-- The residual of R219 in N, positive when an external force opposes the motion. -/
def residN (s : State) (n : Nat) (fm a x : Rat) (opening : Bool) : Rat :=
  let dir : Rat := if opening then 1 else -1
  let f := if opening then -fm else fm
  f - (s.doorMassKg n * (a * dir) / 1000000 + s.friction n x opening)

/-- P in Till counts (R203). -/
def doorPeriod (s : State) (n : Nat) : Nat := 2 * s.rf (Reg.doorPwm n) 0 13

/-- N of R219: the periods that t_resid spans, rounded up. -/
def residNeed (s : State) (n : Nat) : Nat :=
  let p := s.doorPeriod n
  (s.rf (Reg.doorLimits n) 24 8 * 200000 + p - 1) / p

/-! Inputs (R220). -/

def lcActive (s : State) (n : Nat) : Bool :=
  let i := s.rf (Reg.doorCfg n) 8 6
  decide (i < 48) && s.inLevel i == s.rb (Reg.doorCfg n) 6

def seActive (s : State) (n : Nat) : Bool :=
  let i := s.rf (Reg.doorCfg n) 16 6
  decide (i < 48) && s.inLevel i == s.rb (Reg.doorCfg n) 7

/-- nudge_flag. -/
def nudgeFlag (s : State) (n : Nat) : Bool := s.rb (Reg.doorState n) 6

/-- An active input blocks the start of a close; the light curtain does not once nudging ignores it (R220,
R224). -/
def closeBlocked (s : State) (n : Nat) : Bool :=
  s.seActive n || (s.lcActive n && !(s.nudgeFlag n && s.rb (Reg.doorCfg n) 5))

def permit (s : State) (n : Nat) : Bool := s.rb (Reg.doorState n) 9
def contactOk (s : State) (n : Nat) : Bool := s.rb (Reg.doorState n) 10
def lockOk (s : State) (n : Nat) : Bool := s.rb (Reg.doorState n) 11
def homed (s : State) (n : Nat) : Bool := s.rb (Reg.doorState n) 4
def closePending (s : State) (n : Nat) : Bool := s.rb (Reg.doorState n) 5
def setPending (s : State) (n : Nat) (b : Bool) : State := s.wb (Reg.doorState n) 5 b
def learned (s : State) (n : Nat) : Bool := s.rb (Reg.doorLearned n) 16

/-! State changes (R214). -/

/-- nudge_flag sets with its reason (R224). -/
def setNudge (s : State) (n detail : Nat) : State :=
  if s.nudgeFlag n then s else (s.wb (Reg.doorState n) 6 true).post Ev.doorNudge n detail

/-- The dwell starts or restarts (R215). -/
def startDwell (s : State) (n : Nat) : State := s.updDoor n fun d => { d with dwell := true }

/-- A close starts: NUDGING while nudge_flag is set, CLOSING otherwise (R213). -/
def startClose (s : State) (n : Nat) : State :=
  let s := (s.setPending n false).updDoor n fun d =>
    { d with stage := .drive, dwell := false, hold := none, resid := 0, paused := false, goal := .none, homeSince := none }
  let s := s.wf (Reg.doorEnergy n) 16 16 0
  s.toDoor n (if s.nudgeFlag n then 6 else 4)

/-- An opening starts (R214). -/
def startOpen (s : State) (n : Nat) : State :=
  (s.updDoor n fun d => { d with stage := .drive, resid := 0, goal := .none, dwell := false, homeSince := none, contactWait := false,
                                 lockWait := false }).toDoor n 2

/-- A reversal of a closing movement (R214, R223). -/
def startReverse (s : State) (n : Nat) : State :=
  (s.updDoor n fun d => { d with resid := 0, paused := false, goal := .none, contactWait := false }).toDoor n 5

/-- STALLED, with its reason (R211, R214, R226). -/
def stallDoor (s : State) (n detail : Nat) : State :=
  let s := s.addF (Reg.doorCnt n) 16 16 1
  ((s.updDoor n fun d => { d with resid := 0, paused := false, goal := .none, contactWait := false }).toDoor n 8).post
    Ev.doorStall n detail

/-- Counters, nudge_flag and obstruction time end at CLOSED (R214, R224). -/
def clearCounts (s : State) (n : Nat) : State :=
  ((s.wf (Reg.doorState n) 16 16 0).wb (Reg.doorState n) 6 false).updDoor n fun d => { d with obstSince := none }

/-- CLOSED (R211, R214, R225). -/
def enterClosed (s : State) (n : Nat) : State :=
  let s := (s.clearCounts n).updDoor n fun d =>
    { d with contactWait := false, lockWait := true, vref := 0, hold := none,
             stage := if s.rf (Reg.doorEnds n) 0 8 = 0 then .idle else .drive }
  ((s.updAud fun x => { x with closes := satN 65535 (x.closes + 1) }).count (Acct.doorPort n)).toDoor n 1

/-- The open end (R211, R214): OPEN with the dwell, or HELD. -/
def enterOpen (s : State) (n : Nat) : State :=
  let s := s.updDoor n fun d =>
    { d with vref := 0, stage := if s.rf (Reg.doorEnds n) 8 8 = 0 then .idle else .drive }
  if (s.doorAt n).hold.isSome then s.toDoor n 7 else (s.startDwell n).toDoor n 3

/-- The obstruction time starts at the first obstruction since CLOSED (R224). -/
def startObst (s : State) (n : Nat) : State :=
  if (s.doorAt n).obstSince.isSome then s else s.updDoor n fun d => { d with obstSince := some s.till }

/-- An obstruction reverses the door: reopen count, DOOR_OBSTRUCT, and the count's nudge (R214, R224). -/
def obstruct (s : State) (n detail : Nat) : State :=
  let s := (s.startObst n).wf (Reg.doorState n) 16 4 (satN 15 (s.rf (Reg.doorState n) 16 4 + 1))
  let s := (s.addF (Reg.doorCnt n) 0 16 1).startReverse n
  let s := s.post Ev.doorObstruct n detail
  let m := s.rf (Reg.doorNudge n) 0 4
  if m ≠ 0 ∧ m ≤ s.rf (Reg.doorState n) 16 4 then s.setNudge n 1 else s

/-- A request that the state does not admit (R217). -/
def dropReq (s : State) (n opcode : Nat) : State := s.post Ev.doorCmdDrop n (opcode % 256)

/-- DOOR_HOLD (R214, R215). -/
def applyHold (s : State) (n time : Nat) : State :=
  let clear := fun s : State => (s.wf (Reg.doorState n) 16 16 0).updDoor n fun d => { d with obstSince := none, hold := some time }
  match s.doorCode n with
  | 3 => ((clear s).updDoor n fun d => { d with dwell := false }).toDoor n 7
  | 2 => clear s
  | 4 => if s.permit n then (clear s).startReverse n else s.dropReq n 7
  | 6 => if s.permit n then (clear s).startReverse n else s.dropReq n 7
  | _ => s.dropReq n 7

/-- An open request, or DOOR_REVERSE (R214). -/
def applyOpen (s : State) (n opcode : Nat) : State :=
  let rev := opcode == 0x0405
  match s.doorCode n with
  | 3 => if rev then s.dropReq n opcode else s.startDwell n
  | 2 => if rev then s.dropReq n opcode else s
  | 7 => if rev then s.dropReq n opcode else s
  | 5 => s
  | 4 => if s.permit n then s.startReverse n else s.dropReq n opcode
  | 6 => if s.permit n then s.startReverse n else s.dropReq n opcode
  | c => if !rev && [0, 1, 8].contains c && s.permit n then s.startOpen n else s.dropReq n opcode

/-- A close request: DOOR_CLOSE, DOOR_NUDGE or the dwell's expiry (R214, R220, R224). -/
def applyClose (s : State) (n opcode : Nat) : State :=
  let nudge := opcode == 0x0406
  let s0 := s
  let s := if nudge && [2, 3, 4, 7, 8].contains (s.doorCode n) then s.setNudge n 3 else s
  match s.doorCode n with
  | 2 => if s.closeBlocked n then s.setPending n true else s.startClose n
  | 3 => if s.closeBlocked n then (s.setPending n true).updDoor n fun d => { d with dwell := false } else s.startClose n
  | 7 =>
    let s := s.updDoor n fun d => { d with hold := none }
    if s.closeBlocked n then (s.setPending n true).toDoor n 3 else s.startClose n
  | 8 => s.startClose n
  | 4 => if nudge then s.toDoor n 6 else s
  | 6 => s
  | 0 => if nudge then s0.dropReq n opcode else s
  | 1 => if nudge then s0.dropReq n opcode else s
  | _ => s0.dropReq n opcode

/-- A held port drops every new request (R218). -/
def doorHeldOff (s : State) (n : Nat) : Bool := bit (s.ctl (Acct.doorPort n)) 3

def applyReq (s : State) (n : Nat) (q : DoorReq) : State :=
  if s.doorHeldOff n then s.dropReq n q.opcode
  else if q.opcode = 0x0407 then s.applyHold n q.time
  else if q.opcode = 0x0403 ∨ q.opcode = 0x0405 then s.applyOpen n q.opcode
  else s.applyClose n q.opcode

/-- The queued requests in the order of R217: DOOR_HOLD, then DOOR_REVERSE and opens, then DOOR_NUDGE and
DOOR_CLOSE. -/
def takeReqs (s : State) (n : Nat) : State :=
  let qs := (s.doorAt n).reqs
  let s := s.updDoor n fun d => { d with reqs := [] }
  let pick := fun (ops : List Nat) => qs.filter fun q => ops.contains q.opcode
  (pick [0x0407] ++ pick [0x0403, 0x0405] ++ pick [0x0404, 0x0406]).foldl (fun s q => s.applyReq n q) s

/-! The control period (R205, R217). -/

/-- The sample of one period: currents, voltage, position, speed, force, residual, energy. -/
structure DoorSample where
  pos : Rat
  spd : Rat
  acc : Rat
  fm : Rat
  r : Rat
  e : Rat
  iq : Int
  id : Int
deriving DecidableEq, Repr

def doorSample (s : State) (n iu iv iw : Nat) : DoorSample :=
  let pos := s.doorRaw n - (s.doorAt n).origin
  let spd := s.doorSpeed n
  let acc := match s.doorEnc n with
    | some e => (s.obsAt e).a * (s.travelRev n : Rat) / (s.rf (Reg.encRevCount e) 0 25 : Rat)
    | none => (spd - (s.doorAt n).spd) * 200000000 / (s.doorPeriod n : Rat)
  let angle := s.doorRaw n * (s.rf (Reg.doorMotor n) 16 5 : Rat) / (s.travelRev n : Rat)
  let (iq, id) := Config.park (s.phaseMa n 0 iu) (s.phaseMa n 1 iv) (s.phaseMa n 2 iw) angle
  let fm := s.doorForceN n iq
  let opening := s.doorCode n == 2
  { pos := pos, spd := spd, acc := acc, fm := fm, r := s.residN n fm acc pos opening, e := s.doorEnergyMj n spd,
    iq := iq, id := id }

/-- 16-bit signed field of a word. -/
def s16 (q : Rat) : Nat := (clampI (-32768) 32767 (ratRound q) % 65536).toNat

/-- The measured values in their registers (R236). -/
def showDoor (s : State) (n : Nat) (x : DoorSample) (vbus : Nat) : State :=
  let s := (s.w (Reg.doorPos n) (wOfInt (ratRound x.pos))).w (Reg.doorSpd n) (wOfInt (ratRound x.spd))
  let s := s.w (Reg.doorForce n) (wOf (s16 (x.fm * 10) + 65536 * s16 (x.r * 10)))
  let s := s.wf (Reg.doorEnergy n) 0 16 (satN 65535 (ratRound x.e).toNat)
  let s := if s.doorCode n = 4 ∨ s.doorCode n = 6 then s.peakF (Reg.doorEnergy n) 16 16 (ratRound x.e).toNat else s
  let s := s.w (Reg.doorCurr n) (wOf (s16 x.iq + 65536 * s16 x.id))
  let s := s.w (Reg.doorVbus n) (wOf (satN 65535 (vbus * s.rf (Reg.doorAdc n) 16 16 / 1000)))
  ((s.wb (Reg.doorState n) 7 (s.lcActive n)).wb (Reg.doorState n) 8 (s.seActive n)).updDoor n fun d =>
    { d with pos := x.pos, spd := x.spd }

/-- Obstruction time in 100 ms (R224). -/
def showObst (s : State) (n : Nat) : State :=
  match (s.doorAt n).obstSince with
  | some t => s.wf (Reg.doorState n) 20 12 (satN 4095 (sub64 s.till t / 20000000))
  | none => s

/-- Consecutive periods with r above f_resid; true at a residual event (R219). -/
def residCount (s : State) (n : Nat) (r : Rat) : State × Bool :=
  let k := if (s.rf (Reg.doorLimits n) 16 8 : Rat) < r then (s.doorAt n).resid + 1 else 0
  let s := s.updDoor n fun d => { d with resid := k }
  (s, k == s.residNeed n)

/-- Speed reference of the state, um/s, signed (R209, R213, R225, R229). -/
def doorTarget (s : State) (n : Nat) : Rat :=
  let vo : Rat := s.rf (Reg.doorSpeeds n) 0 10
  let vc : Rat := s.rf (Reg.doorSpeeds n) 16 10
  let cap := fun (v : Rat) (mJ : Rat) =>
    let ve := Config.sqrt (2 * mJ * 1000000000 / s.doorMassKg n)
    if ve < v * 1000 then ve else v * 1000
  match s.doorCode n with
  | 2 => if s.homed n then vo * 1000 else 50000
  | 4 => if s.homed n then -cap vc (100 * s.rf (Reg.doorLimits n) 8 8 : Rat) else -50000
  | 6 =>
    if (s.doorAt n).paused ∨ (s.doorAt n).goal = .pause then 0
    else
      let v : Rat := min (s.rf (Reg.doorNudge n) 16 8) 200
      if s.homed n then -cap v 3400 else -50000
  | _ => 0

/-- The profile's speed reference moves to its target at acc and dec (R214, R223). -/
def rampDoor (s : State) (n : Nat) : State :=
  let t : Rat := (s.doorPeriod n : Rat) / 200000000
  let up := (s.rf (Reg.doorAcc n) 0 12 : Rat) * 1000 * t
  let down := (s.rf (Reg.doorAcc n) 16 12 : Rat) * 1000 * t
  let v := (s.doorAt n).vref
  let g := s.doorTarget n
  let slow := (0 ≤ v ∧ g < v) ∨ (v ≤ 0 ∧ v < g)
  let d := if slow then down else up
  let v' := if g < v then (if v - d < g then g else v - d) else (if g < v + d then g else v + d)
  s.updDoor n fun x => { x with vref := v' }

/-- abs(DOOR_SPD) below 5 mm/s. -/
def slow5 (v : Rat) : Bool := decide (v < 5000) && decide (-5000 < v)

def endTol (s : State) (n : Nat) : Rat := (s.rf (Reg.doorEnds n) 16 8 : Rat) * 100

/-- The closed end (R211), or while not homed contact and standstill for 200 ms (R229). -/
def atClosed (s : State) (n : Nat) (x : DoorSample) : Bool :=
  slow5 x.spd &&
    (if s.homed n then decide (x.pos ≤ s.endTol n) && decide (-s.endTol n ≤ x.pos)
     else match (s.doorAt n).homeSince with
      | some t => decide (40000000 ≤ sub64 s.till t)
      | none => false)

/-- The open end (R211); while not homed, standstill for 200 ms (R229). -/
def atOpen (s : State) (n : Nat) (x : DoorSample) : Bool :=
  let t : Rat := (s.r (Reg.doorTravel n)).toNat
  slow5 x.spd &&
    (if s.homed n then decide (x.pos ≤ t + s.endTol n) && decide (t - s.endTol n ≤ x.pos)
     else match (s.doorAt n).homeSince with
      | some t => decide (40000000 ≤ sub64 s.till t)
      | none => false)

/-- R229: the time for which the end has been standing. -/
def trackHome (s : State) (n : Nat) (x : DoorSample) : State :=
  let still := slow5 x.spd && (s.doorCode n == 2 || s.contactOk n)
  s.updDoor n fun d => { d with homeSince := if !still then none else if d.homeSince.isNone then some s.till else d.homeSince }

/-- The position becomes `p` here, and homed sets (R229). -/
def setHome (s : State) (n : Nat) (p : Rat) : State :=
  if s.homed n then s
  else
    let raw := s.doorRaw n
    ((s.updDoor n fun d => { d with origin := raw - p }).wb (Reg.doorState n) 4 true).wb (Acct.doorPort n + 0xC) 12 true

/-- The state's own step once faults, permission and obstructions have been taken (R211, R214). -/
def doorMove (s : State) (n : Nat) (x : DoorSample) : State :=
  match s.doorCode n with
  | 0 => if s.lockOk n then s else (s.updDoor n fun d => { d with lockWait := true }).toDoor n 1
  | 1 => if s.lockOk n then (s.updDoor n fun d => { d with lockWait := false }).toDoor n 0 else s
  | 2 => if s.atOpen n x then (s.setHome n (s.r (Reg.doorTravel n)).toNat).enterOpen n else s
  | 3 => if s.closePending n && !s.closeBlocked n then s.startClose n else s
  | 4 =>
    if s.atClosed n x then
      (if s.contactOk n then (s.setHome n 0).enterClosed n else s.updDoor n fun d => { d with contactWait := true })
    else s
  | 5 => if 0 ≤ x.spd then (if s.permit n then s.startOpen n else s.stallDoor n 1) else s
  | 6 =>
    if (s.doorAt n).goal = .pause then
      (if slow5 x.spd then s.updDoor n fun d => { d with goal := .none, paused := true } else s)
    else if s.atClosed n x then
      (if s.contactOk n then (s.setHome n 0).enterClosed n else s.updDoor n fun d => { d with contactWait := true })
    else s
  | _ => s

/-- Obstructions of the period (R214, R217, R220, R225). -/
def doorObst (s : State) (n : Nat) (event lcNew seNew : Bool) : State :=
  match s.doorCode n with
  | 2 =>
    if event then ((s.updDoor n fun d => { d with resid := 0 }).toDoor n 8).post Ev.doorObstruct n 4 else s
  | 3 => if lcNew || seNew then s.startDwell n else s
  | 4 => if event then s.obstruct n 1 else if lcNew then s.obstruct n 2 else if seNew then s.obstruct n 3 else s
  | 6 =>
    if lcNew && !s.rb (Reg.doorCfg n) 5 then s.obstruct n 2
    else if event || seNew then
      if (s.doorAt n).paused then s else s.updDoor n fun d => { d with goal := .pause }
    else s
  | 0xA => if event || lcNew || seNew then s.updDoor n fun d => { d with learnAbort := true } else s
  | _ => s

/-- A stop of R227 in progress: coast for 20 ms, then brake until 5 mm/s or 500 ms. -/
def doorStop (s : State) (n : Nat) (x : DoorSample) : State :=
  match (s.doorAt n).coastAt with
  | some t =>
    if (s.doorAt n).stage = .idle ∧ 4000000 ≤ sub64 s.till t then s.setStage n .brake
    else if (s.doorAt n).stage = .brake ∧ (slow5 x.spd ∨ 104000000 ≤ sub64 s.till t) then
      s.updDoor n fun d => { d with stage := .off, coastAt := none }
    else s
  | none => s

/-- FAULT ends when every fault bit has been cleared (R214). -/
def doorLeaveFault (s : State) (n : Nat) : State :=
  if s.doorCode n = 9 ∧ !s.doorFaulted n then
    (s.updDoor n fun d => { d with stage := .idle, coastAt := none }).toDoor n (if s.learned n then 8 else 0xB)
  else s

/-- One control period of an enabled port. -/
def doorPeriodRun (s : State) (n iu iv iw vbus : Nat) : State :=
  let x := s.doorSample n iu iv iw
  let lc := s.lcActive n
  let se := s.seActive n
  let lcNew := lc && !(s.doorAt n).lcWas
  let seNew := se && !(s.doorAt n).seWas
  let s := s.showDoor n x vbus
  let s := s.updDoor n fun d => { d with lcWas := lc, seWas := se }
  if s.doorCode n = 0xF then s
  else if s.doorCode n = 9 then (s.doorStop n x).doorLeaveFault n
  else
    let s := s.trackHome n x
    let s := if s.doorCode n = 2 && !s.permit n then s.stallDoor n 1 else s
    let moving := [2, 4, 6, 0xA].contains (s.doorCode n)
    let (s, event) := if moving then s.residCount n x.r else (s, false)
    let s := s.doorObst n event lcNew seNew
    let s := s.takeReqs n
    let s := s.doorMove n x
    let s := if (s.doorAt n).energy ∧ x.e < (100 * s.rf (Reg.doorLimits n) 8 8 : Rat) then
        s.updDoor n fun d => { d with energy := false }
      else s
    (s.rampDoor n).showObst n

end State

/-- DOOR_CONTROL_PERIOD (R205 to R229): the codes sampled at the valley. -/
def execDoorControlPeriod (n : Fin 2) (iu iv iw vbus : BitVec 14) (s : State) : Host.Outcome State Fault Refusal :=
  if s.doorLive n ∧ s.pwr ≠ .hush then .next (s.doorPeriodRun n iu.toNat iv.toNat iw.toNat vbus.toNat) else .next s

/-- DOOR_OVERCURRENT (R206, R227): a conversion above oc_limit. -/
def execDoorOvercurrent (n : Fin 2) (iu iv iw : BitVec 14) (s : State) : Host.Outcome State Fault Refusal :=
  let lim : Int := s.rf (Reg.doorProt n) 0 16
  let hot := fun (ch : Nat) (c : BitVec 14) => decide (lim < (s.phaseMa n ch c.toNat).natAbs)
  if hot 0 iu || hot 1 iv || hot 2 iw then .next (s.doorFault n 3 3) else .next s

/-- DOOR_POWER_STAGE_FAULT (R206, R227): DOORn_nFLT low for this many samples. -/
def execDoorPowerStageFault (n : Fin 2) (samples : Nat) (s : State) : Host.Outcome State Fault Refusal :=
  if 10 ≤ samples then .next (s.doorFault n 2 2) else .next s

/-- DOOR_VBUS_FAULT (R227): the bus voltage has been out of range for 10 ms. -/
def execDoorVbusFault (n : Fin 2) (s : State) : Host.Outcome State Fault Refusal := .next (s.doorFault n 4 4)

/-- DOOR_COAST_END (R227): the stop has ended; all gates and DOORn_EN go low. -/
def execDoorCoastEnd (n : Fin 2) (s : State) : Host.Outcome State Fault Refusal :=
  if s.doorCode n = 9 ∧ (s.doorAt n).coastAt.isSome then
    .next (s.updDoor n fun d => { d with stage := .off, coastAt := none })
  else .next s

/-- DOOR_ENABLE_SETTLE (R213, R229): 10 ms after enable. -/
def execDoorEnableSettle (n : Fin 2) (s : State) : Host.Outcome State Fault Refusal :=
  if !s.doorLive n || s.doorCode n != 0xF then .next s
  else if !s.learned n then .next (s.toDoor n 0xB)
  else if s.contactOk n then
    .next (((s.setHome n 0).updDoor n fun d => { d with lockWait := true }).toDoor n 1)
  else .next ((s.wb (Reg.doorState n) 4 false).toDoor n 8)

/-- DWELL_EXPIRY (R215): a close request, last in the order of R217. -/
def execDwellExpiry (n : Fin 2) (s : State) : Host.Outcome State Fault Refusal :=
  if s.doorLive n && s.doorCode n == 3 && (s.doorAt n).dwell && s.rf (Reg.doorTimes n) 0 8 != 0 then
    if s.doorHeldOff n then .next (s.dropReq n 0x0404)
    else .next ((s.updDoor n fun d => { d with dwell := false }).applyClose n 0x0404)
  else .next s

/-- HOLD_TIME_EXPIRY (R214): the dwell starts. -/
def execHoldTimeExpiry (n : Fin 2) (s : State) : Host.Outcome State Fault Refusal :=
  match (s.doorAt n).hold with
  | some t =>
    if s.doorCode n = 7 ∧ t ≠ 0 then .next (((s.updDoor n fun d => { d with hold := none }).startDwell n).toDoor n 3)
    else .next s
  | none => .next s

/-- DOOR_STALL (R226): below 5 mm/s for the stall time although the reference asks for 20 mm/s or more. -/
def execDoorStall (n : Fin 2) (s : State) : Host.Outcome State Fault Refusal :=
  let d := s.doorAt n
  if s.doorLive n && [2, 4, 6].contains (s.doorCode n) && State.slow5 d.spd &&
      (decide (20000 ≤ d.vref) || decide (d.vref ≤ -20000)) then
    .next (((s.setFlt (Acct.doorPort n) 7).updDoor n fun d => { d with stage := .idle, vref := 0 }).stallDoor n 0)
  else .next s

/-- DOOR_ENERGY (R210): E above e_close by more than 10 % for 10 ms while closing. -/
def execDoorEnergy (n : Fin 2) (s : State) : Host.Outcome State Fault Refusal :=
  if s.doorLive n && (s.doorCode n == 4 || s.doorCode n == 6) &&
      decide (110 * s.rf (Reg.doorLimits n) 8 8 < s.rf (Reg.doorEnergy n) 0 16) then
    .next ((s.updDoor n fun d => { d with energy := true }).fault (Acct.doorPort n) 8 Ev.doorEnergy n 0)
  else .next s

/-- CONTACT_TIMEOUT (R211): no car-door contact 1 s after the closed end. -/
def execContactTimeout (n : Fin 2) (s : State) : Host.Outcome State Fault Refusal :=
  if s.doorLive n && (s.doorAt n).contactWait && !s.contactOk n then .next (s.stallDoor n 2) else .next s

/-- DOOR_LOCK_FAIL (R211): no landing-door lock 2 s after CLOSED. -/
def execDoorLockFail (n : Fin 2) (s : State) : Host.Outcome State Fault Refusal :=
  if s.doorLive n && s.doorCode n == 1 && (s.doorAt n).lockWait && !s.lockOk n then
    .next ((s.updDoor n fun d => { d with lockWait := false }).fault (Acct.doorPort n) 10 Ev.doorLockFail n 0)
  else .next s

/-- NUDGE_PAUSE_EXPIRY (R225): the close resumes. -/
def execNudgePauseExpiry (n : Fin 2) (s : State) : Host.Outcome State Fault Refusal :=
  if s.doorLive n && s.doorCode n == 6 && (s.doorAt n).paused then
    .next (s.updDoor n fun d => { d with paused := false })
  else .next s

/-- OBSTRUCTION_TIME_EXPIRY (R224). -/
def execObstructionTimeExpiry (n : Fin 2) (s : State) : Host.Outcome State Fault Refusal :=
  if s.doorLive n && (s.doorAt n).obstSince.isSome && s.rf (Reg.doorNudge n) 8 8 != 0 then .next (s.setNudge n 2)
  else .next s

namespace State

/-- A door port, from 0 to 1 of en: DOORn_EN rises, code 0xF, STARTING (R213). -/
def enableDoor (s : State) (n : Nat) : State :=
  let offs := (s.doorAt n).offs
  let seq := (s.doorAt n).openSeq
  let s := s.updDoor n fun _ => { Door.init with stage := .idle, offs := offs, openSeq := seq }
  ((s.w (Reg.doorState n) (merge 0xE00 0xF (s.r (Reg.doorState n)))).wf (Acct.doorPort n + 0xC) 8 5 0xF).setCode
    (Acct.doorPort n) 1

/-- A door port, from 1 to 0 of en: pads low, code 0xF (R200, R213). -/
def disableDoor (s : State) (n : Nat) : State :=
  let s := if s.doorCode n = 6 then s.buzz n false else s
  let s := s.updDoor n fun d => { Door.init with offs := d.offs, openSeq := d.openSeq }
  (s.w (Reg.doorState n) (merge 0xE00 0xF (s.r (Reg.doorState n)))).wf (Acct.doorPort n + 0xC) 8 5 0xF

/-! Commands (R201, R216, R230, R561). -/

/-- The clamp current of R208 against oc_limit. -/
def ocOk (w : Nat → Word) : Bool :=
  decide ((12 : Rat) / 10 * clampMa (fld (w 8) 0 8) (fld (w 6) 0 20) (fld (w 4) 0 16) ≤ (fld (w 3) 0 16 : Rat))

/-- R201 on the images of port n: the offset of the first image refused. -/
def doorCross (s : State) (n : Nat) (w : Nat → Word) : Option Reply :=
  let o := 1 - n
  let other := s.r (Reg.doorCfg o)
  let live := s.doorLive o
  let cfg := w 0
  let filt := fun i => decide (i < 48) && decide (190 < s.rf (Reg.inCfg i) 0 8)
  firstOf [
    failIf (live && fld cfg 0 2 == fld other 0 2) (.badParam 0),
    failIf (live && fld cfg 14 1 == fld other 14 1) (.badParam 0),
    failIf (fld cfg 8 6 == fld cfg 16 6 && fld cfg 8 6 != 63) (.badParam 0),
    failIf (filt (fld cfg 8 6) || filt (fld cfg 16 6)) (.badParam 0),
    failIf (decide (fld cfg 24 6 < 32) && s.safetyOut (fld cfg 24 6)) (.badParam 0),
    failIf (!ocOk w) (.badParam 12),
    failIf (s.learned n && decide (11 * fld (w 7) 0 16 < 10 * s.rf (Reg.doorLearned n) 0 16)) (.badParam 28),
    failIf (decide (fld (w 8) 0 8 < fld (w 13) 0 8)) (.badParam 52)]

/-- The write changes kt, pole_pairs, travel_rev, motor_inv, enc or hall (R201). -/
def unlearns (s : State) (n : Nat) (w : Nat → Word) : Bool :=
  let c := s.r (Reg.doorCfg n)
  fld (w 0) 2 3 != fld c 2 3 || fld (w 0) 14 1 != fld c 14 1 ||
    masked 0x1FFFFF (w 4) != masked 0x1FFFFF (s.r (Reg.doorMotor n)) ||
    masked 0xFFFFF (w 6) != masked 0xFFFFF (s.r (Reg.doorGear n))

def doorConfigRow : CmdRow where
  opcode := 0x0401
  len := fun n => n == 56
  pre := fun c s =>
    let n := c.argF 0 1
    firstOf [failIf (s.role == .machine) (.badState 2), failIf (!c.argOnly 1) .badArg,
      imagesReply 0 (Reg.doorCfg n) (wordsAt c.pay 0 14), s.doorCross n c.img,
      s.configPre (Acct.doorPort n)]
  run := fun c s =>
    let n := c.argF 0 1
    let s := if s.unlearns n c.img then s.wb (Reg.doorLearned n) 16 false else s
    (((s.wConfig (Reg.doorCfg n) (wordsAt c.pay 0 14)).setEn (Acct.doorPort n) true).enableDoor n, some (.ok 0))

/-- The ports that a mask names. -/
def maskPorts (m : Nat) : List Nat := (List.range 2).filter (nbit m)

/-- The result of a door command: state codes at acceptance, 0xF for a port not named (R216, R561). -/
def doorResult (s : State) (m : Nat) : Word :=
  let c := fun n => if nbit m n then s.doorCode n else 0xF
  wOf (c 0 + 256 * c 1)

/-- The checks of R216 for one port. -/
def doorCmdCheck (s : State) (op n : Nat) : Option Reply :=
  let c := s.doorCode n
  let b := Acct.doorPort n
  firstOf [failIf (!s.doorLive n || [0xF, 0xB, 9, 0xA].contains c) .badState,
    failIf (op == 0x0405 && !([4, 5, 6] : List Nat).contains c) .badState,
    failIf ((op == 0x0403 || ((op == 0x0405 || op == 0x0407) && (c == 4 || c == 6))) && !s.permit n) .inhibit,
    s.lockReply b]

def doorCmdRow (op : Nat) (urg : Bool) : CmdRow where
  opcode := op
  urg := urg
  units := fun c => (maskPorts (c.argF 0 2)).map fun n => .door (if n = 0 then 0 else 1)
  pre := fun c s =>
    let m := c.argF 0 2
    firstOf ([failIf (s.role == .machine) (.badState 2),
      failIf (!c.argOnly (if op = 0x0407 then 0xFFFF0003 else 3) || m == 0) .badArg] ++
      (maskPorts m).map (s.doorCmdCheck op))
  run := fun c s =>
    let m := c.argF 0 2
    let res := s.doorResult m
    ((maskPorts m).foldl (fun s n => s.updDoor n fun d => { d with reqs := d.reqs ++ [⟨op, c.argF 16 16⟩] }) s,
     some (.ok res))

/-- DOOR_LEARN (R230). -/
def doorLearnRow : CmdRow where
  opcode := 0x0402
  long := true
  units := fun c => [.door (if c.argF 0 1 = 0 then 0 else 1)]
  pre := fun c s =>
    let n := c.argF 0 1
    firstOf [failIf (s.role == .machine) (.badState 2), s.lifeReply [1, 3], failIf (!c.argOnly 1) .badArg,
      s.lockReply (Acct.doorPort n),
      failIf (!s.doorLive n || !([0, 1, 3, 8, 0xB] : List Nat).contains (s.doorCode n) || s.lcActive n || s.seActive n) .badState,
      failIf (!s.permit n) .inhibit]
  run := fun c s =>
    let n := c.argF 0 1
    let s := s.startLong c [.door (if n = 0 then 0 else 1)] []
    ((s.updDoor n fun d => { d with stage := .drive, learnAbort := false, dwell := false, resid := 0 }).toDoor n 0xA, none)

/-- Where a port goes after a learn that failed (R231). -/
def learnOver (s : State) (n : Nat) : State :=
  if s.doorCode n = 0xA then (s.updDoor n fun d => { d with stage := .idle, vref := 0 }).toDoor n (if s.learned n then 8 else 0xB)
  else s

/-- A failed learn (R231). -/
def learnFail (s : State) (n reason : Nat) (rp : Reply) (l : Long) : State :=
  ((s.setFlt (Acct.doorPort n) 9).learnOver n).endLong l { rp with result := wOf reason }

/-- The learned values of a port (R231). -/
def storeLearn (s : State) (n : Nat) (m : DoorMeasure) : State :=
  let s := (s.w (Reg.doorTravel n) (wOf m.travel)).w (Reg.doorLearned n) (wOf (satN 65535 m.mass + 65536))
  (List.range 16).foldl (fun s k =>
    s.w (Reg.doorFric0 n + 4 * k) (wOf (m.fricOpen.getD k 0 % 65536 + 65536 * (m.fricClose.getD k 0 % 65536)))) s

/-- The failure reasons of R231 that the measures show. -/
def learnReason (s : State) (n : Nat) (m : DoorMeasure) : Nat :=
  if (s.doorAt n).learnAbort then 5
  else if m.travel < 200000 ∨ 4000000 < m.travel then 1
  else if !s.contactOk n then 2
  else if 11 * s.rf (Reg.doorMass n) 0 16 < 10 * m.mass then 3
  else if (m.fricOpen ++ m.fricClose).any fun f => decide (5 * s.rf (Reg.doorLimits n) 0 8 < f) then 4
  else 0

end State

/-- DOOR_CONFIG (R201, R561). -/
def execDoorConfig (src : Src) (s : State) : Host.Outcome State Fault Refusal := .next (s.runRow State.doorConfigRow src)

/-- DOOR_LEARN (R230). -/
def execDoorLearn (src : Src) (s : State) : Host.Outcome State Fault Refusal := .next (s.runRow State.doorLearnRow src)

/-- DOOR_OPEN (R216). -/
def execDoorOpen (src : Src) (s : State) : Host.Outcome State Fault Refusal := .next (s.runRow (State.doorCmdRow 0x0403 false) src)

/-- DOOR_CLOSE (R216). -/
def execDoorClose (src : Src) (s : State) : Host.Outcome State Fault Refusal := .next (s.runRow (State.doorCmdRow 0x0404 false) src)

/-- DOOR_REVERSE (R216). -/
def execDoorReverse (src : Src) (s : State) : Host.Outcome State Fault Refusal := .next (s.runRow (State.doorCmdRow 0x0405 true) src)

/-- DOOR_NUDGE (R216). -/
def execDoorNudge (src : Src) (s : State) : Host.Outcome State Fault Refusal := .next (s.runRow (State.doorCmdRow 0x0406 false) src)

/-- DOOR_HOLD (R216). -/
def execDoorHold (src : Src) (s : State) : Host.Outcome State Fault Refusal := .next (s.runRow (State.doorCmdRow 0x0407 true) src)

end Sys2Proof.Machine
end

