-- ==== Sys2Proof/WellFormed.lean ====
section
/-! DEFINITION. Which operands an occurrence can have: what a pad, a bus or a cell cannot bring is refused
before the command's effect (Fault.illFormed). -/

namespace Sys2Proof

namespace CanFrame

/-- A frame that ISO 11898-1 allows on the bus (R314, R325): an 11-bit identifier in 11 bits, no remote FD
frame, no bit-rate switch or ESI in a classical frame, and the bytes that the DLC carries. -/
def wellFormed (f : CanFrame) : Bool :=
  (f.xtd || decide (f.id.toNat < 2048)) && !(f.fdf && f.rtr) && (f.fdf || (!f.brs && !f.esi)) &&
    f.data.length == (if f.rtr then 0 else Machine.dlcBytes f.fdf f.dlc.toNat)

end CanFrame

/-- A word address on the PAR16 port: A[17:1] with A1 the half (R41). -/
def par16Addr (a : Nat) : Bool := decide (a < 0x40000) && a % 4 == 0

/-- A QSPI byte address has three bytes (R45). -/
def qspiAddr (a : Nat) : Bool := decide (a < 0x1000000)

/-- A command byte of R46. -/
def qspiKnown (c : Byte) : Bool := ([0x6B, 0x6C, 0x32, 0x05] : List Byte).contains c

/-- A read can have this address. -/
def readAddrOk (a : Nat) : RAcc → Bool
  | .par16 _ => par16Addr a
  | .qspi => qspiAddr a

/-- A write can have this address. -/
def writeAddrOk (a : Nat) : WAcc → Bool
  | .par16 .. => par16Addr a
  | .qspi _ => qspiAddr a

def accAddrOk (a : Nat) : Acc → Bool
  | .read r => readAddrOk a r
  | .write w => writeAddrOk a w

/-- The command's operands can occur. -/
def Instr.wellFormed : Instr → Bool
  | .registerWrite addr a => writeAddrOk addr a
  | .par16LowHalfWrite addr _ _ _ => par16Addr addr
  | .par16ReadWriteConflict => true
  | .rcRegisterRead addr a => readAddrOk addr a
  | .snapshotRead addr a => readAddrOk addr a
  | .mirrorWindowRead addr a _ _ => readAddrOk addr a
  | .mirrorWindowWrite addr a => writeAddrOk addr a
  | .badAddressAccess addr a => accAddrOk addr a
  | .comptrollerRangeWrite addr a => writeAddrOk addr a
  | .qspiRead addr _ => qspiAddr addr
  | .qspiSnap addr _ => qspiAddr addr
  | .qspiWrite addr _ _ => qspiAddr addr
  | .qspiStatus => true
  | .qspiUnknownCommand cmd => !qspiKnown cmd
  | .accCtlEnWrite base a => writeAddrOk (base + 8) a
  | .accCtlConsolidateWrite base a => writeAddrOk (base + 8) a
  | .accCtlHoldWrite base a => writeAddrOk (base + 8) a
  | .accCtlCntClr base a _ => writeAddrOk (base + 8) a
  | .accFltW1c base a _ => writeAddrOk (base + 0x10) a
  | .tellerCfgWrite _ => true
  | .tellerDbCmd _ => true
  | .tellerDbUrg _ => true
  | .qconsWrite _ _ => true
  | .irqHoldoffExpiry => true
  | .completionPost => true
  | .resetNotice => true
  | .mirrorUpdate => true
  | .nop _ => true
  | .getInfo _ => true
  | .getStatus _ => true
  | .softReset _ => true
  | .setPowerStateRun _ => true
  | .setPowerStateDoze _ => true
  | .setPowerStateHush _ => true
  | .getTelemetry _ => true
  | .accWalk _ => true
  | .paramRead _ => true
  | .paramWrite _ => true
  | .paramCommit _ _ => true
  | .paramDigest _ => true
  | .paramDefaults _ _ => true
  | .encConfig _ => true
  | .hallConfig _ => true
  | .absConfig _ => true
  | .obsConfig _ => true
  | .fusionConfig _ => true
  | .emuConfig _ => true
  | .capConfig _ => true
  | .landingLearn _ => true
  | .learnRunEnd _ => true
  | .landingTableWrite _ => true
  | .profileSet _ => true
  | .orderAdd _ => true
  | .orderCancel _ => true
  | .orderList _ => true
  | .driveBind _ => true
  | .relevelConfig _ => true
  | .doorConfig _ => true
  | .doorLearn _ => true
  | .doorLearnEnd _ _ => true
  | .doorOpen _ => true
  | .doorClose _ => true
  | .doorReverse _ => true
  | .doorNudge _ => true
  | .doorHold _ => true
  | .ioConfig _ => true
  | .outSet _ => true
  | .gangSetForm2 _ => true
  | .gangSetForm4 _ => true
  | .gangSetDissolve _ => true
  | .gangSetOn _ => true
  | .gangSetOff _ => true
  | .pairConfig _ => true
  | .testpulseConfig _ => true
  | .safeStatus _ => true
  | .safeRestart _ => true
  | .safeParamLoad _ => true
  | .safeAckLockout _ => true
  | .safeProofTest _ _ => true
  | .canConfig _ => true
  | .canAutobaud _ => true
  | .canRate _ => true
  | .canObjConfig _ => true
  | .canFilterSet _ => true
  | .canTx _ => true
  | .canRearm _ => true
  | .canLoopback _ => true
  | .linkConfig _ => true
  | .linkStatus _ => true
  | .csConnOpen _ => true
  | .csConnClose _ => true
  | .tunnelSend _ => true
  | .purseSet _ => true
  | .purseStatus _ => true
  | .bankState _ => true
  | .hushKeep _ => true
  | .marchRun _ => true
  | .marchDone _ => true
  | .marchResult _ => true
  | .repairStatus _ => true
  | .ledgerRead _ => true
  | .ledgerFreeze _ => true
  | .ledgerThaw _ => true
  | .ledgerArchive _ => true
  | .ledgerReleaseSealed _ => true
  | .attest _ => true
  | .attestRead _ => true
  | .pair _ _ => true
  | .pairCheck _ _ _ => true
  | .lifeSet _ _ => true
  | .fwStage _ _ => true
  | .fwActivateSwitch _ => true
  | .fwActivateConfirm _ => true
  | .fwActivateBurn _ => true
  | .serviceLoginChallenge _ => true
  | .serviceLoginResponse _ => true
  | .serviceLoginLogout _ => true
  | .auditConfig _ => true
  | .auditStatus _ => true
  | .scArm _ => true
  | .scDisarm _ => true
  | .longCommandTimeout _ => true
  | .atomicAdd _ _ _ _ => true
  | .atomicSwap _ _ _ _ => true
  | .canApSelWrite _ _ => true
  | .canApRelease _ _ => true
  | .canApTxreq _ _ => true
  | .canApAbort _ _ => true
  | .encEdge _ _ _ => true
  | .untrustedClear _ => true
  | .encIndexEdge _ _ => true
  | .encLine _ _ => true
  | .hallChange _ _ => true
  | .absRead _ _ => true
  | .absFrameEnd _ _ => true
  | .absStale _ => true
  | .capture _ _ => true
  | .accSample _ bytes => bytes.length == 6
  | .accLate => true
  | .emuRepeatEdge _ _ _ => true
  | .emuDriveFault => true
  | .obsUpdate => true
  | .gateTZeroExpiry _ => true
  | .fusionUpdate _ => true
  | .planTick _ => true
  | .planMissAbort => true
  | .referenceSample => true
  | .startFail => true
  | .startDelayExpiry => true
  | .brakeHoldExpiry => true
  | .relevelBypassTimeout => true
  | .driveRef => true
  | .driveStat => true
  | .driveLost => true
  | .doorControlPeriod _ _ _ _ _ => true
  | .doorOvercurrent _ _ _ _ => true
  | .doorPowerStageFault _ _ => true
  | .doorVbusFault _ => true
  | .doorCoastEnd _ => true
  | .doorEnableSettle _ => true
  | .dwellExpiry _ => true
  | .holdTimeExpiry _ => true
  | .doorStall _ => true
  | .doorEnergy _ => true
  | .contactTimeout _ => true
  | .doorLockFail _ => true
  | .nudgePauseExpiry _ => true
  | .obstructionTimeExpiry _ => true
  | .safeCycle _ => true
  | .sequenceOverrun => true
  | .lockstepMismatch _ => true
  | .edmTimeout _ => true
  | .reqLost => true
  | .parkDelayExpiry => true
  | .paramCrcCheck => true
  | .proofTestDue => true
  | .supplyCauseClear => true
  | .inputTick _ => true
  | .pairDisc _ => true
  | .pairRecover _ => true
  | .hushInputSample _ => true
  | .tpoPulse _ _ => true
  | .tpoFault _ _ => true
  | .darkPulseSlot _ _ _ _ => true
  | .outOverload _ => true
  | .outThermal _ => true
  | .outOpenLoad _ => true
  | .gangShare _ _ => true
  | .couplerLoss _ => true
  | .inrushEnd _ => true
  | .purseDecision _ _ => true
  | .purseRestore => true
  | .overMeasure _ => true
  | .vfSample _ => true
  | .supplyFault _ _ => true
  | .sensOvercurrent _ => true
  | .clockWindow counts => counts.length == 7
  | .vaultXtalStop => true
  | .pllLoss => true
  | .dozeWake => true
  | .hushWake _ => true
  | .powerOn _ => true
  | .brownOut => true
  | .borRelease => true
  | .vaultEntry _ => true
  | .nrstLow => true
  | .tellerWatchdogExpiry => true
  | .delayedSoftReset => true
  | .lifeReset => true
  | .resetRelease _ => true
  | .canRxFrame _ f _ => f.wellFormed
  | .canTxAttemptEnd _ _ => true
  | .canError _ _ => true
  | .canRecover _ => true
  | .protocolException _ => true
  | .canLockExpired _ => true
  | .canWake _ => true
  | .linkFrameTx => true
  | .linkFrameRx frame => frame.length == 236
  | .linkFrameMissing => true
  | .linkDown => true
  | .linkLossOfSignal => true
  | .linkRateSwitch => true
  | .pairingCheckEnd _ _ => true
  | .tunnelResend => true
  | .csPdu _ pdu => pdu.length == 32
  | .csWatchdog _ => true
  | .csSafeReopen _ => true
  | .csProduce _ => true
  | .bankStall _ _ _ => true
  | .srAccessRefused _ => true
  | .ledgerIntakeArrival _ _ _ => true
  | .ledgerCommit _ => true
  | .ledgerErase => true
  | .ledgerEraseDone _ => true
  | .ledgerDrop => true
  | .freezeTimeout => true
  | .tamperInput _ _ => true
  | .tamperMonitor _ _ => true
  | .loginExpiry => true
  | .loginLockoutExpiry => true
  | .loginChallengeExpiry => true
  | .safeParamStagingExpiry => true
  | .clockCrossCheck devs => devs.length == 7
  | .preservingMarchB04 words => words.all fun w => decide (w < 16384)
  | .b04MarchOverdue => true
  | .preservingMarchRound words => words.all fun w => decide (w < 32768)
  | .eccScrub singles doubles => !(singles ++ doubles).any fun p => decide (16384 ≤ p.2)
  | .doorAdcCalibration _ offsets gains => offsets.length == 4 && gains.length == 4
  | .thresholdSelfCheck onOff => onOff.length == 48
  | .telemetrySample temps => temps.length == 4 && !temps.any fun t => decide (t < -32768) || decide (32767 < t)
  | .auditHour => true
  | .flashPatrol failures => !failures.any fun d => d.val == 0
  | .paramWearManagement => true
  | .auditLate _ => true
  | .scDurationExpiry => true
  | .scCanLockHold => true
  | .scBankStall => true
  | .consoleByte _ => true
  | .help => true
  | .who => true
  | .stat => true
  | .statDisplay => true
  | .consoleDisplayLine => true
  | .io => true
  | .out => true
  | .meter _ => true
  | .ledger => true
  | .consolePair => true
  | .life => true
  | .audit => true
  | .auditBanks => true
  | .auditSc => true
  | .consoleLogin => true
  | .loginPlus => true
  | .loginEnd => true
  | .loginOff => true
  | .load => true
  | .loadDataLine => true
  | .loadEndLine _ => true
  | .commaAlignment => true
  | .canBusIdle _ => true
  | .canTxAttemptStart _ => true
  | .vaultXtalResumed => true
  | .boundaryScan _ _ _ => true
  | .scCanHoldEnd => true
  | .consoleOutputSent => true
  | .encReceiverSettle _ => true
  | .slotEraseDone _ => true

end Sys2Proof
end

