-- ==== Sys2Proof/Machine/Can.lean ====
section
/-! DEFINITION. The CAN FD controllers (09_can_fd.md): message objects, filters, read sessions, requests,
error confinement, rate search and their commands. Objects and filter elements are numbered 128 n + k. -/

namespace Sys2Proof.Machine

/-- Clocks of a nominal bit of each table entry (R322). -/
def nomClocks (i : Nat) : Nat :=
  [80, 100, 120, 160, 200, 240, 320, 400, 640, 800, 960, 1280, 1600, 2400, 4000, 8000].getD i 80

/-- Clocks of a data bit of each table entry (R322). -/
def dataClocks (i : Nat) : Nat := [10, 12, 16, 20, 32, 40, 80, 160].getD i 10

/-- Quanta before the sample point: `pct` percent of `q`, rounded as the firmware rounds it (R322). -/
def sampleQuanta (i pct q : Nat) : Nat := (q * pct + (if Config.rateUp i then 99 else 0)) / 100

/-- The splits of a bit of `t` clocks that reach the sample point: prescaler, segment 1, segment 2 (R320,
R322). -/
def rateSplits (t lo s1max s2min s2max i pct : Nat) : List (Nat × Nat × Nat) :=
  (List.range 32).filterMap fun p =>
    let q := t / (p + 1)
    let sp := sampleQuanta i pct q
    if t % (p + 1) = 0 ∧ lo ≤ q ∧ 3 ≤ sp ∧ sp - 1 ≤ s1max ∧ s2min ≤ q - sp ∧ q - sp ≤ s2max
    then some (p + 1, sp - 1, q - sp) else none

def pick {α : Type} (l : List α) (n : Nat) : Option α := l[n % l.length]?

/-- CAN_NBT of a table entry (R322; log 40). -/
def nomTiming (i : Nat) : Word :=
  match pick (rateSplits (nomClocks i) 8 256 2 128 i 80) (Config.rateSplit false i) with
  | some (b, s1, s2) =>
    wOf ((b - 1) + (Config.rateJump false i % s2) * 2 ^ 8 + (s2 - 1) * 2 ^ 16 + (s1 - 1) * 2 ^ 24)
  | none => 0

/-- CAN_DBT of a table entry, and tdco at its sample point in clocks (R322; log 40). -/
def dataTiming (i : Nat) : Word × Nat :=
  match pick (rateSplits (dataClocks i) 5 32 1 16 i (if i < 2 then 70 else 75)) (Config.rateSplit true i) with
  | some (b, s1, s2) =>
    (wOf ((b - 1) + (Config.rateJump true i % s2) * 2 ^ 8 + (s2 - 1) * 2 ^ 16 + (s1 - 1) * 2 ^ 24), b * (s1 + 1))
  | none => (0, 0)

/-- Clocks of a bit with a timing word's prescaler and segments. -/
def nbtClocks (v : Word) : Nat := (fld v 0 5 + 1) * (3 + fld v 24 8 + fld v 16 7)
def dbtClocks (v : Word) : Nat := (fld v 0 5 + 1) * (3 + fld v 24 5 + fld v 16 4)

/-- The byte offset of the first word that R320 or R321 refuses, of CAN_CFG, CAN_NBT and CAN_DBT. -/
def timingBad (cfg nbt dbt : Word) : Option Nat :=
  let fd := bit cfg 0
  if nbtClocks nbt < 80 ∨ fld nbt 16 7 < fld nbt 8 7 ∨ 3 + fld nbt 24 8 + fld nbt 16 7 < 8 then some 4
  else if fd ∧ (dbtClocks dbt < 10 ∨ nbtClocks nbt < dbtClocks dbt ∨ fld dbt 16 4 < fld dbt 8 4 ∨
      3 + fld dbt 24 5 + fld dbt 16 4 < 5) then some 8
  else if fd ∧ dbtClocks dbt < 80 ∧ !bit cfg 12 then some 0
  else none

/-- A frame's place in arbitration: the lower number wins (R338). -/
def arbKey (xtd : Bool) (id : Nat) (rtr : Bool) : Nat :=
  let r := if rtr then 1 else 0
  if xtd then id / 2 ^ 18 % 2 ^ 11 * 2 ^ 21 + 2 ^ 20 + 2 ^ 19 + id % 2 ^ 18 * 2 + r
  else id % 2 ^ 11 * 2 ^ 21 + r * 2 ^ 20

/-- The identifier and width of an OBJ_ID word as they stand on the bus. -/
def busId (w : Word) : Bool × Nat := (bit w 29, if bit w 29 then fld w 0 29 else fld w 0 11)

namespace State

def canAt (s : State) (n : Nat) : Canc := s.can.getD n Canc.init
def updCan (s : State) (n : Nat) (f : Canc → Canc) : State := { s with can := updAt s.can n f }

/-- Object j's part of its controller. -/
def canObj (s : State) (j : Nat) : CanObj := Sparse.get (fun _ => CanObj.init) (s.canAt (j / 128)).objs (j % 128)

def updObj (s : State) (j : Nat) (f : CanObj → CanObj) : State :=
  s.updCan (j / 128) fun c => { c with objs := Sparse.set (fun _ => CanObj.init) c.objs (j % 128) (f (s.canObj j)) }

def objIs (s : State) (j i : Nat) : Bool := s.rb (Reg.objStat j) i
def objTx (s : State) (j : Nat) : Bool := s.rb (Reg.objCfg j) 0
def objEngine (s : State) (j : Nat) : Bool := s.rb (Reg.objCfg j) 9
def objBytes (s : State) (j : Nat) : Nat := pszBytes (s.rf (Reg.objCfg j) 1 3)

/-- Objects of controller n. -/
def objsOf (n : Nat) : List Nat := (List.range 128).map fun k => 128 * n + k

/-- The account state of R342 and R345. -/
def showCan (s : State) (n : Nat) : State :=
  let c := s.canAt n
  s.setCode (Acct.canc n)
    (if s.rf (Reg.canStat n) 0 2 ≠ 0 then 8
     else if c.off then 5
     else if c.search.isSome ∨ c.waitIdle then 1
     else if s.rb (Reg.canCfg n) 1 then 9
     else if 127 < c.txErr ∨ 127 < c.rxErr then 6
     else 3)

/-- CAN_ERR shows the counters (R342). -/
def showErr (s : State) (n : Nat) : State :=
  let c := s.canAt n
  ((s.wf (Reg.canErr n) 0 8 (if c.off then 255 else satN 255 c.txErr)).wf (Reg.canErr n) 8 7 (satN 127 c.rxErr)).wb
    (Reg.canErr n) 15 (decide (128 ≤ c.rxErr))

/-! Message memory (R326). -/

/-- Bytes that object j takes when enabled. -/
def objMem (s : State) (j : Nat) : Nat :=
  let b := Acct.obj j
  let fifo := s.consolidated b || (s.headOf b).isSome
  if !s.objTx j && !fifo then 2 * (16 + s.objBytes j) else 16 + s.objBytes j

/-- Object j counts as enabled: a FIFO member with its head. -/
def objEn (s : State) (j : Nat) : Bool :=
  match s.headOf (Acct.obj j) with
  | some h => s.en h
  | none => s.en (Acct.obj j)

def memUsed (s : State) (n : Nat) : Nat := ((objsOf n).map fun j => if s.objEn j then s.objMem j else 0).sum

def showMem (s : State) (n : Nat) : State := s.wf (Reg.canMem n) 0 14 (s.memUsed n)

/-- Another TX object of the controller holds the same identifier and width (R341). -/
def idTaken (s : State) (j : Nat) (id : Word) : Bool :=
  (objsOf (j / 128)).any fun m => m != j && s.objTx m && busId (s.r (Reg.objId m)) == busId id

/-! Transmission requests (R337 to R341). -/

/-- The entry of Q10 + n for a request that ends (R340). -/
def txEvent (s : State) (j kind tag len t : Nat) : State :=
  let cfg := s.r (Reg.objCfg j)
  let n := j / 128
  if !bit cfg 8 ∨ bit cfg 9 then s
  else
    let id := s.r (Reg.objId j)
    let bytes := leBytes 2 tag ++ leBytes 1 (j % 128 + (if bit cfg 6 then 128 else 0)) ++
      leBytes 1 (kind + (if bit id 29 then 4 else 0) + (if bit cfg 5 then 8 else 0) +
        16 * (dlcOf (bit cfg 5) len).getD 0) ++
      leBytes 4 ((busId id).2 + (if bit cfg 7 then 2 ^ 29 else 0)) ++ leBytes 8 t
    if s.qfill (10 + n) < 32 ∧ !s.scRing (10 + n) then s.pushRing (10 + n) bytes
    else s.qDrop (10 + n)

/-- Payload bytes into the data words of object j, from byte 0 on; the bytes behind them keep their values
(log 42). -/
def putData (s : State) (j : Nat) (bs : List Byte) : State :=
  let bs := bs.take 64
  (List.range ((bs.length + 3) / 4)).foldl (fun s i =>
    let part := (bs.drop (4 * i)).take 4
    s.w (Reg.objData j i) (wOfInt ((leNat part : Int) +
      (((s.r (Reg.objData j i)).toNat / 2 ^ (8 * part.length) * 2 ^ (8 * part.length) : Nat) : Int)))) s

/-- The first `n` payload bytes of object j. -/
def dataBytes (s : State) (j n : Nat) : List Byte := (wordsBytes ((List.range 16).map fun i => s.r (Reg.objData j i))).take n

/-- A request is set: txreq, and txlost clears (R337). -/
def setReq (s : State) (j tag len : Nat) : State :=
  let cfg := s.r (Reg.objCfg j)
  let a := Reg.objStat j
  let s := s.updObj j fun o => { o with tag := tag, len := len, abort := false }
  let s := ((s.wb a 5 true).wb a 6 false).wf a 9 4 ((dlcOf (bit cfg 5) len).getD 0)
  (((s.wb a 13 (bit cfg 5)).wb a 14 (bit cfg 6)).wb a 16 (bit cfg 7)).wf a 25 7 len

/-- The CAN_TX that waits for object j's attempt completes (R339). -/
def replaceDone (s : State) (j : Nat) : State :=
  match s.tel.replaceWait.find? fun p => p.1 == j with
  | some (_, c) =>
    { s with tel := { s.tel with replaceWait := s.tel.replaceWait.filter fun p => p.1 != j } }.complete c (.ok 0)
  | none => s

/-- The pending request ends without having been sent: event, txreq clears (R339, R340, R343). -/
def endReq (s : State) (j kind : Nat) : State :=
  let o := s.canObj j
  let s := if s.objIs j 5 then s.txEvent j kind o.tag o.len s.till else s
  let s := match o.next with
    | some (tag, len, _) => (s.txEvent j kind tag len s.till).replaceDone j
    | none => s
  let lost := kind == 1 && (s.objIs j 5 || o.next.isSome)
  let s := (s.wb (Reg.objStat j) 5 false).wb (Reg.objStat j) 7 false
  let s := if lost then s.wb (Reg.objStat j) 6 true else s
  s.updObj j fun o => { o with next := none, abort := false }

/-- Every request of controller n is discarded, the attempt with it. -/
def dropAll (s : State) (n kind : Nat) : State :=
  let s := ((objsOf n).filter fun j => s.objIs j 5 || (s.canObj j).next.isSome).foldl (fun s j => s.endReq j kind) s
  s.updCan n fun c => { c with attempt := none }

/-- Object j is in transmission. -/
def inAttempt (s : State) (j : Nat) : Bool :=
  match (s.canAt (j / 128)).attempt with
  | some (m, _) => m == j
  | none => false

/-- An abort: at once, or when the attempt ends (R339). -/
def abortReq (s : State) (j : Nat) : State :=
  if !s.objIs j 5 then s
  else if s.inAttempt j then s.updObj j fun o => { o with abort := true }
  else s.endReq j 3

/-- L is a length that the object's format can carry and that fits it (R337). -/
def lenOk (s : State) (j l : Nat) : Bool :=
  let fdf := s.rb (Reg.objCfg j) 5
  (fdf || decide (l ≤ 8)) && (dlcOf fdf l).isSome && decide (l ≤ s.objBytes j)

/-- A request with its data; with `replace` over one in transmission it waits (R337, R339). -/
def request2 (s : State) (j tag len : Nat) (bs : List Byte) : State :=
  if s.objIs j 5 && s.inAttempt j then s.updObj j fun o => { o with next := some (tag, len, bs) }
  else (s.putData j bs).setReq j tag len

/-! Enabling and disabling (R319, R326, R339, R341, R348). -/

/-- The controller starts: it waits for 11 recessive bits with clear error counters (R348; log 43). -/
def enableCan (s : State) (n : Nat) : State :=
  let s := s.setEn (Acct.canc n) true
  let s := s.updCan n fun c => { c with waitIdle := true, txErr := 0, rxErr := 0, off := false }
  (s.showErr n).showCan n

/-- The controller stops: its requests are discarded with kind 3 (R348). -/
def disableCan (s : State) (n : Nat) : State :=
  ((s.setEn (Acct.canc n) false).dropAll n 3).updCan n fun c => { c with waitIdle := false }

/-- en of object j clears: a pending request is aborted; an RX object is empty (R339). -/
def disableObj (s : State) (j : Nat) : State := ((s.setEn (Acct.obj j) false).abortReq j).showMem (j / 128)

/-- en of object j sets, unless R326 or R341 refuses it. -/
def enableObj (s : State) (j : Nat) : Option State :=
  let s' := s.setEn (Acct.obj j) true
  if 12288 < s'.memUsed (j / 128) ∨ (s.objTx j ∧ s.idTaken j (s.r (Reg.objId j))) then none
  else some (s'.showMem (j / 128))

/-! Receiving (R329 to R336). -/

/-- A buffer becomes the frame that object j shows. -/
def showBuf (s : State) (j : Nat) (b : CanBuf) : State :=
  let a := Reg.objStat j
  let s := s.w (Reg.objId j) (wOf (b.id + (if b.xtd then 2 ^ 29 else 0)))
  let s := (((s.wb a 0 true).wb a 2 b.trunc).wf a 9 4 b.dlc).wb a 13 b.fdf
  let s := (((s.wb a 14 b.brs).wb a 15 b.esi).wb a 16 b.rtr).wb a 17 b.catchAll
  let s := (s.wf a 18 7 b.element).wf a 25 7 b.data.length
  (s.wTill (Reg.objTillL j) (Reg.objTillH j) b.till).putData j b.data

/-- A frame is stored: counters (R332, R335, R349, R351). -/
def countStore (s : State) (j : Nat) (b : CanBuf) : State :=
  let n := j / 128
  let s := (s.count (Acct.obj j)).addF (Reg.canRxcnt n) 0 32 1
  let s := s.updCan n fun c => { c with late := false }
  if b.trunc then (s.addF (Reg.objCnt j) 16 16 1).addF (Reg.canLoss n) 0 16 1 else s

/-- A frame is lost to object j: ovr (R332 to R334). -/
def overrun (s : State) (j : Nat) : State :=
  let s := ((s.wb (Reg.objStat j) 1 true).addF (Reg.objCnt j) 0 16 1).addF (Reg.canLoss (j / 128)) 16 16 1
  if s.objIs j 3 then s.updObj j fun o => { o with lost := true } else s

/-- The class_stat field fifo_fill of a head (R334, R351). -/
def showFifo (s : State) (j : Nat) : State :=
  let f := (s.canObj j).fifo
  let s := s.wf (Acct.obj j + 0xC) 12 6 f.length
  match f with
  | b :: _ => s.showBuf j b
  | [] => s.wb (Reg.objStat j) 0 false

/-- A frame arrives at the FIFO with head j (R334). -/
def fifoStore (s : State) (j : Nat) (b : CanBuf) (keepFirst : Bool) : State :=
  let f := (s.canObj j).fifo
  if f.length < 1 + fld (s.ctl (Acct.obj j)) 16 5 then
    ((s.updObj j fun o => { o with fifo := f ++ [b] }).countStore j b).showFifo j
  else if keepFirst then s.overrun j
  else
    let f' := if s.objIs j 3 then f.eraseIdx 1 else f.drop 1
    ((s.updObj j fun o => { o with fifo := f' ++ [b] }).countStore j b).showFifo j |>.overrun j

/-- A frame arrives at an RX object outside a FIFO (R332, R333). -/
def objStore (s : State) (j : Nat) (b : CanBuf) (keepFirst : Bool) : State :=
  let fill := fun (s : State) =>
    ((s.updObj j fun o => { o with shadow := some b }).wb (Reg.objStat j) 4 true).countStore j b
  if s.objIs j 3 then
    if (s.canObj j).shadow.isNone then fill s
    else if keepFirst then s.overrun j
    else (fill s).overrun j
  else if !s.objIs j 0 then (s.showBuf j b).countStore j b
  else if keepFirst then s.overrun j
  else ((s.showBuf j b).countStore j b).overrun j

/-- A frame goes to its target object (R329, R330, R335, R336); `hi`: CAN_RX_HI with the element. -/
def store (s : State) (j : Nat) (b : CanBuf) (late : Bool) (hi : Option Nat) : State :=
  let n := j / 128
  if !s.en (Acct.obj j) ∨ s.objTx j then s.addF (Reg.canDrop n) 16 16 1
  else if late then
    let first := !(s.canAt n).late
    let s := (s.addF (Reg.canDrop n) 16 16 1).setFlt (Acct.canc n) 2
    let s := s.updCan n fun c => { c with late := true }
    if first then s.post Ev.canMemLate n 0 else s
  else
    let p := s.objBytes j
    let b := { b with trunc := decide (p < b.data.length), data := b.data.take p }
    let keepFirst := s.rb (Reg.objCfg j) 4
    let was := s.objIs j 0
    let s := if s.consolidated (Acct.obj j) then s.fifoStore j b keepFirst else s.objStore j b keepFirst
    match hi with
    | some e => if !was ∧ s.objIs j 0 then s.post Ev.canRxHi j e else s
    | none => s

/-- The first enabled element that matches (R328, R329). -/
def matches' (s : State) (e : Nat) (xtd : Bool) (id : Nat) : Bool :=
  let a := s.r (Reg.feA e)
  let id1 := fld a 0 29
  let id2 := s.rf (Reg.feB e) 0 29
  s.en (Acct.fe e) && bit a 29 == xtd &&
    (match fld a 30 2 with
     | 0 => decide (id1 ≤ id) && decide (id ≤ id2)
     | 1 => id == id1 || id == id2
     | _ => id &&& id2 == id1 &&& id2)

/-- A correctly received frame is searched and stored (R329). -/
def deliver (s : State) (n : Nat) (f : CanFrame) (sof : Nat) (late : Bool) : State :=
  let id := f.id.toNat
  let b : CanBuf := ⟨f.xtd, id, f.dlc.toNat, f.fdf, f.brs, f.esi, f.rtr, false, 0, false, sof, f.data⟩
  match ((s.canAt n).binds.find? fun p => busId p.2 == (f.xtd, id) && s.en (Acct.obj (128 * n + p.1))) with
  | some (k, _) => s.store (128 * n + k) b late none
  | none =>
    match (List.range 128).find? fun k => s.matches' (128 * n + k) f.xtd id with
    | some k =>
      let e := 128 * n + k
      let s := s.count (Acct.fe e)
      let c := s.r (Reg.feC e)
      if 2 ≤ fld c 8 2 then s
      else s.store (128 * n + fld c 0 7) { b with element := k } late (if fld c 8 2 = 1 then some k else none)
    | none =>
      let s := s.count (Acct.filterList n)
      if s.rb (Reg.canCfg n) 2 then
        s.store (128 * n + s.rf (Reg.canCfg n) 4 7) { b with catchAll := true } late none
      else s.addF (Reg.canDrop n) 0 16 1

/-! Read sessions (R333). -/

/-- The session on controller n ends as if released. -/
def endSession (s : State) (n : Nat) : State :=
  match (s.canAt n).session with
  | none => s
  | some v =>
    let j := v.obj
    let o := s.canObj j
    let a := Reg.objStat j
    let s := s.updCan n fun c => { c with session := none }
    let s := ((s.wb a 3 false).wb (Reg.canApSel n) 9 false).wb a 1 o.lost
    let s := s.updObj j fun o => { o with lost := false }
    if s.consolidated (Acct.obj j) then (s.updObj j fun o => { o with fifo := o.fifo.drop 1 }).showFifo j
    else match o.shadow with
      | some b => ((s.updObj j fun o => { o with shadow := none }).showBuf j b).wb a 4 false
      | none => s.wb a 0 false

/-- A session on object j can start: an RX object, or a FIFO head. -/
def maySession (s : State) (j : Nat) : Bool := !s.objTx j && (s.headOf (Acct.obj j)).isNone

/-- A session starts. -/
def startSession (s : State) (j : Nat) (held : Bool) : State :=
  if !s.maySession j then s
  else
    let n := j / 128
    let s := (s.updCan n fun c => { c with session := some ⟨j, s.till, held⟩ }).wb (Reg.objStat j) 3 true
    if held then s else s.wb (Reg.canApSel n) 9 true

/-- The host's selection: the session of another account ends, and one starts with lock = 1 and kind = 0; it
waits for a session that the Shortchange holds (R333, R536). -/
def canSelect (s : State) (n : Nat) (v : Word) : State :=
  let j := 128 * n + fld v 0 7
  let lock := bit v 9 && !bit v 8
  let same := match (s.canAt n).session with
    | some x => x.held || (x.obj == j && lock)
    | none => false
  let s := if same then s else s.endSession n
  let s := s.w (Reg.canApSel n) (putBit (masked 0x17F v) 9 (match (s.canAt n).session with
    | some x => !x.held
    | none => false))
  match (s.canAt n).session with
  | some x => s.updCan n fun c => { c with wanted := if x.held ∧ lock then some j else none }
  | none => if lock then s.startSession j false else s

/-- The Shortchange's session ends; the host's that waits starts (R536). -/
def endHeld (s : State) (n : Nat) : State :=
  let want := (s.canAt n).wanted
  let s := (s.endSession n).updCan n fun c => { c with wanted := none }
  match want with
  | some j => s.startSession j false
  | none => s

/-- A host write of CAN_AP_CTL: release, then txreq, then abort (R333, R337, R339; log 44). -/
def canApControl (s : State) (n : Nat) (v : Word) : State :=
  let j := 128 * n + s.rf (Reg.canApSel n) 0 7
  let object := !s.rb (Reg.canApSel n) 8
  let s := match (s.canAt n).session with
    | some x => if bit v 0 ∧ !x.held then s.endSession n else s
    | none => s
  let tx := object && s.objTx j && !s.objEngine j
  let s := if bit v 1 ∧ tx ∧ s.en (Acct.obj j) ∧ !s.objIs j 5 ∧ s.lenOk j (fld v 8 7) ∧
      (s.canAt n).search.isNone ∧ !s.rb (Reg.canCfg n) 1 then s.setReq j 0 (fld v 8 7) else s
  if bit v 2 ∧ tx then s.abortReq j else s

/-! Error confinement (R342 to R344). -/

/-- The error state of the counters; a change is posted (R342). -/
def errState (s : State) (n tx rx : Nat) : State :=
  let c := s.canAt n
  let was := decide (127 < c.txErr) || decide (127 < c.rxErr)
  let now := decide (127 < tx) || decide (127 < rx)
  let s := ((s.updCan n fun c => { c with txErr := tx, rxErr := rx }).showErr n).showCan n
  if was = now then s else s.post Ev.canErrState n (if now then 1 else 0)

/-- Bus-off (R343). -/
def busOff (s : State) (n : Nat) : State :=
  let s := s.updCan n fun c => { c with off := true, txErr := 256 }
  let s := s.dropAll n 1
  let s := (s.wf (Reg.canErr n) 16 8 0).addF (Reg.canPxe n) 16 16 1
  ((s.showErr n).showCan n).fault (Acct.canc n) 1 Ev.busoff n 0

/-- What an ended request leaves: an abort, a request that waited, a rearm (R339, R344). -/
def attemptOver (s : State) (j : Nat) : State :=
  let o := s.canObj j
  let s := (s.updCan (j / 128) fun c => { c with attempt := none }).wb (Reg.objStat j) 7 false
  let s := if o.rearm then
      (s.updObj j fun o => { o with rearm := false, clash := 0 }).wb (Reg.objStat j) 8 false
    else s
  match o.next with
  | some (tag, len, bs) =>
    (((s.updObj j fun o => { o with next := none }).putData j bs).setReq j tag len).replaceDone j
  | none => s

/-- DRIVE_REF frame with this object was sent: its sequence number is confirmed (R186). -/
def confirmDrive (s : State) (j : Nat) : State :=
  if s.prf.txObj = some j then
    let q := s.rf (Reg.objData j 5) 8 8
    { s with prf := { s.prf with unsent := s.prf.unsent.filter fun p => p.1 != q } }
  else s

/-- The frame that object j sends. -/
def frameOf (s : State) (j : Nat) : CanFrame :=
  let cfg := s.r (Reg.objCfg j)
  let (x, i) := busId (s.r (Reg.objId j))
  let o := s.canObj j
  { xtd := x, id := BitVec.ofNat 29 i, rtr := bit cfg 7, fdf := bit cfg 5, brs := bit cfg 6,
    esi := bit cfg 5 && decide (127 < (s.canAt (j / 128)).txErr || 127 < (s.canAt (j / 128)).rxErr),
    dlc := BitVec.ofNat 4 ((dlcOf (bit cfg 5) o.len).getD 0),
    data := if bit cfg 7 then [] else s.dataBytes j o.len }

/-- A frame is sent (R338, R340, R345). -/
def frameSent (s : State) (j sof tdcv : Nat) : State :=
  let n := j / 128
  let o := s.canObj j
  let f := s.frameOf j
  let s := if f.fdf ∧ f.brs ∧ s.rb (Reg.canCfg n) 12 then s.wf (Reg.canStat n) 16 7 tdcv else s
  let s := ((s.addF (Reg.canTxcnt n) 0 32 1).count (Acct.obj j)).wb (Reg.objStat j) 5 false
  let s := s.updObj j fun o => { o with clash := 0, abort := false }
  let s := (s.txEvent j 0 o.tag o.len sof).confirmDrive j
  let c := s.canAt n
  let s := s.errState n (c.txErr - 1) c.rxErr
  let s := if s.rf (Reg.canStat n) 0 2 ≠ 0 then s.deliver n f sof false else s
  s.attemptOver j

/-- A pending request ends, but not the one that waits behind it. -/
def dropOne (s : State) (j kind : Nat) : State :=
  let o := s.canObj j
  ((s.txEvent j kind o.tag o.len s.till).wb (Reg.objStat j) 5 false).updObj j fun o => { o with abort := false }

/-- An attempt fails or loses: one-shot and aborted requests end, others stay (R338, R339, R344); `shot`: the
object was one-shot during the attempt. -/
def frameFailed (s : State) (j : Nat) (shot : Bool) : State :=
  let o := s.canObj j
  let s := if o.abort ∨ !s.en (Acct.obj j) then s.dropOne j 3
    else if shot then s.dropOne j 2 else s
  s.attemptOver j

/-- A clash error, or any other outcome of an attempt (R344). -/
def clashCount (s : State) (j : Nat) (clash : Bool) (pos : Nat) : State :=
  let k := if clash then (s.canObj j).clash + 1 else 0
  let s := s.updObj j fun o => { o with clash := k }
  if k = 2 then
    let n := j / 128
    let (x, i) := busId (s.r (Reg.objId j))
    let s := s.w (Reg.canClash n) (wOf (i + (if x then 2 ^ 29 else 0)))
    let s := s.w (Reg.canClashPos n) (wOf (pos + (j % 128) * 2 ^ 16))
    (s.wb (Reg.objStat j) 8 true).fault (Acct.obj j) 1 Ev.idclash j 0
  else s

/-! Rate search (R322 to R324). -/

/-- Entries that a search tries, in ascending order. -/
def rateEntries (s : State) (n : Nat) (data : Bool) : List Nat :=
  if data then
    (List.range 8).filter fun i => s.rb (Reg.canAb n) (16 + i) && decide (dataClocks i ≤ nbtClocks (s.r (Reg.canNbt n)))
  else (List.range 16).filter fun i => s.rb (Reg.canAb n) i

/-- The entry under trial. -/
def rateTrial (s : State) (n : Nat) (data : Bool) : Nat := if data then s.rf (Reg.canStat n) 8 3 else s.rf (Reg.canStat n) 4 4

def setTrial (s : State) (n : Nat) (data : Bool) (i : Nat) : State :=
  if data then s.wf (Reg.canStat n) 8 3 i else s.wf (Reg.canStat n) 4 4 i

/-- The search moves to the next enabled entry and counts anew. -/
def rateNext (s : State) (n : Nat) (data : Bool) : State :=
  let l := s.rateEntries n data
  let i := match l.find? fun k => decide (s.rateTrial n data < k) with
    | some k => k
    | none => l.headD (s.rateTrial n data)
  (s.setTrial n data i).updCan n fun c => { c with search := some ⟨data, 0⟩ }

/-- A phase of the search begins at its first enabled entry. -/
def rateBegin (s : State) (n : Nat) (data : Bool) : State :=
  (s.setTrial n data ((s.rateEntries n data).headD 0)).updCan n fun c => { c with search := some ⟨data, 0⟩ }

/-- The search is over: the controller joins, and CAN_AUTOBAUD completes (R323, R324). -/
def rateJoin (s : State) (n : Nat) (k : Fin 4) (rp : Reply) : State :=
  let s := (s.updCan n fun c => { c with search := none, waitIdle := true }).wb (Reg.canStat n) 2 false
  let s := s.showCan n
  match s.longOf (.can k) with
  | some l => s.endLong l rp
  | none => s

/-- The result of a search that found a rate (R324). -/
def rateResult (s : State) (n : Nat) (data : Bool) : Word :=
  wOf (s.rf (Reg.canStat n) 4 4 + (if data then s.rf (Reg.canStat n) 8 3 * 2 ^ 8 + 2 ^ 16 else 0))

/-- The timeout of CAN_AUTOBAUD (R324). -/
def autobaudTimeout (s : State) (n : Nat) (k : Fin 4) : State :=
  match (s.canAt n).search with
  | some ⟨true, _⟩ => s.rateJoin n k (.ok (s.rateResult n false))
  | some ⟨false, _⟩ => (s.setFlt (Acct.canc n) 3).rateJoin n k (.timeout 0)
  | none => s

/-! The commands' checks and effects (R348, R564). -/

/-- Controller that a CAN command names. -/
def canNum (c : Cmd) : Nat := c.argF 0 2

/-- CAN_AUTOBAUD runs on the controller (R324). -/
def searching (s : State) (n : Nat) : Bool := (s.canAt n).search.isSome

/-- The controller carries DRIVE_REF in a run (R348). -/
def carriesRun (s : State) (n : Nat) : Bool :=
  !s.runIdle && (match s.prf.txObj with
    | some j => j / 128 == n
    | none => false)

/-- A catch-all or filter target: an RX object or a FIFO head (R329). -/
def targetOk (s : State) (j : Nat) : Bool := !s.objTx j && (s.headOf (Acct.obj j)).isNone

def canConfigRow : CmdRow where
  opcode := 0x0701
  len := fun n => n == 16
  pre := fun c s =>
    let n := canNum c
    firstOf [failIf (!c.argOnly 3) .badArg,
      imagesReply 0 (Reg.canCfg n) [c.img 0, c.img 1, c.img 2, c.img 3],
      (timingBad (c.img 0) (c.img 1) (c.img 2)).map Reply.badParam,
      failIf (!s.targetOk (128 * n + fld (c.img 0) 4 7)) (.badParam 0),
      s.lockReply (Acct.canc n),
      failIf (s.searching n || s.carriesRun n) .badState]
  run := fun c s =>
    let n := canNum c
    ((((s.disableCan n).wConfig (Reg.canCfg n) [c.img 0, c.img 1, c.img 2, c.img 3]).enableCan n), some (.ok 0))

def canAutobaudRow : CmdRow where
  opcode := 0x0702
  long := true
  len := fun n => n == 4
  units := fun c => [.can (Fin.ofNat 4 (canNum c))]
  pre := fun c s =>
    let n := canNum c
    firstOf [failIf (!c.argOnly 3) .badArg,
      failIf (!(Ranges.within 1 600 (leAt c.pay 0 2))) (.badParam 0), failIf (leAt c.pay 2 2 != 0) (.badParam 2),
      s.lockReply (Acct.canc n),
      failIf (s.searching n || s.rf (Reg.canStat n) 0 2 != 0 || s.carriesRun n) .badState]
  run := fun c s =>
    let n := canNum c
    let s := (s.dropAll n 3).wb (Reg.canStat n) 2 true
    let s := (s.rateBegin n false).showCan n
    (s.startLong c [.can (Fin.ofNat 4 n)] [], none)

/-- First object, number and group size - 1 of CAN_OBJ_CONFIG. -/
def objRun (c : Cmd) : Nat × Nat × Nat := (leAt c.pay 0 1, leAt c.pay 1 1, leAt c.pay 2 1)

/-- OBJ_CFG and OBJ_ID of entry i. -/
def objEntry (c : Cmd) (i : Nat) : Word × Word := (wordAt c.pay (4 + 8 * i), wordAt c.pay (8 + 8 * i))

/-- An object image in range: brs needs fdf, rtr needs fdf = 0 (OBJ_CFG). -/
def objImageOk (cfg id : Word) : Bool :=
  masked 0x1FF cfg == cfg && masked 0x3FFFFFFF id == id && (!bit cfg 6 || bit cfg 5) && (!bit cfg 7 || !bit cfg 5)

/-- The objects written; the FIFO, if any, stands (CAN_OBJ_CONFIG). -/
def objWrite (s : State) (n first : Nat) (l : List (Word × Word)) (fifo : Nat) : State :=
  let js := (List.range l.length).map fun i => 128 * n + first + i
  let s := match (s.canAt n).session with
    | some v => if js.contains v.obj then s.endSession n else s
    | none => s
  let s := (js.filter fun j => s.consolidated (Acct.obj j)).foldl (fun s j => s.setGroup (Acct.obj j) false 0) s
  let s := js.foldl (fun s j => s.setEn (Acct.obj j) false) s
  let s := (js.zip l).foldl (fun s (j, cfg, id) =>
    let s := ((s.w (Reg.objCfg j) cfg).w (Reg.objStat j) 0).updObj j fun _ => CanObj.init
    if bit cfg 0 then s.w (Reg.objId j) id else s) s
  let s := if fifo = 0 then s else s.setGroup (Acct.obj (128 * n + first)) true fifo
  let s := (js.filter fun j => (s.headOf (Acct.obj j)).isNone).foldl (fun s j => s.setEn (Acct.obj j) true) s
  s.showMem n

/-- Two TX objects of the run, or one and another of the controller, share an identifier: the entry (R341). -/
def objDouble (s : State) (n first : Nat) (l : List (Word × Word)) : Option Nat :=
  (List.range l.length).find? fun i =>
    match l[i]? with
    | some (cfg, id) => bit cfg 0 &&
        ((l.take i).any (fun p => bit p.1 0 && busId p.2 == busId id) ||
          (objsOf n).any fun m => (decide (m % 128 < first) || decide (first + l.length ≤ m % 128)) && s.objTx m &&
            busId (s.r (Reg.objId m)) == busId id)
    | none => false

/-- A member of a FIFO that reaches outside the run, or an object with a request or bound to an engine. -/
def objBusy (s : State) (n first k : Nat) : Option Reply :=
  let inside := fun b => decide (Acct.obj (128 * n + first) ≤ b) && decide (b < Acct.obj (128 * n + first + k))
  let js := (List.range k).map fun i => 128 * n + first + i
  if js.any s.objEngine then some (.badState 5)
  else failIf (js.any fun j =>
    s.objIs j 5 || (s.canObj j).next.isSome ||
      (match s.headOf (Acct.obj j) with
       | some h => !inside h
       | none => false) ||
      (s.consolidated (Acct.obj j) && !(membersOf (Acct.obj j) (s.groupExt (Acct.obj j))).all inside)) .badState

def canObjConfigRow : CmdRow where
  opcode := 0x0703
  len := fun n => decide (12 ≤ n) && decide (n ≤ 252) && (n - 4) % 8 == 0
  units := fun c => [.can (Fin.ofNat 4 (canNum c))]
  pre := fun c s =>
    let n := canNum c
    let (first, k, g) := objRun c
    let l := (List.range k).map (objEntry c)
    let s' := s.objWrite n first l g
    firstOf [failIf (!c.argOnly 3) .badArg,
      failIf (c.len ≠ 4 + 8 * k) (.badParam 0xFFFFFF04),
      failIf (decide (127 < first)) (.badParam 0),
      failIf (k = 0 || decide (31 < k) || decide (128 < first + k)) (.badParam 1), failIf (decide (k ≤ g)) (.badParam 2),
      failIf (leAt c.pay 3 1 != 0) (.badParam 3),
      ((List.range k).find? fun i => !objImageOk (objEntry c i).1 (objEntry c i).2).map fun i => .badParam (4 + 8 * i),
      (s.objDouble n first l).map fun i => .badParam (8 + 8 * i),
      s.lockReply (Acct.canc n),
      s.objBusy n first k,
      failIf (g != 0 && !(let j := 128 * n + first
        (List.range (g + 1)).all (fun d => decide (((l.getD d (0, 0)).1 &&& 0x1F#32) = ((l.getD 0 (0, 0)).1 &&& 0x1F#32)) &&
            !bit (l.getD d (0, 0)).1 0) &&
          (s.frameTargets j).all fun t => !(decide (first < t) && decide (t ≤ first + g)))) (.badParam 2),
      failIf (decide (12288 < s'.memUsed n)) .noSpace]
  run := fun c s =>
    let (first, k, g) := objRun c
    (s.objWrite (canNum c) first ((List.range k).map (objEntry c)) g, some (.ok 0))

/-- Element i of CAN_FILTER_SET. -/
def feEntry (c : Cmd) (i : Nat) : Word × Word × Word :=
  (wordAt c.pay (4 + 12 * i), wordAt c.pay (8 + 12 * i), wordAt c.pay (12 + 12 * i))

/-- The offset of the first word of an element that R81, R328 or R329 refuses. -/
def feBad (s : State) (n o : Nat) (a b c : Word) : Option Nat :=
  if fld a 30 2 = 3 ∨ (!bit a 29 ∧ 2048 ≤ fld a 0 29) then some o
  else if masked 0x1FFFFFFF b ≠ b ∨ (!bit a 29 ∧ 2048 ≤ b.toNat) ∨ (fld a 30 2 = 0 ∧ fld b 0 29 < fld a 0 29)
  then some (o + 4)
  else if masked 0x37F c ≠ c ∨ fld c 8 2 = 3 ∨ !s.targetOk (128 * n + fld c 0 7) then some (o + 8)
  else none

def canFilterSetRow : CmdRow where
  opcode := 0x0704
  len := fun n => decide (4 ≤ n) && decide (n ≤ 244) && (n - 4) % 12 == 0
  units := fun c => [.can (Fin.ofNat 4 (canNum c))]
  pre := fun c s =>
    let n := canNum c
    let first := leAt c.pay 0 1
    let k := leAt c.pay 1 1
    firstOf [failIf (!c.argOnly 3) .badArg,
      failIf (c.len ≠ 4 + 12 * k) (.badParam 0xFFFFFF04),
      failIf (decide (0 < k) && decide (127 < first)) (.badParam 0),
      failIf (decide (20 < k) || decide (128 < first + k)) (.badParam 1), failIf (decide (3 < leAt c.pay 2 1)) (.badParam 2),
      failIf (leAt c.pay 2 1 % 2 == 0 && leAt c.pay 2 1 != 0) (.badParam 2),
      failIf (decide (127 < leAt c.pay 3 1) ||
        (if leAt c.pay 2 1 % 2 = 1 then !s.targetOk (128 * n + leAt c.pay 3 1) else leAt c.pay 3 1 != 0)) (.badParam 3),
      ((List.range k).filterMap fun i =>
        let (x, y, z) := feEntry c i
        (s.feBad n (4 + 12 * i) x y z)).head?.map Reply.badParam,
      s.lockReply (Acct.canc n)]
  run := fun c s =>
    let n := canNum c
    let first := leAt c.pay 0 1
    let s := (List.range (leAt c.pay 1 1)).foldl (fun s i =>
      let e := 128 * n + first + i
      let (x, y, z) := feEntry c i
      (((s.w (Reg.feA e) x).w (Reg.feB e) y).w (Reg.feC e) z).setEn (Acct.fe e) true) s
    let s := if leAt c.pay 2 1 % 2 = 1 then
        (s.wb (Reg.canCfg n) 2 (leAt c.pay 2 1 / 2 % 2 == 1)).wf (Reg.canCfg n) 4 7 (leAt c.pay 3 1)
      else s
    (s, some (.ok 0))

/-- Object that a CAN command's arg names. -/
def canArgObj (c : Cmd) : Nat := 128 * canNum c + c.argF 2 7

def canTxRow : CmdRow where
  opcode := 0x0705
  len := fun n => decide (4 ≤ n) && decide (n ≤ 68)
  units := fun c => [.can (Fin.ofNat 4 (canNum c))]
  pre := fun c s =>
    let n := canNum c
    let j := canArgObj c
    let l := leAt c.pay 2 1
    firstOf [failIf (!c.argOnly 0x3FF) .badArg,
      failIf (c.len ≠ 4 + (if s.objTx j && s.rb (Reg.objCfg j) 7 then 0 else l)) (.badParam 0xFFFFFF04),
      failIf (s.objTx j && !s.lenOk j l) (.badParam 2), failIf (leAt c.pay 3 1 != 0) (.badParam 3),
      s.lockReply (Acct.canc n),
      failIf (s.objEngine j) (.badState 5),
      failIf (!s.en (Acct.obj j) || !s.objTx j || s.searching n || s.rb (Reg.canCfg n) 1) .badState,
      failIf (s.objIs j 5 && (c.argF 9 1 == 0 || (s.canObj j).next.isSome)) .busy]
  run := fun c s =>
    let j := canArgObj c
    let wait := s.objIs j 5 && s.inAttempt j
    let s := s.request2 j (leAt c.pay 0 2) (leAt c.pay 2 1) (c.pay.drop 4)
    if wait then ({ s with tel := { s.tel with replaceWait := s.tel.replaceWait ++ [(j, c)] } }, none)
    else (s, some (.ok 0))

/-- one_shot and the clash count clear, or when the attempt ends (R344). -/
def rearm (s : State) (j : Nat) : State :=
  if s.inAttempt j then s.updObj j fun o => { o with rearm := true }
  else (s.updObj j fun o => { o with clash := 0 }).wb (Reg.objStat j) 8 false

def canRearmRow : CmdRow where
  opcode := 0x0706
  units := fun c => [.can (Fin.ofNat 4 (canNum c))]
  pre := fun c s =>
    firstOf [failIf (!c.argOnly 0x3FF || (c.argF 9 1 == 0 && !s.objTx (canArgObj c))) .badArg,
      s.lockReply (Acct.canc (canNum c))]
  run := fun c s =>
    (if c.argF 9 1 = 1 then ((objsOf (canNum c)).filter s.objTx).foldl rearm s else s.rearm (canArgObj c), some (.ok 0))

def canLoopbackRow : CmdRow where
  opcode := 0x0707
  pre := fun c s =>
    let n := canNum c
    firstOf [failIf (!c.argOnly 0x303 || c.argF 8 2 == 3) .badArg,
      s.lockReply (Acct.canc n),
      failIf (s.searching n || (objsOf n).any s.objEngine) .badState]
  run := fun c s =>
    let n := canNum c
    (((s.disableCan n).wf (Reg.canStat n) 0 2 (c.argF 8 2)).enableCan n, some (.ok 0))

/-- The controller takes part in bus traffic. -/
def canRuns (s : State) (n : Nat) : Bool :=
  s.rst.phase == .running && s.runs (Acct.canc n) && s.en (Acct.canc n) && s.pwr != .hush

/-- It receives: not bus-off, not waiting for 11 recessive bits. -/
def canListens (s : State) (n : Nat) : Bool := s.canRuns n && !(s.canAt n).off && !(s.canAt n).waitIdle

/-- A frame at CANn_RX (R323, R329, R342). -/
def rxFrame (s : State) (n : Nat) (f : CanFrame) (late : Bool) : State :=
  if !s.canListens n ∨ s.rf (Reg.canStat n) 0 2 = 1 ∨ (f.fdf ∧ !s.rb (Reg.canCfg n) 0) then s
  else
    match (s.canAt n).search with
    | some v => if v.data ∧ !f.brs then s else s.updCan n fun c => { c with search := some ⟨v.data, v.clean + 1⟩ }
    | none =>
      let c := s.canAt n
      let rx := if 127 < c.rxErr then 119 + Config.recReturn.val else c.rxErr - 1
      (s.errState n c.txErr rx).deliver n f s.till late

/-- A bus error (R323, R342, R343); the increments are those of ISO 11898-1 (log 41). -/
def busError (s : State) (n : Nat) (e : CanErrorInfo) : State :=
  if !s.canListens n then s
  else
    let s := (s.count (Acct.canc n)).wf (Reg.canErr n) (if e.dataPhase then 27 else 24) 3 e.code.toNat
    match (s.canAt n).search with
    | some v => s.rateNext n v.data
    | none =>
      let c := s.canAt n
      if s.rb (Reg.canCfg n) 1 then s
      else if e.transmitting then
        let tx := if e.code = 3 ∧ 127 < c.txErr then c.txErr else c.txErr + 8
        if 255 < tx then s.busOff n else s.errState n tx c.rxErr
      else s.errState n c.txErr (satN 255 (c.rxErr + if e.heavy then 8 else 1))

/-- The controller offers its highest-priority pending request (R338). -/
def startAttempt (s : State) (n : Nat) : State :=
  let c := s.canAt n
  if !s.canListens n ∨ c.attempt.isSome ∨ c.search.isSome ∨ s.rb (Reg.canCfg n) 1 then s
  else
    let key : Nat → Nat := fun j => let (x, i) := busId (s.r (Reg.objId j)); arbKey x i (s.rb (Reg.objCfg j) 7)
    let best := ((objsOf n).filter fun j => s.objTx j && s.objIs j 5).foldl
      (fun (b : Option Nat) j => match b with
        | some m => if key j < key m then some j else some m
        | none => some j) none
    match best with
    | some j => (s.updCan n fun c => { c with attempt := some (j, s.till) }).wb (Reg.objStat j) 7 true
    | none => s

/-- The attempt in progress ends (R338, R344). -/
def endAttempt (s : State) (n : Nat) (e : AttemptEnd) : State :=
  match (s.canAt n).attempt with
  | none => s
  | some (j, sof) =>
    match e with
    | .sent v => s.frameSent j sof v.toNat
    | .lostArbitration => (s.clashCount j false 0).frameFailed j (s.objIs j 8)
    | .failed clash pos => (s.clashCount j clash pos.toNat).frameFailed j (s.objIs j 8)

/-- 11 recessive bits have passed (R315, R323, R346, R348). -/
def busIdle (s : State) (n : Nat) : State :=
  if s.canRuns n ∧ (s.canAt n).waitIdle ∧ !(s.canAt n).off then
    (s.updCan n fun c => { c with waitIdle := false }).showCan n
  else s

/-- 8 frames have counted at the entry under trial: it is committed (R323). -/
def rateCommit (s : State) (n : Nat) (k : Fin 4) : State :=
  match (s.canAt n).search with
  | none => s
  | some v =>
    if v.clean < 8 then s
    else if v.data then
      let (d, o) := dataTiming (s.rateTrial n true)
      let s := ((s.w (Reg.canDbt n) d).wb (Reg.canCfg n) 12 true).wf (Reg.canCfg n) 16 7 o
      let s := s.post Ev.canRate n 1
      s.rateJoin n k (.ok (s.rateResult n true))
    else
      let s := (s.w (Reg.canNbt n) (nomTiming (s.rateTrial n false))).post Ev.canRate n 0
      if s.rb (Reg.canCfg n) 0 ∧ s.rf (Reg.canAb n) 16 8 ≠ 0 then s.rateBegin n true
      else s.rateJoin n k (.ok (s.rateResult n false))

/-- Bus-off ends (R343). -/
def recover (s : State) (n : Nat) : State :=
  if s.canRuns n ∧ (s.canAt n).off then
    let s := s.updCan n fun c => { c with off := false, txErr := 0, rxErr := 0 }
    (((s.wf (Reg.canErr n) 16 8 128).showErr n).showCan n).post Ev.canRecover n 0
  else s

/-- A session is ended by the module (R333). -/
def expireSession (s : State) (n : Nat) : State :=
  match (s.canAt n).session with
  | some v => if v.held then s else (s.endSession n).fault (Acct.obj v.obj) 2 Ev.canLockExpired v.obj 0
  | none => s

/-- A protocol exception (R315): fd_en = 0 and a recessive FDF, or fd_en = 1 and a recessive res. -/
def pxe (s : State) (n : Nat) : State :=
  if s.canListens n then
    ((s.addF (Reg.canPxe n) 0 16 1).updCan n fun c => { c with waitIdle := true }).showCan n
  else s

end State

/-- CAN_CONFIG (R348). -/
def execCanConfig (src : Src) (s : State) : Host.Outcome State Fault Refusal := .next (s.runRow State.canConfigRow src)

/-- CAN_AUTOBAUD (R323). -/
def execCanAutobaud (src : Src) (s : State) : Host.Outcome State Fault Refusal := .next (s.runRow State.canAutobaudRow src)

/-- The trial rate is committed (R323). -/
def execCanRate (n : Fin 4) (s : State) : Host.Outcome State Fault Refusal := .next (s.rateCommit n.val n)

/-- CAN_OBJ_CONFIG (R348). -/
def execCanObjConfig (src : Src) (s : State) : Host.Outcome State Fault Refusal := .next (s.runRow State.canObjConfigRow src)

/-- CAN_FILTER_SET (R348). -/
def execCanFilterSet (src : Src) (s : State) : Host.Outcome State Fault Refusal := .next (s.runRow State.canFilterSetRow src)

/-- CAN_TX (R337, R339). -/
def execCanTx (src : Src) (s : State) : Host.Outcome State Fault Refusal := .next (s.runRow State.canTxRow src)

/-- CAN_REARM (R344). -/
def execCanRearm (src : Src) (s : State) : Host.Outcome State Fault Refusal := .next (s.runRow State.canRearmRow src)

/-- CAN_LOOPBACK (R345). -/
def execCanLoopback (src : Src) (s : State) : Host.Outcome State Fault Refusal := .next (s.runRow State.canLoopbackRow src)

/-- A correctly received frame (R329); a frame that the bus cannot carry is ill formed. -/
def execCanRxFrame (n : Fin 4) (f : CanFrame) (late : Bool) (s : State) : Host.Outcome State Fault Refusal :=
  if f.wellFormed then .next (s.rxFrame n.val f late) else .fault .illFormed

/-- An attempt ends (R338). -/
def execCanTxAttemptEnd (n : Fin 4) (e : AttemptEnd) (s : State) : Host.Outcome State Fault Refusal :=
  .next (s.endAttempt n.val e)

/-- A bus error (R342). -/
def execCanError (n : Fin 4) (e : CanErrorInfo) (s : State) : Host.Outcome State Fault Refusal :=
  .next (s.busError n.val e)

/-- Bus-off ends (R343). -/
def execCanRecover (n : Fin 4) (s : State) : Host.Outcome State Fault Refusal := .next (s.recover n.val)

/-- A protocol exception (R315). -/
def execProtocolException (n : Fin 4) (s : State) : Host.Outcome State Fault Refusal := .next (s.pxe n.val)

/-- A read session expires (R333). -/
def execCanLockExpired (n : Fin 4) (s : State) : Host.Outcome State Fault Refusal := .next (s.expireSession n.val)

/-- 11 recessive bits (R348). -/
def execCanBusIdle (n : Fin 4) (s : State) : Host.Outcome State Fault Refusal := .next (s.busIdle n.val)

/-- An attempt starts (R338). -/
def execCanTxAttemptStart (n : Fin 4) (s : State) : Host.Outcome State Fault Refusal := .next (s.startAttempt n.val)

end Sys2Proof.Machine
end

