-- ==== Sys2Proof/Machine/Orders.lean ====
section
/-! DEFINITION. Standing orders: the landing table, orders, and the commands that configure them
(05_standing_orders.md R157 to R170, R173, R176, R184, 17_commands.md R560). -/

namespace Sys2Proof.Machine

/-- s_stop of R172 in um for a speed in um/s and an acceleration in um/s², with dec in um/s² and jerk in um/s³. -/
def stopDistance (dec jerk v0 a0 : Rat) : Rat :=
  let a := if a0 < 0 then 0 else a0
  let t := a / jerk
  let s := if a = 0 then 0 else v0 * t + a * t * t / 2 - jerk * t * t * t / 6
  let v := v0 + a * a / (2 * jerk)
  if dec * dec / jerk ≤ v then s + (v * v / (2 * dec) + v * dec / (2 * jerk)) else s + v * Config.sqrt (v / jerk)

namespace State

def updPrf (s : State) (f : Prf → Prf) : State := { s with prf := f s.prf }

/-- PRF_STAT.run_state (R181). -/
def runState (s : State) : Nat := s.rf Reg.prfStat 0 4
def runDown (s : State) : Bool := s.rb Reg.prfStat 4
/-- +1 up, -1 down. -/
def runSign (s : State) : Int := if s.runDown then -1 else 1

def profAcc (s : State) : Rat := (s.rf Reg.prfAcc 0 12 : Rat) * 1000
def profDec (s : State) : Rat := (s.rf Reg.prfAcc 16 12 : Rat) * 1000
def profJerk (s : State) : Rat := (s.rf Reg.prfJerk 0 14 : Rat) * 1000
def marginUm (s : State) : Rat := (s.rf Reg.prfStop 0 9 : Rat) * 1000
def levelTol (s : State) : Int := 10 * s.rf Reg.prfStop 24 8
def carposI (s : State) : Int := wInt (s.r Reg.carpos)
def carspdI (s : State) : Int := wInt (s.r Reg.carspd)
def caraccI (s : State) : Int := wInt (s.r Reg.caracc)
def zeroSpeed (s : State) : Bool := s.rb Reg.fusMstat 2

/-! The landing table (R159 to R162). -/

def doubleDeck (s : State) : Bool := s.rb Reg.ltCfg 9

/-- Stop position of deck k at landing n (R160). -/
def stopPos (s : State) (n k : Nat) : Int :=
  s.ltPos n - wInt (s.r (if k = 0 then Reg.ltDeckOfs0 else Reg.ltDeckOfs1))

/-- Sides that a landing has for a deck: front, rear (R159). -/
def landingSides (s : State) (n k : Nat) : Nat := s.rf (Reg.ltAttr n) (20 + 2 * k) 2

/-- The words that LT_DIGEST covers (R162). -/
def tableWords (s : State) : List Word :=
  [s.r Reg.ltCfg, s.r Reg.ltDeckOfs0, s.r Reg.ltDeckOfs1] ++
    (List.range s.ltCount).flatMap fun n => [s.r (Reg.ltPos n), s.r (Reg.ltAttr n)]

/-- LT_DIGEST is recomputed (R162). -/
def showDigest (s : State) : State := s.w Reg.ltDigest (crc32c (wordsBytes s.tableWords))

/-- A word of the staging copy (R560): what it holds, else the live table's. -/
def staged (s : State) (l : List (Nat × Word)) (a : Nat) : Word :=
  match l.find? fun p => p.1 == a with
  | some p => p.2
  | none => s.r a

/-- The copy with a word changed. -/
def stagePut (l : List (Nat × Word)) (a : Nat) (v : Word) : List (Nat × Word) :=
  (a, v) :: l.filter fun p => p.1 != a

/-- First entry and number of entries of a LANDING_TABLE_WRITE. -/
def ltFirst (c : Cmd) : Nat := leAt c.pay 12 2
def ltNum (c : Cmd) : Nat := leAt c.pay 14 2

/-- The staging copy after a part: covered entries take learned = 0 unless pos and window are the stored ones
(R161). -/
def stagePart (s : State) (c : Cmd) : List (Nat × Word) :=
  let l := stagePut (stagePut (stagePut s.prf.staging Reg.ltCfg
    (wOf (leAt c.pay 0 2 + 512 * leAt c.pay 2 1))) Reg.ltDeckOfs0 (wordAt c.pay 4)) Reg.ltDeckOfs1 (wordAt c.pay 8)
  (List.range (ltNum c)).foldl (fun l i =>
    let n := ltFirst c + i
    let p := wordAt c.pay (16 + 8 * i)
    let a := wordAt c.pay (20 + 8 * i)
    let same := s.r (Reg.ltPos n) == p && s.ltWindow n == fld a 0 19
    stagePut (stagePut l (Reg.ltPos n) p) (Reg.ltAttr n) (putBit a 24 (same && s.rb (Reg.ltAttr n) 24))) l

/-- An entry of a copy that R161 refuses. -/
def stagedEntryBad (s : State) (l : List (Nat × Word)) (count n : Nat) (dd : Bool) : Bool :=
  let pos := fun k => wInt (s.staged l (Reg.ltPos k))
  let win : Int := fld (s.staged l (Reg.ltAttr n)) 0 19
  let gapUp := if n + 1 < count then some (pos (n + 1) - pos n) else none
  let gapDn := if 0 < n then some (pos n - pos (n - 1)) else none
  let near := fun (g : Option Int) => match g with
    | some d => decide (d < 250000) || decide (d ≤ 2 * win)
    | none => false
  near gapUp || near gapDn || (win != 0 && (decide (win < 5000) || decide (300000 < win))) ||
    (!dd && fld (s.staged l (Reg.ltAttr n)) 22 2 != 0)

/-- Why a copy is refused: the byte offset in the payload (R161, R552). -/
def stageBad (s : State) (c : Cmd) (l : List (Nat × Word)) : Option Nat :=
  let count := fld (s.staged l Reg.ltCfg) 0 9
  let dd := bit (s.staged l Reg.ltCfg) 9
  if 256 < leAt c.pay 0 2 ∨ (ltNum c ≠ 0 ∧ count < ltFirst c + ltNum c) then some 0
  else if !dd ∧ s.staged l Reg.ltDeckOfs0 ≠ 0 then some 4
  else match (List.range count).find? fun n => s.stagedEntryBad l count n dd with
    | some n => some (if ltFirst c ≤ n ∧ n < ltFirst c + ltNum c then 16 + 8 * (n - ltFirst c) else 0)
    | none => none

/-- A copy becomes the live table; entries at or beyond its count read 0 (R159). -/
def stageApply (s : State) (l : List (Nat × Word)) : State :=
  let s := l.foldl (fun s p => s.w p.1 p.2) s
  let s := (List.range 256).foldl (fun s n =>
    if n < s.ltCount then s else (s.w (Reg.ltPos n) 0).w (Reg.ltAttr n) 0) s
  ((s.updPrf fun p => { p with staging := [] }).count Acct.landingTable).showDigest

/-! Orders (R163 to R170). -/

def slotState (s : State) (n : Nat) : Nat := s.rf (Reg.ordSlot n) 8 3
def setSlot (s : State) (n st : Nat) : State := s.wf (Reg.ordSlot n) 8 3 st
def slotLanding (s : State) (n : Nat) : Nat := s.rf (Reg.ordSlot n) 0 8
def slotDir (s : State) (n : Nat) : Nat := s.rf (Reg.ordSlot n) 11 2
def slotDeck (s : State) (n : Nat) : Nat := s.rf (Reg.ordSlot n) 13 1
def slotDoors (s : State) (n : Nat) : Nat := s.rf (Reg.ordSlot n) 14 2
def slotNumber (s : State) (n : Nat) : Nat := s.rf (Reg.ordSlot n) 16 16
def slotPos (s : State) (n : Nat) : Int := s.stopPos (s.slotLanding n) (s.slotDeck n)

/-- Slots in some of these states. -/
def slotsIn (s : State) (sts : List Nat) : List Nat := (List.range 64).filter fun n => sts.contains (s.slotState n)

/-- Slots whose order waits for a stop: neither FREE nor SERVED nor ARRIVED (R166). -/
def openSlots (s : State) : List Nat := s.slotsIn [1, 2, 3, 6]

/-- A position lies ahead of the car in direction `sg` (R167). -/
def isAhead (s : State) (sg : Int) (car pos : Int) : Bool := decide (s.levelTol < sg * (pos - car))

/-- An order ahead with this place and direction is eligible in direction `sg`; `others` are the positions of
the other orders (R167). -/
def eligibleAt (sg pos : Int) (dir : Nat) (others : List Int) : Bool :=
  dir == 0 || (dir == 1 && sg == 1) || (dir == 2 && sg == -1) || others.all fun p => decide (sg * (p - pos) ≤ 0)

/-- Slot n's order is ahead and eligible (R167). -/
def eligible (s : State) (sg : Int) (n : Nat) : Bool :=
  s.isAhead sg s.carposI (s.slotPos n) &&
    eligibleAt sg (s.slotPos n) (s.slotDir n) ((s.openSlots.filter (· != n)).map s.slotPos)

/-- The test of R173 at a position, speed and acceleration in the run direction. -/
def stoppable (s : State) (d v a : Rat) : Bool :=
  decide (stopDistance s.profDec s.profJerk v a + s.marginUm < d - 2 * v / 10000)

/-- The nearest of some slots; equal stop positions go to the lower slot (R167). -/
def nearest (s : State) (ns : List Nat) : Option Nat :=
  ns.foldl (fun (b : Option Nat) n =>
    match b with
    | some m => if (s.slotPos n - s.carposI).natAbs < (s.slotPos m - s.carposI).natAbs then some n else some m
    | none => some n) none

/-! The reference generator (R171, R177, R187; log 46). -/

/-- One sample: the speed moves towards `vt` at most at `acc` or `dec` with `jerk`, in steps of 1 us. -/
def trackStep (acc dec jerk vt : Rat) (x : Ref) : Ref :=
  let dt : Rat := 1 / 1000000
  let e := vt - x.v
  let lim := if ratAbs x.v < ratAbs vt then acc else dec
  let j : Rat :=
    if e = 0 then (if 0 < x.a then -jerk else if x.a < 0 then jerk else 0)
    else if 0 < e then
      (if 0 < x.a ∧ e ≤ x.a * x.a / (2 * jerk) then -jerk else if x.a < lim then jerk else 0)
    else
      (if x.a < 0 ∧ -e ≤ x.a * x.a / (2 * jerk) then jerk else if -lim < x.a then -jerk else 0)
  let a := ratClamp (-lim) lim (x.a + j * dt)
  let v := x.v + a * dt
  let passed := decide (0 < e) != decide (0 < vt - v)
  if passed ∧ ratAbs a ≤ 2 * jerk * dt then ⟨x.pos + vt * dt, vt, 0⟩ else ⟨x.pos + v * dt, v, a⟩

/-- The speed that a run may have now: vmax, the Comptroller's limit (R177, R251). -/
def runLimit (s : State) : Rat :=
  let vm : Rat := s.rf Reg.prfVmax 0 25
  let lim : Rat := (s.rf Reg.safeLimit 0 16 : Rat) * 1000
  let vm := if s.prf.relevel then min vm ((s.rf Reg.prfRelevel2 0 9 : Rat) * 1000) else vm
  if s.setValid then min vm lim else vm

/-- The speed in the run direction that the profile heads for: 0 from the stopping distance on. -/
def profileSpeed (s : State) (x : Ref) : Rat :=
  let sg : Rat := s.runSign
  match s.prf.tgt with
  | none => s.runLimit
  | some t =>
    let d := sg * ((t.pos : Rat) - x.pos)
    if d ≤ stopDistance s.profDec s.profJerk (sg * x.v) (sg * x.a) then 0 else s.runLimit

/-- One sample of a run's profile. -/
def profileStep (s : State) (x : Ref) : Ref :=
  trackStep s.profAcc s.profDec s.profJerk ((s.runSign : Rat) * s.profileSpeed x) x

/-- The trajectory 500 us on (R168). -/
def projected (s : State) : Ref :=
  (List.range 500).foldl (fun x _ => s.profileStep x) { s.prf.ref with pos := (s.carposI : Rat) }

/-- Run states in which a run with orders is in progress. -/
def inRun (s : State) : Bool := s.runState == 1 || s.runState == 2 || s.runState == 3

/-- Outcome of an ORDER_ADD for a place (R164, R168). -/
def orderOutcome (s : State) (landing deck dir : Nat) : Nat :=
  let pos := s.stopPos landing deck
  let here : Bool := match s.prf.stand with
    | some t => t.landing == landing && t.deck == deck
    | none => false
  if s.runState = 5 ∧ here then 4
  else if !s.inRun then 1
  else
    let x := s.projected
    let sg := s.runSign
    let car := ratRound x.pos
    if s.isAhead sg car pos && eligibleAt sg pos dir (s.openSlots.map s.slotPos) then
      (if s.stoppable ((sg : Rat) * ((pos : Rat) - x.pos)) ((sg : Rat) * x.v) ((sg : Rat) * x.a) then 0 else 2)
    else 1

/-- State code of each outcome: STOPPABLE, PENDING, PASSED, -, ARRIVED. -/
def outcomeState (o doors : Nat) : Nat :=
  match o with
  | 0 => 2
  | 2 => 6
  | 4 => if doors = 0 then 5 else 4
  | _ => 1

/-! Command rows (R560). -/

/-- Check 4 for the 0x03xx commands (R158). -/
def ordersRole (s : State) : Option Reply := s.roleReply Acct.profileEngine

/-- A configuration command of this family discards the staging copy (R560). -/
def dropStaging (s : State) : State := s.updPrf fun p => { p with staging := [] }

def landingTableWriteRow : CmdRow where
  opcode := 0x0301
  len := fun n => decide (16 ≤ n) && decide (n ≤ 256) && n % 8 == 0
  units := fun _ => [.profileEngine]
  pre := fun c s =>
    let attrs := (List.range (ltNum c)).find? fun i => masked 0xF7FFFF (wordAt c.pay (20 + 8 * i)) != wordAt c.pay (20 + 8 * i)
    firstOf [s.ordersRole, failIf (!c.argOnly 1) .badArg,
      failIf (decide (30 < ltNum c) || c.len != 16 + 8 * ltNum c) (.badParam 0xFFFFFF04),
      failIf (decide (511 < leAt c.pay 0 2)) (.badParam 0), failIf (decide (1 < leAt c.pay 2 1)) (.badParam 2),
      failIf (leAt c.pay 3 1 != 0) (.badParam 3),
      failIf (decide (256 < ltFirst c + ltNum c)) (.badParam 12),
      attrs.map fun i => .badParam (20 + 8 * i),
      s.lockReply Acct.landingTable,
      failIf (!s.runIdle || !(s.slotsIn [1, 2, 3, 4, 5, 6]).isEmpty) .badState]
  run := fun c s =>
    let l := s.stagePart c
    if c.argF 0 1 = 1 then
      let s := s.updPrf fun p => { p with staging := l }
      (s, some (.ok (s.r Reg.ltDigest)))
    else match s.stageBad c l with
      | some o => (s.dropStaging, some (.badParam o))
      | none =>
        let s := s.stageApply l
        (s, some (.ok (s.r Reg.ltDigest)))

/-- PROFILE_ENGINE off, the images written, on (R176). -/
def profileWrite (s : State) (a : Nat) (ws : List Word) : State :=
  ((s.setEn Acct.profileEngine false).dropStaging.wConfig a ws).setEn Acct.profileEngine true

def profileSetRow : CmdRow where
  opcode := 0x0302
  len := fun n => n == 24
  units := fun _ => [.profileEngine]
  pre := fun c s => firstOf [s.ordersRole, failIf (!c.argOnly 0) .badArg,
    imagesReply 0 Reg.prfVmax (wordsAt c.pay 0 6), s.lockReply Acct.profileEngine, failIf (!s.runIdle) .badState]
  run := fun c s => (s.profileWrite Reg.prfVmax (wordsAt c.pay 0 6), some (.ok 0))

def relevelConfigRow : CmdRow where
  opcode := 0x0307
  len := fun n => n == 8
  units := fun _ => [.profileEngine]
  pre := fun c s => firstOf [s.ordersRole, failIf (!c.argOnly 0) .badArg,
    imagesReply 0 Reg.prfRelevel (wordsAt c.pay 0 2), s.lockReply Acct.profileEngine, failIf (!s.runIdle) .badState]
  run := fun c s => (s.profileWrite Reg.prfRelevel (wordsAt c.pay 0 2), some (.ok 0))

/-- landing, deck, direction, doors of ORDER_ADD's arg. -/
def orderArg (c : Cmd) : Nat × Nat × Nat × Nat := (c.argF 0 8, c.argF 8 1, c.argF 9 2, c.argF 11 2)

/-- What R163 refuses with BAD_PARAM. -/
def orderArgBad (s : State) (c : Cmd) : Bool :=
  let (l, k, d, m) := orderArg c
  !c.argOnly 0x1FFF || d == 3 || decide (s.ltCount ≤ l) || (k == 1 && !s.doubleDeck) ||
    (s.landingSides l k &&& m) != m || (d == 1 && l + 1 == s.ltCount) || (d == 2 && l == 0)

/-- The existing order that a new one joins (R165); a cancelled order is none. -/
def duplicateOf (s : State) (l k d : Nat) : Option Nat :=
  (s.slotsIn [1, 2, 3, 4, 6]).find? fun n =>
    s.slotLanding n == l && s.slotDeck n == k && s.slotDir n == d && !s.prf.marks.contains n

def orderAddRow : CmdRow where
  opcode := 0x0303
  units := fun _ => [.profileEngine]
  pre := fun c s =>
    let (l, k, d, _) := orderArg c
    firstOf [s.ordersRole, failIf (s.orderArgBad c) .badArg, s.lockReply Acct.profileEngine,
      failIf (!s.en Acct.profileEngine || !s.rb Reg.prfDrive 31 || s.pwr != .run) .badState,
      failIf (s.cpt.st == .lockout || s.cpt.st == .restricted || s.runState == 7 || s.runState == 8) .inhibit,
      failIf ((s.slotsIn [0]).isEmpty && (s.duplicateOf l k d).isNone) .noSpace]
  run := fun c s =>
    let (l, k, d, m) := orderArg c
    match s.duplicateOf l k d with
    | some n =>
      let s := s.wf (Reg.ordSlot n) 14 2 (s.slotDoors n ||| m)
      (s, some (.ok (wOf (3 + n * 2 ^ 8 + s.slotNumber n * 2 ^ 16))))
    | none =>
      let n := (s.slotsIn [0]).headD 0
      let o := s.orderOutcome l k d
      let num := (s.prf.nextNumber + 1) % 65536
      let st := outcomeState o m
      let s := s.w (Reg.ordSlot n) (wOf (l + st * 2 ^ 8 + d * 2 ^ 11 + k * 2 ^ 13 + m * 2 ^ 14 + num * 2 ^ 16))
      let s := s.updPrf fun p =>
        { p with nextNumber := num, q7 := if o = 0 then p.q7 ++ [n] else p.q7 }
      let s := if o = 0 then s.qPosted 7 1 else s
      let s := if st = 5 then s.post Ev.orderServed n 0 else s
      (s, some (.ok (wOf (o + n * 2 ^ 8 + num * 2 ^ 16))))

def orderCancelRow : CmdRow where
  opcode := 0x0304
  urg := true
  units := fun _ => [.profileEngine]
  pre := fun c s =>
    let n := c.argF 0 6
    firstOf [s.ordersRole,
      failIf (!c.argOnly 0xFFFF003F || s.slotState n == 0 || s.slotState n == 5 || s.slotNumber n != c.argF 16 16) .badArg,
      s.lockReply Acct.profileEngine,
      failIf (s.slotState n == 3 || s.slotState n == 4) (.badState 3)]
  run := fun c s => (s.updPrf fun p => { p with marks := p.marks ++ [c.argF 0 6] }, some (.ok 0))

def orderListRow : CmdRow where
  opcode := 0x0305
  units := fun _ => [.profileEngine]
  pre := fun c s => firstOf [s.ordersRole, failIf (!c.argOnly 0x3F) .badArg]
  run := fun c s =>
    let all := (s.slotsIn [1, 2, 3, 4, 5, 6]).filter fun n => decide (c.argF 0 6 ≤ n)
    let part := all.take 30
    let next := (all.drop 30).headD 0xFFFF
    (s, some (.ok (wOf (part.length + next * 2 ^ 16))
      (part.flatMap fun n => leBytes 4 (s.r (Reg.ordSlot n)).toNat ++ leBytes 4 n)))

/-- Objects that a PRF_DRIVE image names: transmit, and receive with stat_en. -/
def driveTx (v : Word) : Nat := 128 * fld v 0 2 + fld v 4 7
def driveRx (v : Word) : Option Nat := if bit v 3 then some (128 * fld v 0 2 + fld v 11 7) else none

/-- An engine lets go of an object (R340). -/
def unbindObj (s : State) (j : Nat) : State :=
  let s := (s.disableObj j).wb (Reg.objCfg j) 9 false
  s.updCan (j / 128) fun c => { c with binds := c.binds.filter fun p => p.1 != j % 128 }

/-- An engine takes an object: its configuration, its identifier, enabled and bound (R184, R383). -/
def bindObj (s : State) (j : Nat) (cfg id : Word) : State :=
  let s := ((s.w (Reg.objCfg j) (putBit cfg 9 true)).w (Reg.objStat j) 0).updObj j fun _ => CanObj.init
  let s := s.w (Reg.objId j) (if bit cfg 0 then id else 0)
  let s := if bit cfg 0 then s else s.updCan (j / 128) fun c => { c with binds := c.binds ++ [(j % 128, id)] }
  (s.setEn (Acct.obj j) true).showMem (j / 128)

/-- The binding in force ends. -/
def unbindDrive (s : State) : State :=
  let s := match s.prf.txObj with
    | some j => s.unbindObj j
    | none => s
  let s := match s.prf.rxObj with
    | some j => s.unbindObj j
    | none => s
  (s.updPrf fun p => { p with txObj := none, rxObj := none, unsent := [], status := 0, statTill := none }).wb Reg.prfDrive 31 false

/-- DRIVE_BIND's objects configured: TX of 24 bytes, FD; RX of 8 bytes, KEEP_NEWEST (R184, R185). -/
def bindDrive (s : State) (v tx rx : Word) : State :=
  let s := s.unbindDrive.profileWrite Reg.prfDrive [v, tx, rx]
  let s := s.bindObj (driveTx v) (wOf (1 + 4 * 2 + 2 ^ 5 + (if bit v 18 then 2 ^ 6 else 0))) tx
  let s := match driveRx v with
    | some j => s.bindObj j 0 rx
    | none => s
  (s.updPrf fun p => { p with txObj := some (driveTx v), rxObj := driveRx v }).wb Reg.prfDrive 31 true

/-- An object that DRIVE_BIND may take: no FIFO, no other engine's. -/
def bindable (s : State) (j : Nat) : Option Reply :=
  if s.objEngine j ∧ s.prf.txObj ≠ some j ∧ s.prf.rxObj ≠ some j then some (.badState 5)
  else failIf (s.consolidated (Acct.obj j) || (s.headOf (Acct.obj j)).isSome) .badState

def driveBindRow : CmdRow where
  opcode := 0x0306
  len := fun n => n == 12
  units := fun c => [.profileEngine, .can (Fin.ofNat 4 (fld (wordAt c.pay 0) 0 2))]
  pre := fun c s =>
    let v := c.img 0
    let j := driveTx v
    let taken := (objsOf (fld v 0 2)).any fun m =>
      m != j && s.prf.txObj != some m && s.objTx m && busId (s.r (Reg.objId m)) == busId (c.img 1)
    firstOf [s.ordersRole, failIf (!c.argOnly 0) .badArg, imagesReply 0 Reg.prfDrive (wordsAt c.pay 0 3),
      failIf (!s.rb (Reg.canCfg (fld v 0 2)) 0 || driveRx v == some j) (.badParam 0),
      failIf taken (.badParam 4),
      s.lockReply Acct.profileEngine, failIf (!s.runIdle) .badState,
      s.bindable j, (driveRx v).bind s.bindable,
      failIf (decide (12288 < (s.bindDrive v (c.img 1) (c.img 2)).memUsed (fld v 0 2))) .noSpace]
  run := fun c s => (s.bindDrive (c.img 0) (c.img 1) (c.img 2), some (.ok 0))

end State

/-- LANDING_TABLE_WRITE (R161, R560). -/
def execLandingTableWrite (src : Src) (s : State) : Host.Outcome State Fault Refusal :=
  .next (s.runRow State.landingTableWriteRow src)

/-- PROFILE_SET (R176). -/
def execProfileSet (src : Src) (s : State) : Host.Outcome State Fault Refusal := .next (s.runRow State.profileSetRow src)

/-- ORDER_ADD (R163 to R168). -/
def execOrderAdd (src : Src) (s : State) : Host.Outcome State Fault Refusal := .next (s.runRow State.orderAddRow src)

/-- ORDER_CANCEL (R169). -/
def execOrderCancel (src : Src) (s : State) : Host.Outcome State Fault Refusal := .next (s.runRow State.orderCancelRow src)

/-- ORDER_LIST (R170). -/
def execOrderList (src : Src) (s : State) : Host.Outcome State Fault Refusal := .next (s.runRow State.orderListRow src)

/-- DRIVE_BIND (R184). -/
def execDriveBind (src : Src) (s : State) : Host.Outcome State Fault Refusal := .next (s.runRow State.driveBindRow src)

/-- RELEVEL_CONFIG (R176). -/
def execRelevelConfig (src : Src) (s : State) : Host.Outcome State Fault Refusal :=
  .next (s.runRow State.relevelConfigRow src)

end Sys2Proof.Machine
end

