-- ==== Sys2Proof/Machine/Runs.lean ====
section
/-! DEFINITION. Standing orders: the plan tick, the run sequence, the drive frames and levelling
(05_standing_orders.md R171 to R192). -/

namespace Sys2Proof.Machine

namespace State

/-! What the engine reads (R171 step 2). -/

/-- Outputs of the set with a role: 1 BRAKE, 2 CONTACTOR, 3 LOCAL. -/
def outsRole (s : State) (r : Nat) : List Nat := (List.range 8).filter fun j => s.outRole j == r

/-- OUT24+j is switched on. -/
def cptOn (s : State) (j : Nat) : Bool := nbit s.cpt.on j

/-- The EDM that the Comptroller read for OUT24+j agrees with `on` (R257). -/
def edmShows (s : State) (j : Nat) (on : Bool) : Bool :=
  match s.edmInput j with
  | some _ => s.rb Reg.safeEdm (8 + j) == !on
  | none => true

/-- Contactors energised, released; brake lifted, applied, by switch and EDM (R179, R180). -/
def rolesShow (s : State) (r : Nat) (on : Bool) : Bool := (s.outsRole r).all fun j => s.cptOn j == on && s.edmShows j on

/-- A door port's state code where it reports one; in MACHINE from the latest slice, and code 15 while the link
is down (R178, R232; log 47). -/
def portView (s : State) (n : Nat) : Option Nat :=
  if s.role = .machine then
    if s.linkOpen ∧ !s.link.slice.isEmpty then
      let c := fld (wordAt s.link.slice (38 + 4 * n)) 0 4
      if c = 15 then none else some c
    else some 15
  else if s.doorLive n then some (s.doorCode n) else none

/-- Every enabled door port reports CLOSED_LOCKED. -/
def doorsLocked (s : State) : Bool := [0, 1].all fun n => s.portView n == none || s.portView n == some 0

/-- Enabled ports that DOOR_CONFIG assigns to a deck and to a side of a mask (R189). -/
def portsFor (s : State) (deck mask : Nat) : List Nat :=
  ([0, 1] : List Nat).filter fun n => (s.portView n).isSome && s.rf (Reg.doorCfg n) 0 1 == deck &&
    nbit mask (s.rf (Reg.doorCfg n) 1 1)

/-- The SF-DZ bypass is active, as the Comptroller reports it: the CAR module's through the peer data (R188,
R253). -/
def bypassActive (s : State) : Bool :=
  if s.role = .machine then s.cpt.peerValid && nbit (leAt s.cpt.peer 2 1) 6 else s.cpt.bypass.isSome

/-- An input of FLD_FUNC at bit `lo`: own, or the peer's in the latest slice; nothing assigned reads 0 (R310). -/
def fldIn (s : State) (lo : Nat) : Bool :=
  let f := s.rf Reg.fldFunc lo 8
  if f % 64 = 63 then false
  else if 64 ≤ f then s.role == .machine && s.linkOpen && nbit (leAt s.link.slice 31 6) (f % 64)
  else s.inLevel f

def inspActive (s : State) : Bool := s.rb Reg.safeState 4
def recallActive (s : State) : Bool := s.rb Reg.safeState 5

def statEn (s : State) : Bool := s.rb Reg.prfDrive 3
def driveReady (s : State) : Bool := s.rb Reg.prfDrive 31 && (!s.statEn || s.prf.status % 2 == 1)
def driveRunning (s : State) : Bool := nbit s.prf.status 0 && nbit s.prf.status 1

/-- Fusion's source is FULL and mstat.valid = 1. -/
def sourceFull (s : State) : Bool := s.fus.source == 1 && s.mstatValid

/-- The lifecycle permits lift runs (R496). -/
def liftRuns (s : State) : Bool := s.life != 0 && s.life != 4

/-- The conditions of R178 beside the target and the safety state. -/
def startOk (s : State) : Bool := s.liftRuns && s.doorsLocked && s.sourceFull && s.driveReady && s.pwr == .run

/-- The conditions of R190 for the start and the course of a re-level. -/
def relevelOk (s : State) : Bool := s.liftRuns && s.bypassActive && s.sourceFull && s.driveReady && s.pwr == .run

/-! Run states (R181). -/

def setRun (s : State) (n : Nat) : State := (s.wf Reg.prfStat 0 4 n).wb Reg.prfStat 6 (n == 6)

/-- A bit of DRIVE_REF.cmd (R185). -/
def setDriveBit (s : State) (i : Nat) (b : Bool) : State := s.updPrf fun p => { p with cmd := nset p.cmd i b }

def setAskBypass (s : State) (b : Option Bypass) : State := s.updPrf fun p => { p with askBypass := b, askedAt := s.till }

def updLearn (s : State) (f : Learn → Learn) : State := { s with learn := s.learn.map f }

/-- The run ends: PASSED and STOPPABLE orders become PENDING (R164, R173). -/
def runEnded (s : State) : State := (s.slotsIn [2, 6]).foldl (fun s n => s.setSlot n 1) s

/-- Requests off, reference 0, no command bits. -/
def runOff (s : State) : State :=
  (s.updPrf fun p =>
    { p with askContactor := false, askLift := false, cmd := 0, seqStep := 0, timer := false, relevel := false,
             tgt := none, ref := { p.ref with v := 0, a := 0 } }).wb Reg.prfStat 7 false

/-- An abort (R182). -/
def abortRun (s : State) (cause : Nat) : State :=
  if !([1, 2, 3, 6, 7, 8] : List Nat).contains s.runState then s
  else
    let s := ((s.setFlt Acct.profileEngine 2).wf Reg.prfStat 24 4 cause).addF Reg.prfCnt 16 16 1
    let s := (s.slotsIn [3]).foldl (fun s n => s.setSlot n 2) s
    let s := (s.updPrf fun p => { p with tgt := none, timer := false, seqStep := 0 }).setDriveBit 3 true
    let s := s.setRun 9
    s.updLearn fun l => { l with lostFull := true }

/-- A start that is abandoned (R179). -/
def startFails (s : State) : State :=
  (s.runOff.setRun 0).fault Acct.profileEngine 5 Ev.startFail 0 0

/-- The engine sees a trip or a lockout (R183). -/
def inhibitRun (s : State) : State :=
  if s.runState = 10 then s
  else
    let s := (s.slotsIn [3, 4]).foldl (fun s n => s.setSlot n 1) s
    let s := (s.runEnded.runOff.setAskBypass none).wb Reg.prfStat 5 false
    let s := s.updLearn fun l => { l with lostFull := true }
    (s.updPrf fun p => { p with stand := none, openSent := [], askBrake := false, runWanted := false }).setRun 10

/-! Targets (R167, R173, R175). -/

def stopOf (s : State) (n : Nat) : Stop :=
  ⟨some n, s.slotLanding n, s.slotDeck n, s.slotDoors n, s.slotPos n, false⟩

/-- The target is committed: the engine plans from the car's place to end at its stop (R173). -/
def commit (s : State) (t : Stop) : State :=
  let s := s.updPrf fun p => { p with tgt := some { t with committed := true } }
  match t.slot with
  | some n => (s.setSlot n 3).post Ev.orderCommitted n t.landing
  | none => s

/-- The terminal guard of R175. -/
def terminalGuard (s : State) (v a : Rat) : State :=
  let sg := s.runSign
  let n := if s.runDown then 0 else s.ltCount - 1
  let pos := s.stopPos n 0
  let d : Rat := (sg : Rat) * ((pos : Rat) - (s.carposI : Rat))
  let before : Bool := match s.prf.tgt with
    | some t => t.committed && decide (sg * (t.pos - pos) ≤ 0)
    | none => false
  if s.ltCount = 0 ∨ s.stoppable d v a ∨ before then s
  else
    let s := s.updPrf fun p => { p with tgt := some ⟨none, n, 0, 0, pos, true⟩ }
    if s.rb Reg.prfStat 7 then s
    else (s.wb Reg.prfStat 7 true).fault Acct.profileEngine 7 Ev.terminalGuard 0 0

/-- Steps 1 to 3 of R173, then the new target and the guard. -/
def classify (s : State) : State :=
  let sg := s.runSign
  let v : Rat := ratClamp 0 1000000000 ((sg * s.carspdI : Int) : Rat)
  let a : Rat := ((sg * s.caraccI : Int) : Rat)
  let test := fun (s : State) (n : Nat) => s.stoppable ((sg : Rat) * ((s.slotPos n - s.carposI : Int) : Rat)) v a
  let e := s.openSlots.filter (s.eligible sg)
  let s := match s.prf.tgt with
    | some t => match t.slot with
      | some n => if !t.committed ∧ e.contains n ∧ !test s n then s.commit (s.stopOf n) else s
      | none => s
    | none => s
  let s := (s.slotsIn [1, 2, 6]).foldl (fun s n =>
    if !e.contains n then s.setSlot n 1
    else if test s n then s.setSlot n 2
    else if s.slotState n = 6 then s
    else (s.setSlot n 6).post Ev.orderPassed n (s.slotLanding n)) s
  let s := match s.prf.tgt with
    | some t => if t.committed then s else s.updPrf fun p => { p with tgt := (s.nearest (s.slotsIn [2])).map s.stopOf }
    | none => s.updPrf fun p => { p with tgt := (s.nearest (s.slotsIn [2])).map s.stopOf }
  s.terminalGuard v a

/-- The direction of the next run, true down (R167). -/
def nextDir (s : State) : Option Bool :=
  let up := s.openSlots.any fun n => s.isAhead 1 s.carposI (s.slotPos n)
  let dn := s.openSlots.any fun n => s.isAhead (-1) s.carposI (s.slotPos n)
  match s.prf.prevDir with
  | some d => if (if d then dn else up) then some d else if (if d then up else dn) then some !d else none
  | none =>
    (s.nearest (s.openSlots.filter fun n => s.isAhead 1 s.carposI (s.slotPos n) || s.isAhead (-1) s.carposI (s.slotPos n))).map
      fun n => decide (s.slotPos n < s.carposI)

/-- The eligible target of a run that could start now (R178). -/
def firstTarget (s : State) : Option (Bool × Nat) :=
  match s.nextDir with
  | some d => (s.nearest (s.openSlots.filter (s.eligible (if d then -1 else 1)))).map fun n => (d, n)
  | none => none

/-! Sequences (R179, R180). -/

/-- Steps of a start that wait for the Comptroller or the drive: 1 contactors, 2 drive, 4 brake. -/
def startAdvance (s : State) : State :=
  match s.prf.seqStep with
  | 1 => if s.rolesShow 2 true then (s.setDriveBit 0 true).updPrf fun p => { p with seqStep := 2 } else s
  | 2 => if (s.statEn && s.driveRunning) || (!s.statEn && s.prf.timer) then
      s.updPrf fun p => { p with seqStep := 3, timer := false } else s
  | 4 => if s.rolesShow 1 true then (s.setDriveBit 1 true).updPrf fun p => { p with seqStep := 5 } else s
  | _ => s

/-- Steps of a start that a plan tick takes: hold and brake lift, then the trajectory. -/
def startTick (s : State) : State :=
  let s := s.startAdvance
  match s.prf.seqStep with
  | 3 => (s.setDriveBit 4 true).updPrf fun p => { p with seqStep := 4, askLift := true }
  | 5 => ((s.setDriveBit 2 true).setDriveBit 4 false).updPrf fun p => { p with seqStep := 6 }
  | _ => s

/-- A start begins: contactors requested (R179 step 1). -/
def beginStart (s : State) (down relevel : Bool) : State :=
  (s.updPrf fun p =>
    { p with askContactor := true, askLift := false, askBrake := false, seqStep := 1, timer := false, cmd := 0,
             relevel := relevel, startTill := s.till, prevDir := if relevel then p.prevDir else some down,
             ref := ⟨(s.carposI : Rat), 0, 0⟩ }).wb Reg.prfStat 4 down

/-- Steps of a stop that wait for the Comptroller: 11 brake applied, 13 contactors released; 12 waits for
brake_hold. -/
def stopAdvance (s : State) : State :=
  match s.prf.seqStep with
  | 11 => if s.rolesShow 1 false then s.updPrf fun p => { p with seqStep := 12, timer := true } else s
  | 13 => if s.rolesShow 2 false then s.updPrf fun p => { p with seqStep := 14 } else s
  | _ => s

/-- A stop begins: reference 0, hold, brake apply requested (R180 step 1). -/
def beginStop (s : State) : State :=
  (s.setDriveBit 4 true).updPrf fun p =>
    { p with askLift := false, seqStep := 11, timer := false, ref := { p.ref with v := 0, a := 0 } }

/-- The Comptroller's confirmations reach the engine (R179, R180). -/
def seqAdvance (s : State) : State := if 11 ≤ s.prf.seqStep then s.stopAdvance else s.startAdvance

/-! Doors (R188, R189, R232, R362). -/

/-- A door open goes to the ports of a deck and mask, where requests can be issued now. -/
def issueOpen (s : State) (deck mask : Nat) : Option State :=
  let ps := s.portsFor deck mask
  if s.role = .machine then
    if s.lstate = 4 ∧ s.link.synced then
      some { s with link := { s.link with reqSeq := ps.foldl (fun l n => updAt l n fun v => (v + 1) % 256) s.link.reqSeq } }
    else none
  else some (ps.foldl (fun s n => s.updDoor n fun d => { d with reqs := d.reqs ++ [⟨0x0403, 0⟩] }) s)

/-- The door open of slot n, once (R189). -/
def openSlot (s : State) (n : Nat) : State :=
  if s.prf.openSent.contains n ∨ s.slotDoors n = 0 then s
  else match s.issueOpen (s.slotDeck n) (s.slotDoors n) with
    | some s => s.updPrf fun p => { p with openSent := p.openSent ++ [n] }
    | none => s

/-- ARRIVED orders become SERVED (R189). -/
def serve (s : State) : State :=
  (s.slotsIn [4]).foldl (fun s n =>
    let ps := (s.portsFor (s.slotDeck n) (s.slotDoors n)).map fun k => (s.portView k).getD 15
    let done := fun (d : Nat) =>
      ((s.setSlot n 5).updPrf fun p => { p with openSent := p.openSent.filter (· != n) }).post Ev.orderServed n d
    if s.slotDoors n = 0 then done 0
    else if !s.prf.openSent.contains n then s
    else if ps.any fun c => c == 8 || c == 9 then done 1
    else if ps.all fun c => c == 3 || c == 7 then done 0
    else s) s

/-- The bypass request and the early door open of a committed target (R188). -/
def advanceOpen (s : State) : State :=
  match s.prf.tgt with
  | some t =>
    let ado := s.rf Reg.prfSpeeds 16 10
    let win : Int := s.ltWindow t.landing
    let err := t.pos - s.carposI
    if !t.committed ∨ t.doors = 0 ∨ ado = 0 ∨ win = 0 ∨ win < err.natAbs then s
    else
      let s := if s.prf.askBypass.isSome then s
        else s.setAskBypass (some ⟨false, t.deck, nbit t.doors 0, nbit t.doors 1⟩)
      match t.slot with
      | some n =>
        if s.carspdI.natAbs ≤ ado * 1000 ∧ s.bypassActive ∧ !s.prf.openSent.contains n then
          let s := s.openSlot n
          if s.prf.openSent.contains n then s.wb Reg.prfStat 5 true else s
        else s
      | none => s
  | none => s

/-! The run states at a plan tick. -/

/-- PRF_ERR against the target or the landing where the car stands (R187). -/
def prfErr (s : State) : Int :=
  match s.prf.tgt, s.prf.stand with
  | some t, _ => t.pos - s.carposI
  | none, some t => t.pos - s.carposI
  | none, none => 0

/-- Causes that abort a run in progress (R182), lowest code first; 0 none. -/
def abortCause (s : State) (cond : Bool) : Nat :=
  if !s.mstatValid || s.fus.source == 0 then 1
  else if nbit s.prf.status 2 && s.statEn then 3
  else if !cond then 5 else 0

def tickIdle (s : State) : State :=
  if s.inspActive || s.recallActive then (s.updPrf fun p => { p with runWanted := false, seqStep := 0 }).setRun 7
  else
    let t := s.firstTarget
    let ok := t.isSome && s.startOk && s.en Acct.profileEngine
    let s := s.updPrf fun p => { p with runWanted := ok }
    match t with
    | some (d, n) =>
      if ok ∧ s.cpt.st = .runPermitted then
        let s := ((s.beginStart d false).setSlot n 2).updPrf fun p => { p with tgt := some (s.stopOf n), stand := none }
        ((s.wf Reg.prfStat 24 4 0).setRun 1).post Ev.runStart 0 (s.slotLanding n)
      else s
    | none => s

def tickStarting (s : State) : State :=
  match s.abortCause true with
  | 3 => s.abortRun 3
  | _ =>
    if !(s.startOk && s.cpt.st == .runPermitted) then s.startFails
    else
      let s := s.startTick
      if s.prf.seqStep = 6 then s.setRun 2 else s

/-- RUNNING and LEVELLING. With an advance opening under way the doors may be open (R182, R188). -/
def tickRunning (s : State) : State :=
  let doors := s.doorsLocked || (s.rb Reg.prfStat 5 && s.bypassActive)
  match s.abortCause (doors && s.driveReady && s.pwr == .run && s.cpt.st == .runPermitted) with
  | 0 =>
    let s := s.classify.advanceOpen
    match s.prf.tgt with
    | some t =>
      if !t.committed then s
      else
        let e := (t.pos - s.carposI).natAbs
        let s := if s.runState = 2 ∧ e ≤ 1000 * s.rf Reg.prfStop 16 8 then s.setRun 3 else s
        if s.runState = 3 ∧ (e : Int) ≤ s.levelTol ∧ s.zeroSpeed then
          let s := match t.slot with
            | some n => (s.setSlot n 4).post Ev.orderArrived n t.landing
            | none => s
          (s.beginStop.updPrf fun p => { p with stand := some t }).setRun 4
        else s
    | none => s
  | c => s.abortRun c

/-- STOPPING (R180). -/
def tickStopping (s : State) : State :=
  let s := s.stopAdvance
  let s := if 12 ≤ s.prf.seqStep then (s.slotsIn [4]).foldl openSlot s else s
  if s.prf.seqStep = 14 then
    let s := ((s.runOff.runEnded.setAskBypass none).wb Reg.prfStat 5 false).setRun 5
    ((s.updAud fun x => { x with runs := satN 65535 (x.runs + 1) }).count Acct.profileEngine).post Ev.runEnd 0 0
  else s

/-- The re-level conditions in DWELL (R190). -/
def tickRelevelWait (s : State) : State :=
  match s.prf.stand with
  | none => s
  | some t =>
    let e := s.prfErr.natAbs
    let off := decide (s.rf Reg.prfRelevel 0 15 < e)
    let s := s.updPrf fun p => { p with offSince := if off then some (p.offSince.getD s.till) else none }
    let long : Bool := match s.prf.offSince with
      | some x => decide (200000 * s.rf Reg.prfRelevel2 16 11 ≤ sub64 s.till x)
      | none => false
    if !long ∨ s.doorsLocked then s
    else if s.ltWindow t.landing < e then
      if s.hasFlt Acct.profileEngine 6 then s
      else (s.setAskBypass none).fault Acct.profileEngine 6 Ev.relevel 0 2
    else
      let sides := s.landingSides t.landing t.deck
      let s := if s.prf.askBypass.isSome then s
        else s.setAskBypass (some ⟨true, t.deck, nbit sides 0, nbit sides 1⟩)
      if s.relevelOk ∧ s.carspdI.natAbs ≤ 1000 * s.rf Reg.prfRelevel2 0 9 then
        let s := (s.beginStart (decide (s.prfErr < 0)) true).updPrf fun p => { p with tgt := some { t with committed := true } }
        (s.setRun 6).post Ev.relevel 0 0
      else s

/-- DWELL (R181, R189, R190). -/
def tickDwell (s : State) : State :=
  let s := s.serve
  let s := (s.slotsIn [4]).foldl openSlot s
  let none' : Bool := match s.prf.stand with
    | some t => t.doors == 0
    | none => true
  if (s.slotsIn [4]).isEmpty ∧ (s.doorsLocked ∨ none') then
    ((s.updPrf fun p => { p with stand := none, offSince := none }).setAskBypass none).runEnded.setRun 0
  else s.tickRelevelWait

/-- RELEVEL (R190). -/
def tickRelevel (s : State) : State :=
  if 11 ≤ s.prf.seqStep then
    let s := s.serve.stopAdvance
    if s.prf.seqStep = 14 then
      let st := s.prf.stand
      let s := (s.runOff.setAskBypass none).updPrf fun p => { p with stand := st, offSince := none }
      (s.setRun 5).post Ev.relevel 0 1
    else s
  else match s.abortCause s.relevelOk with
    | 0 =>
      let s := s.serve.startTick
      let w : Nat := match s.prf.stand with
        | some t => s.ltWindow t.landing
        | none => 0
      if w < s.prfErr.natAbs then ((s.setAskBypass none).fault Acct.profileEngine 6 Ev.relevel 0 2).beginStop
      else if s.prf.seqStep = 6 ∧ s.prfErr.natAbs ≤ s.rf Reg.prfRelevel 16 15 ∧ s.zeroSpeed then s.beginStop
      else s
    | c => s.abortRun c

/-- Direction that the inspection inputs ask for, where inspection or recall may move the car (R191, R252,
R264). -/
def inspWanted (s : State) : Int :=
  let active := s.inspActive || s.recallActive
  let barred := s.cpt.st == .restricted && s.rb Reg.safeState 13 && (s.inspActive || !s.recallActive)
  if !active || barred || !s.liftRuns then 0
  else if s.fldIn 0 && !s.fldIn 8 then 1
  else if s.fldIn 8 && !s.fldIn 0 then -1
  else 0

/-- The wind-down of an inspection or learn run: brake at zero speed, then contactors. -/
def windDown (s : State) : State :=
  match s.prf.seqStep with
  | 0 => s
  | 14 => s.runOff
  | n => if 11 ≤ n then
      let s := s.stopAdvance
      if s.prf.seqStep = 12 then ((s.setDriveBit 0 false).setDriveBit 2 false).updPrf fun p =>
        { p with askContactor := false, timer := false, seqStep := 13 } else s
    else if s.prf.ref.v = 0 ∧ s.zeroSpeed then s.beginStop else s

/-- INSPECTION (R191). -/
def tickInspection (s : State) : State :=
  match s.abortCause (s.driveReady && s.pwr == .run) with
  | 0 =>
    let w := s.inspWanted
    if s.prf.seqStep = 0 then
      if w ≠ 0 then s.beginStart (w == -1) false
      else if s.inspActive || s.recallActive then s else s.setRun 0
    else if w = 0 ∨ 11 ≤ s.prf.seqStep ∨ (w ≠ s.runSign) then s.windDown
    else s.startTick
  | c => if s.prf.seqStep = 0 then (if s.inspActive || s.recallActive then s else s.setRun 0) else s.abortRun c

/-- The terminal stopping input of the run direction has opened (R192). -/
def terminalOpen (s : State) : Bool := !s.fldIn (if s.runDown then 24 else 16)

/-- LEARN (R192). -/
def tickLearn (s : State) : State :=
  match s.abortCause (s.driveReady && s.pwr == .run && s.cpt.st == .runPermitted) with
  | 0 =>
    let s := if s.fus.source = 1 then s else s.updLearn fun l => { l with lostFull := true }
    let lost : Bool := match s.learn with
      | some l => l.lostFull
      | none => true
    if s.prf.seqStep = 0 then (if s.learn.isNone then s.setRun 0 else s)
    else if s.prf.seqStep < 6 then s.startTick
    else if (s.terminalOpen ∨ lost) ∧ s.prf.ref.v = 0 ∧ s.zeroSpeed then
      (s.updLearn fun l => { l with atEnd := s.terminalOpen }).windDown
    else if 11 ≤ s.prf.seqStep then s.windDown else s
  | c => s.abortRun c

/-- ABORT (R181, R182). -/
def tickAbort (s : State) : State :=
  if s.prf.ref.v = 0 ∧ s.zeroSpeed then
    let s := s.updPrf fun p => { p with askLift := false }
    if s.rolesShow 1 false then
      let s := ((s.runOff.setAskBypass none).wb Reg.prfStat 5 false).runEnded
      (s.setRun 0).post Ev.runEnd 0 1
    else s
  else s

/-- The registers of a completed plan (R171 step 4, R193). -/
def publishPlan (s : State) : State :=
  let sg : Rat := s.runSign
  let d := stopDistance s.profDec s.profJerk (ratClamp 0 1000000000 (sg * (s.carspdI : Rat))) (sg * (s.caraccI : Rat)) + s.marginUm
  let s := s.w Reg.prfStopdist (wOf (ratRound d).toNat)
  let s := match s.prf.tgt, s.prf.stand with
    | some t, _ => (((s.w Reg.prfTarget (wOfInt t.pos)).wf Reg.prfStat 8 8 t.landing).wf Reg.prfStat 16 6 (t.slot.getD 0)).wb
        Reg.prfStat 23 t.committed
    | none, some t => (s.w Reg.prfTarget (wOfInt t.pos)).wb Reg.prfStat 23 false
    | none, none => s.wb Reg.prfStat 23 false
  let s := (s.wb Reg.prfStat 22 s.prf.tgt.isSome).w Reg.prfErr (wOfInt s.prfErr)
  (s.wTill Reg.prfTillL Reg.prfTillH (s.till / 20000 * 20000)).updPrf fun p =>
    { p with ref := { p.ref with pos := (s.carposI : Rat) } }

/-- Q7 is taken in, cancelled and served slots become FREE (R166, R169, R171). -/
def takeIn (s : State) : State :=
  let s := (s.slotsIn [5]).foldl (fun s n => s.w (Reg.ordSlot n) 0) s
  let gone := s.prf.marks.filter fun n => [1, 2, 6].contains (s.slotState n)
  let s := gone.foldl (fun s n => s.w (Reg.ordSlot n) 0) s
  let lost : Bool := match s.prf.tgt with
    | some t => t.slot.any fun n => gone.contains n
    | none => false
  s.updPrf fun p => { p with q7 := [], marks := [], tgt := if lost then none else p.tgt }

/-- A completed plan (R171, R181). -/
def plan (s : State) : State :=
  let s := s.takeIn.updPrf fun p => { p with misses := 0 }
  let s := { s with cpt := { s.cpt with renewed := true } }
  let s :=
    if s.cpt.st = .tripped ∨ s.cpt.st = .lockout then s.inhibitRun
    else match s.runState with
      | 0 => s.tickIdle
      | 1 => s.tickStarting
      | 2 => s.tickRunning
      | 3 => s.tickRunning
      | 4 => s.tickStopping
      | 5 => s.tickDwell
      | 6 => s.tickRelevel
      | 7 => s.tickInspection
      | 8 => s.tickLearn
      | 9 => s.tickAbort
      | _ => if s.cpt.st = .ready ∨ s.cpt.st = .runPermitted then s.setRun 0 else s
  s.publishPlan

/-- A plan that has not been published in time (R174). -/
def planMissed (s : State) : State :=
  let first := s.prf.misses == 0
  let s := (s.updPrf fun p => { p with misses := p.misses + 1 }).addF Reg.prfCnt 0 16 1
  if first then s.fault Acct.profileEngine 1 Ev.prfOverrun 0 0 else s.setFlt Acct.profileEngine 1

/-- The engine plans: it runs here, firmware up, not in HUSH. -/
def plans (s : State) : Bool :=
  s.rst.phase == .running && s.runs Acct.profileEngine && s.pwr != .hush

/-! The reference (R171, R177, R187, R191, R192). -/

/-- One sample of the reference in the present run state. -/
def refSample (s : State) : Ref :=
  let x := s.prf.ref
  let track := fun (vt : Rat) => trackStep s.profAcc s.profDec s.profJerk vt x
  let moving := s.prf.seqStep == 6
  match s.runState with
  | 2 => s.profileStep x
  | 3 =>
    let e : Rat := s.prfErr
    let t := ratAbs (s.profileStep x).v
    let lim := min t (min (Config.sqrt (2 * s.profDec * ratAbs e)) (10 * ratAbs e))
    { track (if e < 0 then -lim else lim) with a := 0 }
  | 6 => if moving then s.profileStep x else ⟨x.pos, 0, 0⟩
  | 7 =>
    let w := s.inspWanted
    let sg := s.runSign
    let n := if s.runDown then 0 else s.ltCount - 1
    let room : Rat := (sg : Rat) * ((s.stopPos n 0 : Rat) - (s.carposI : Rat))
    let stop := decide (s.ltCount ≠ 0) && decide (room ≤ stopDistance s.profDec s.profJerk ((sg : Rat) * x.v) ((sg : Rat) * x.a))
    track (if moving && w == sg && !stop then (sg : Rat) * ((s.rf Reg.prfSpeeds 0 10 : Rat) * 1000) else 0)
  | 8 =>
    let v : Nat := match s.learn with
      | some l => if l.lostFull || s.terminalOpen then 0 else l.speed
      | none => 0
    track (if moving then (s.runSign : Rat) * (v : Rat) * 1000 else 0)
  | 9 => track 0
  | _ => ⟨x.pos, 0, 0⟩

/-! The drive (R184 to R186). -/

/-- Drive period in Till counts. -/
def drivePeriod (s : State) : Nat := if s.rb Reg.prfDrive 2 then 200000 else 100000

/-- The payload of DRIVE_REF (R185). -/
def driveFrame (s : State) : List Byte :=
  leBytes 4 (s.r Reg.prfSref).toNat ++ leBytes 4 (s.r Reg.prfAref).toNat ++ leBytes 8 s.till ++
    leBytes 4 (s.r Reg.carpos).toNat ++ leBytes 1 s.prf.cmd ++ leBytes 1 s.prf.seq ++ leBytes 2 0

/-- The drive is lost (R186). -/
def driveIsLost (s : State) : State :=
  let s := s.fault Acct.profileEngine 3 Ev.driveLost 0 0
  let s := s.updPrf fun p => { p with unsent := [], statTill := none, askBrake := true, askLift := false }
  s.abortRun 2

/-- A DRIVE_STAT frame (R182, R185). -/
def driveStatus (s : State) (bs : List Byte) : State :=
  let st := leAt bs 0 1
  let s := s.updPrf fun p => { p with status := st, statTill := some s.till }
  let s := s.wf Reg.prfDriveFault 0 16 (leAt bs 2 2)
  let s := if nbit st 2 then
      (if s.hasFlt Acct.profileEngine 4 then s else s.fault Acct.profileEngine 4 Ev.driveFault 0 0).abortRun 3
    else s
  if [1, 6, 7, 8].contains s.runState ∧ s.prf.seqStep < 6 then s.startAdvance else s

end State

/-- A plan tick (R171, R174). -/
def execPlanTick (missed : Bool) (s : State) : Host.Outcome State Fault Refusal :=
  .next (if s.plans then (if missed then s.planMissed else s.plan) else s)

/-- Ten missed plans in a row (R174). -/
def execPlanMissAbort (s : State) : Host.Outcome State Fault Refusal :=
  .next (if s.plans ∧ 10 ≤ s.prf.misses then s.abortRun 4 else s)

/-- A reference sample (R171). -/
def execReferenceSample (s : State) : Host.Outcome State Fault Refusal :=
  .next (if s.plans then
    let x := s.refSample
    let s := s.updPrf fun p => { p with ref := x }
    (s.w Reg.prfSref (wOfInt (ratRound x.v))).w Reg.prfAref (wOfInt (ratRound x.a))
  else s)

/-- 3 000 ms have passed in STARTING (R179). -/
def execStartFail (s : State) : Host.Outcome State Fault Refusal :=
  .next (if s.plans ∧ s.runState = 1 then s.startFails else s)

/-- start_delay has passed (R179 step 3). -/
def execStartDelayExpiry (s : State) : Host.Outcome State Fault Refusal :=
  .next (if s.plans ∧ s.prf.seqStep = 2 ∧ !s.statEn then
    (s.updPrf fun p => { p with timer := true }).startAdvance else s)

/-- brake_hold has passed (R180 step 3). -/
def execBrakeHoldExpiry (s : State) : Host.Outcome State Fault Refusal :=
  .next (if s.plans ∧ s.prf.seqStep = 12 ∧ s.prf.timer then
    ((s.setDriveBit 0 false).setDriveBit 2 false).updPrf fun p =>
      { p with timer := false, askContactor := false, seqStep := 13 } else s)

/-- 500 ms have passed with the RELEVEL request not granted (R190). -/
def execRelevelBypassTimeout (s : State) : Host.Outcome State Fault Refusal :=
  .next (if s.plans ∧ s.runState = 5 ∧ (s.prf.askBypass.any fun b => b.relevel) ∧ !s.bypassActive then
    ((s.setAskBypass none).updPrf fun p => { p with offSince := some s.till }).fault Acct.profileEngine 6 Ev.relevel 0 2
  else s)

/-- DRIVE_REF is queued at a drive period (R184, R185). -/
def execDriveRef (s : State) : Host.Outcome State Fault Refusal :=
  .next (match s.prf.txObj with
    | some j =>
      if s.plans ∧ s.en (Acct.obj j) then
        let s := (s.request2 j 0 24 s.driveFrame)
        s.updPrf fun p => { p with unsent := p.unsent ++ [(p.seq, s.till)], seq := (p.seq + 1) % 256 }
      else s
    | none => s)

/-- A DRIVE_STAT frame waits in its object (R185). -/
def execDriveStat (s : State) : Host.Outcome State Fault Refusal :=
  .next (match s.prf.rxObj with
    | some j =>
      if s.plans ∧ s.objIs j 0 then (s.wb (Reg.objStat j) 0 false).driveStatus (s.dataBytes j 8) else s
    | none => s)

/-- A DRIVE_REF frame stays unconfirmed for two periods, or DRIVE_STAT stays away for three (R186). -/
def execDriveLost (s : State) : Host.Outcome State Fault Refusal :=
  .next (if s.plans ∧ s.rb Reg.prfDrive 31 ∧ (s.prf.unsent ≠ [] ∨ (s.statEn ∧ nbit s.prf.cmd 0)) then s.driveIsLost else s)

end Sys2Proof.Machine
end

