-- ==== Sys2Proof/Machine/Params.lean ====
section
/-! DEFINITION. The parameter store: which words are parameters, their factory values, the image and the
committed copies (R10 class P, R523, R534, R557, R558). -/

namespace Sys2Proof.Machine

/-- The bytes of a 256-bit number, most significant first. -/
def beBytes (n v : Nat) : List Byte := (leBytes n v).reverse

def sha256 (bs : List Byte) : List Byte := beBytes 32 (Config.sha256 bs).toNat

namespace Acct

/-- The base of the account whose register space the word at `a` belongs to. The Field tables lie apart from
their accounts (R278), and so does the landing table (R193). -/
def ofWord (a : Nat) : Nat :=
  if 0x7100 ≤ a ∧ a < 0x71C0 then State.inBase ((a - 0x7100) / 4)
  else if 0x71C0 ≤ a ∧ a < 0x71E0 then sp ((a - 0x71C0) / 4)
  else if 0x71E0 ≤ a ∧ a < 0x71F0 then tpc ((a - 0x71E0) / 4)
  else if 0x7200 ≤ a ∧ a < 0x7280 then State.outBase ((a - 0x7200) / 4)
  else if 0x4800 ≤ a ∧ a < 0x5000 then landingTable
  else if 0x8000 ≤ a ∧ a < 0xC000 then
    if a < 0x8020 ∨ a % 0x1000 < 0x20 then can else canc ((a - 0x8020) / 0x1000)
  else (rows.map fun r =>
      if r.base ≤ a then
        (if r.stride = 0 then r.base else r.base + r.stride * min ((a - r.base) / r.stride) (r.count - 1))
      else 0).foldl max 0

/-- The class P bits of an account's ACC_CTL (R17): en, consolidate of a head, and the class bits. The device, the
queues and the filter lists have no writable field. -/
def ctlPar (b : Nat) : Nat :=
  if b = 0 ∨ (0x1100 ≤ b ∧ b < 0x1500) ∨ (0x6000 ≤ b ∧ b < 0x7000) ∨ 0x140000 ≤ b ∧ b < 0x160000 then 0
  else match find b with
    | some (r, i) =>
      1 + (if r.cons && State.mayHead b then 2 else 0) + (if r.cls = 0x144 ∧ i % 2 = 1 then 0 else r.ctl)
    | none => 0

end Acct

namespace Param

/-- The word that a parameter index names (R557). -/
def addr (i : Nat) : Nat :=
  if i < 0x8000 then 4 * i
  else
    let n := (i - 0x8000) / 0x400
    let k := (i - 0x8000) % 0x400 % 0x200 / 4
    let w := (i - 0x8000) % 4
    if (i - 0x8000) % 0x400 < 0x200 then
      (if w = 0 then Reg.objCfg (128 * n + k) else if w = 1 then Reg.objId (128 * n + k) else Acct.obj (128 * n + k) + 8)
    else
      (if w = 0 then Reg.feA (128 * n + k) else if w = 1 then Reg.feB (128 * n + k)
       else if w = 2 then Reg.feC (128 * n + k) else Acct.fe (128 * n + k) + 8)

/-- Class P bits of a word; the safety parameter set's own registers are outside the index space (R557). -/
def mask (a : Nat) : Nat :=
  if 0x6000 ≤ a ∧ a < 0x7000 then 0
  else if a % 0x20 = 8 ∧ (Acct.find (a - 8)).isSome then Acct.ctlPar (a - 8)
  else match Reg.find a with
    | some r => r.par
    | none => 0

/-- Indexes 0x8000 to 0x8FFF name CAN words; w = 3 of an object names nothing. -/
def isParam (i : Nat) : Bool :=
  (decide (i < 0x8000) || (decide (i < 0x9000) && !((i - 0x8000) % 0x400 < 0x200 && i % 4 == 3))) && mask (addr i) != 0

/-- Factory values (R523): the registers' reset values, and en = 1 for the Host domain (R60), the Field accounts
(R277) and the PURSE accounts (R416). -/
def factoryAt (a : Nat) : Word :=
  if a % 0x20 = 8 ∧ (Acct.find (a - 8)).isSome then
    (if a - 8 = Acct.host ∨ (0x7000 ≤ a ∧ a < 0x8000) ∨ (Acct.purse 0 ≤ a ∧ a < Acct.clockMonitor) then 1#32 else 0#32)
  else masked (mask a) (Reg.resetOf a)

def factory (i : Nat) : Word := if isParam i then factoryAt (addr i) else 0

/-- Every parameter, ascending. -/
def all : List Nat := (List.range 0x9000).filter isParam

/-- What the fields of one word state by themselves (R558). -/
def wordOk (i : Nat) (v : Word) : Bool := Ranges.ok (addr i) v

/-- The landing table and the learned door values (R558). -/
def learned (a : Nat) : Bool :=
  (decide (0x4120 ≤ a) && decide (a < 0x412C)) || (decide (0x4800 ≤ a) && decide (a < 0x5000)) ||
    ((decide (0x5160 ≤ a) && decide (a < 0x51B0)) || (decide (0x5360 ≤ a) && decide (a < 0x53B0)))

end Param

namespace State

def updPar (s : State) (f : Par → Par) : State := { s with par := f s.par }

/-- The newer valid copy; with none, the factory values. -/
def parNewest (s : State) : ParCopy :=
  if s.par.a.valid && (!s.par.b.valid || decide (s.par.b.count ≤ s.par.a.count)) then s.par.a
  else if s.par.b.valid then s.par.b
  else ⟨true, 0, []⟩

def imageAt (s : State) (i : Nat) : Word := Sparse.get Param.factory s.par.image i
def committedAt (s : State) (i : Nat) : Word := Sparse.get Param.factory s.parNewest.words i

/-- SHA-256 over the committed parameters: index, then value (R558). -/
def parDigest (s : State) : List Byte :=
  sha256 (Param.all.flatMap fun i => leBytes 2 i ++ leBytes 4 (s.committedAt i).toNat)

/-- The image goes into the copy that is not the newer one (R534); a failed program spoils that copy. -/
def commitImage (s : State) (ok : Bool) : State :=
  let c : ParCopy := ⟨ok, s.parNewest.count + 1, if ok then s.par.image else []⟩
  if s.par.a.valid && (!s.par.b.valid || decide (s.par.b.count ≤ s.par.a.count)) then s.updPar fun p => { p with b := c }
  else s.updPar fun p => { p with a := c }

/-- The live values of some words enter the image and the committed store, and nothing else does (R161, R231). -/
def commitWords (s : State) (as : List Nat) (ok : Bool) : State :=
  let put := fun (m : List (Nat × Word)) => as.foldl (fun m a =>
    Sparse.set Param.factory m (a / 4) (masked (Param.mask a) (s.r a))) m
  let c : ParCopy := ⟨ok, s.parNewest.count + 1, if ok then put s.parNewest.words else []⟩
  let s := s.updPar fun p => { p with image := put p.image }
  if s.par.a.valid && (!s.par.b.valid || decide (s.par.b.count ≤ s.par.a.count)) then s.updPar fun p => { p with b := c }
  else s.updPar fun p => { p with a := c }

/-- The completion of a commit. -/
def commitReply (s : State) (ok : Bool) : Reply :=
  if ok then .ok (wOf s.parNewest.count) s.parDigest else .hwFault 0

/-- The account of a parameter is locked by the Comptroller (R557), or by the lifecycle (R19). -/
def paramLock (s : State) (i : Nat) : Option Reply := s.lockReply (Acct.ofWord (Param.addr i))

/-- The live value of a parameter's class P bits. -/
def liveParam (s : State) (i : Nat) : Word :=
  masked (Param.mask (Param.addr i)) (s.r (Param.addr i))

/-- Car stationary (R248). -/
def stationary (s : State) : Bool := s.rb Reg.safeState 10

def paramReadRow : CmdRow where
  opcode := 0x0101
  pre := fun c _ =>
    let i := c.argF 0 16
    let n := c.argF 16 7
    failIf (!c.argOnly 0x17FFFFF || decide (n = 0) || decide (64 < n) ||
      !(List.range n).all fun k => Param.isParam (i + k)) .badArg
  run := fun c s =>
    let i := c.argF 0 16
    let ws := (List.range (c.argF 16 7)).map fun k =>
      if c.argF 24 1 = 1 then s.committedAt (i + k) else s.imageAt (i + k)
    (s, some (.ok 0 (wordsBytes ws)))

def paramWriteRow : CmdRow where
  opcode := 0x0102
  len := fun n => decide (4 ≤ n) && decide (n ≤ 256) && n % 4 == 0
  pre := fun c s =>
    let i := leAt c.pay 0 2
    let n := leAt c.pay 2 2
    let cap := c.argF 0 1 == 1
    let ks := List.range n
    firstOf [failIf (decide (n ≤ 63) && decide (c.len ≠ 4 + (if cap then 0 else 4 * n))) (.badParam 0xFFFFFF04),
      s.lifeReply [0, 1, 2, 3], failIf (!c.argOnly 1) .badArg,
      failIf (!(ks.take 64).all fun k => Param.isParam (i + k)) (.badParam 0),
      failIf (decide (n = 0) || decide (63 < n)) (.badParam 2),
      firstOf (ks.map fun k =>
        let v := if cap then s.liveParam (i + k) else masked (Param.mask (Param.addr (i + k))) (c.img (1 + k))
        failIf (!Param.wordOk (i + k) v) (.badParam (if cap then 0 else 4 + 4 * k))),
      firstOf (ks.map fun k => s.paramLock (i + k))]
  run := fun c s =>
    let i := leAt c.pay 0 2
    let n := leAt c.pay 2 2
    let s := (List.range n).foldl (fun s k =>
      let v := if c.argF 0 1 = 1 then s.liveParam (i + k) else masked (Param.mask (Param.addr (i + k))) (c.img (1 + k))
      s.updPar fun p => { p with image := Sparse.set Param.factory p.image (i + k) v }) s
    (s, some (.ok (wOf n)))

def paramCommitRow (programOk : Bool) : CmdRow where
  opcode := 0x0103
  long := true
  units := fun _ => [.paramStore]
  pre := fun c s => firstOf [s.lifeReply [0, 1, 2, 3], failIf (!c.argOnly 0) .badArg]
  run := fun _ s =>
    let s := s.commitImage programOk
    (s, some (s.commitReply programOk))

def paramDigestRow : CmdRow where
  opcode := 0x0104
  pre := fun c _ => failIf (!c.argOnly 0) .badArg
  run := fun _ s =>
    let differ := if s.par.image = s.parNewest.words then 0 else 1
    (s, some (.ok 0 (s.parDigest ++ leBytes 4 Param.all.length ++ leBytes 4 s.parNewest.count ++ leBytes 4 differ)))

def paramDefaultsRow (programOk : Bool) : CmdRow where
  opcode := 0x0105
  long := true
  units := fun _ => [.paramStore]
  pre := fun c s =>
    firstOf [s.lifeReply [0, 1, 3], failIf (s.life == 3 && !s.loginHere c) (.denied 0x11),
      failIf (!c.argOnly 1) .badArg, failIf (c.argF 0 1 == 1 && !s.stationary) .badState]
  run := fun c s =>
    let kept := if c.argF 0 1 = 1 then s.par.image.filter fun x => Param.learned (Param.addr x.1) else []
    let s := (s.updPar fun p => { p with image := kept }).commitImage programOk
    (s, some (s.commitReply programOk))

end State

/-- PARAM_READ (R557, R558). -/
def execParamRead (src : Src) (s : State) : Host.Outcome State Fault Refusal := .next (s.runRow State.paramReadRow src)

/-- PARAM_WRITE (R557, R558). -/
def execParamWrite (src : Src) (s : State) : Host.Outcome State Fault Refusal := .next (s.runRow State.paramWriteRow src)

/-- PARAM_COMMIT (R534, R558); `programOk`: the program step verified. -/
def execParamCommit (src : Src) (programOk : Bool) (s : State) : Host.Outcome State Fault Refusal :=
  .next (s.runRow (State.paramCommitRow programOk) src)

/-- PARAM_DIGEST (R558). -/
def execParamDigest (src : Src) (s : State) : Host.Outcome State Fault Refusal := .next (s.runRow State.paramDigestRow src)

/-- PARAM_DEFAULTS (R523, R558). -/
def execParamDefaults (src : Src) (programOk : Bool) (s : State) : Host.Outcome State Fault Refusal :=
  .next (s.runRow (State.paramDefaultsRow programOk) src)

end Sys2Proof.Machine
end

