-- ==== Sys2Proof/Machine/Sets.lean ====
section
/-! DEFINITION. The safety parameter set: its layout, its checks in order, and its application (07_comptroller.md
R246, R265 to R268, R596). -/

namespace Sys2Proof.Machine

namespace SafeSet

/-- Bytes and fields of a set. -/
def b (t : List Byte) (o : Nat) : Nat := leAt t o 1
def u16 (t : List Byte) (o : Nat) : Nat := leAt t o 2

/-- A field whose 0 stands for its default (R266). -/
def orDefault (d v : Nat) : Nat := if v = 0 then d else v

def osLimit (t : List Byte) : Nat := u16 t 8
def tsDec (t : List Byte) : Nat := u16 t 10
def tsFloor (t : List Byte) : Nat := orDefault 300 (u16 t 12)
def tsZone (t : List Byte) : Nat := orDefault 30000 (u16 t 14)
def posTop (t : List Byte) : Int := wInt (wordAt t 16)
def posBottom (t : List Byte) : Int := wInt (wordAt t 20)
def inspLimit (t : List Byte) : Nat := orDefault 300 (u16 t 24)
def learnLimit (t : List Byte) : Nat := orDefault 500 (u16 t 26)
def adoLimit (t : List Byte) : Nat := u16 t 28
def relevelLimit (t : List Byte) : Nat := orDefault 300 (u16 t 30)
def ucmSpeed (t : List Byte) : Nat := orDefault 100 (u16 t 32)
def brCreep (t : List Byte) : Nat := orDefault 10 (b t 34)
def spTol (t : List Byte) : Nat := orDefault 5 (b t 35)
def parkDelay (t : List Byte) : Nat := orDefault 20 (u16 t 36)
def maxAge (t : List Byte) : Nat := orDefault 50 (u16 t 38)
def wdPeriod (t : List Byte) : Nat := orDefault 20 (u16 t 40)

/-- Checkpoint entry i: its pair, tolerance in mm and position. -/
def cpPair (t : List Byte) (i : Nat) : Nat := b t (44 + 8 * i)
def cpTol (t : List Byte) (i : Nat) : Nat := orDefault 20 (u16 t (46 + 8 * i))
def cpPos (t : List Byte) (i : Nat) : Int := wInt (wordAt t (48 + 8 * i))

def tEdm (t : List Byte) (j : Nat) : Nat := orDefault 100 (u16 t (100 + 2 * j))

/-- Configuration words. -/
def words (t : List Byte) : Nat := u16 t 116
def wIdx (t : List Byte) (i : Nat) : Nat := u16 t (120 + 8 * i)
def wVal (t : List Byte) (i : Nat) : Word := wordAt t (124 + 8 * i)

/-- The value that the set names for the word at `a`. -/
def named (t : List Byte) (a : Nat) : Option Word :=
  (((List.range (words t)).filter fun i => Param.addr (wIdx t i) == a).getLast?).map (wVal t)

/-- A field refused at its offset unless `ok`. -/
def need (ok : Bool) (o : Nat) : Option Nat := if ok then none else some o

def firstBad : List (Option Nat) → Option Nat
  | [] => none
  | some o :: _ => some o
  | none :: r => firstBad r

/-- In [lo, hi], or 0 for the default. -/
def zeroOr (lo hi v : Nat) : Bool := v == 0 || Ranges.within lo hi v

/-- An input that a pair of the set uses. -/
def inPair (t : List Byte) (n : Nat) : Bool := decide (32 ≤ n) && b t (76 + (n - 32) / 2) != 0

/-- Steps 2 to 4 of R596, after the CRC. -/
def checkHead (role : Nat) (t : List Byte) : Option Nat :=
  firstBad [need (decide (124 ≤ t.length) && u16 t 0 == 1) 0, need (b t 2 == role) 2,
    need (u16 t 6 == t.length && decide (t.length ≤ 1020) && u16 t 6 == 124 + 8 * words t && decide (words t ≤ 112)) 6]

/-- Step 5 for the fields before the words. -/
def checkFields (t : List Byte) : Option Nat :=
  firstBad ([need (b t 3 == 0) 3, need (Ranges.within 110 27500 (osLimit t)) 8, need (Ranges.within 100 2500 (tsDec t)) 10,
    need (zeroOr 50 800 (u16 t 12)) 12, need (zeroOr 1000 60000 (u16 t 14)) 14, need (zeroOr 10 630 (u16 t 24)) 24,
    need (zeroOr 50 500 (u16 t 26)) 26, need (Ranges.within 0 800 (adoLimit t)) 28, need (zeroOr 10 300 (u16 t 30)) 30,
    need (zeroOr 20 300 (u16 t 32)) 32, need (zeroOr 1 100 (b t 34)) 34, need (zeroOr 1 20 (b t 35)) 35,
    need (zeroOr 5 600 (u16 t 36)) 36, need (zeroOr 10 1000 (u16 t 38)) 38, need (zeroOr 5 500 (u16 t 40)) 40,
    need (u16 t 42 == 0) 42] ++
    (List.range 4).flatMap (fun i =>
      [need (cpPair t i == 255 || (decide (cpPair t i < 8) && b t (76 + cpPair t i) == 9)) (44 + 8 * i),
       need (b t (45 + 8 * i) == 0) (45 + 8 * i), need (zeroOr 1 500 (u16 t (46 + 8 * i))) (46 + 8 * i)]) ++
    (List.range 8).map (fun k =>
      need (decide (b t (76 + k) ≤ 9) && (b t (76 + k) != 9 || (List.range 4).any fun i => cpPair t i == k)) (76 + k)) ++
    (List.range 8).flatMap (fun j =>
      let x := b t (84 + 2 * j)
      let e := b t (85 + 2 * j)
      [need (decide (x < 32) && (x % 4 == 3 || x / 4 == 0)) (84 + 2 * j),
       need (if x % 4 = 1 ∨ x % 4 = 2 then decide (e < 48) && !inPair t e
         else if x % 4 = 3 then e == 0x3F else e == 0x3F || e == 0) (85 + 2 * j)]) ++
    (List.range 8).map (fun j =>
      let x := b t (84 + 2 * j) % 4
      need (if x = 1 ∨ x = 2 then zeroOr 20 500 (u16 t (100 + 2 * j)) else u16 t (100 + 2 * j) == 0) (100 + 2 * j)) ++
    [need (u16 t 118 == 0) 118])

/-- Required assignments (R246). -/
def checkNeeds (t : List Byte) : Option Nat :=
  let role := b t 2
  let has := fun (u : List Nat) => (List.range 8).any fun k => u.contains (b t (76 + k))
  let out := fun (r : Nat) => (List.range 8).any fun j => b t (84 + 2 * j) % 4 == r
  firstBad [need (role == 2 || (has [1, 2] && has [3, 4] && has [5])) 76, need (role == 1 || (out 1 && out 2)) 84]

end SafeSet

namespace State

/-- Role code of R1. -/
def roleCode (s : State) : Nat :=
  match s.role with
  | .none => 0 | .car => 1 | .machine => 2 | .solo => 3

/-- Words of the unit accounts of R265 that the role runs. -/
def setUnitWords (s : State) : List Nat :=
  (if s.role = .car then [] else [0x2120, 0x2124, 0x2128, 0x212C, 0x2180, 0x2184, 0x3020, 0x3024, 0x3028, 0x302C,
    0x3030, 0x3034, 0x3038, 0x303C]) ++
    (if s.role = .machine then [] else [0x2520, 0x2524, 0x2528, 0x252C, 0x2580, 0x2584])

/-- Inputs, pairs and outputs that the set in force assigns. -/
def setInputs (s : State) : List Nat := (List.range 48).filter s.inLocked
def setPairs (s : State) : List Nat := (List.range 8).filter fun k => s.pairUse k != 0
def setOuts (s : State) : List Nat := (List.range 8).filter fun j => s.outRole j != 0
def setTpos (s : State) : List Nat :=
  (List.range 4).filter fun k => s.setInputs.any fun n => s.rf (Reg.inCfg n) 8 3 == k + 1

/-- The class P words of some accounts take the named value, or their factory value (R596). -/
def setWords (s : State) (t : List Byte) (as : List Nat) : State :=
  as.foldl (fun s a => s.w a (match SafeSet.named t a with
    | some v => masked (Param.mask a) v
    | none => Param.factoryAt a)) s

/-- Grouping bits of the gang at GPk as the set names them: consolidate, quad. -/
def setGang (t : List Byte) (k : Nat) : Bool × Bool :=
  match SafeSet.named t (Acct.gp k + 8) with
  | some v => (bit v 1, k % 2 == 0 && bit v 16)
  | none => (false, false)

/-- Gangs of the assigned outputs. -/
def setGangs (s : State) : List Nat := ([12, 13, 14, 15] : List Nat).filter fun k => s.setOuts.any fun j => (24 + j) / 2 == k

/-- The configuration that results from the set `t`: what the checks of R596 judge, and what its application
leaves in the registers. -/
def setResult (s : State) (t : List Byte) : State :=
  let s := { s with cpt := { s.cpt with set := t } }
  let s := s.setWords t (s.setUnitWords ++ s.setPairs.map Reg.pairCfg ++ s.setInputs.map Reg.inCfg ++
    s.setOuts.map fun j => Reg.outCfg (24 + j))
  let s := s.setWords t (s.setTpos.map Reg.tpoCfg ++ (if s.setTpos = [] then [] else [Reg.tpTiming]))
  let s := s.setOuts.foldl (fun s j => s.wf (Reg.outCfg (24 + j)) 0 2 0) s
  let s := s.setPairs.foldl (fun s k => s.wb (Acct.sp k + 8) 1 true) s
  s.setGangs.foldl (fun s k =>
    (s.wb (Acct.gp k + 8) 1 (setGang t k).1).wb (Acct.gp k + 8) 16 ((setGang t k).1 && (setGang t k).2)) s

/-- Step 5 for the words: an index names a parameter of an account of R265; a value meets its field's range and
reserved bits. -/
def setWordsBad (s : State) (t : List Byte) : Option Nat :=
  let h := s.setResult t
  SafeSet.firstBad ((List.range (SafeSet.words t)).flatMap fun i =>
    let x := SafeSet.wIdx t i
    let a := Param.addr x
    let acct := Acct.ofWord a
    let mine := (acct != Acct.profileEngine && h.ownLock acct == Lock.safety && h.runs acct) ||
      (a == Reg.tpTiming && h.setTpos != []) || (h.setGangs.any fun k => acct == Acct.gp k)
    [SafeSet.need (decide (x < 0x8000) && Param.isParam x && mine) (120 + 8 * i),
     SafeSet.need (leAt t (122 + 8 * i) 2 == 0) (122 + 8 * i),
     SafeSet.need (masked (Param.mask a) (SafeSet.wVal t i) == SafeSet.wVal t i && Ranges.ok a (SafeSet.wVal t i)) (124 + 8 * i)])

/-- Where a class condition of an account is reported: its first configuration word, or its table entry. -/
def classOffset (t : List Byte) (accts : List Nat) (entry : Nat) : Nat :=
  match (List.range (SafeSet.words t)).find? fun i => accts.contains (Acct.ofWord (Param.addr (SafeSet.wIdx t i))) with
  | some i => 120 + 8 * i
  | none => entry

/-- The class conditions of R288 and R296, and R202 and R285, on the configuration that results. -/
def setClassBad (s : State) (t : List Byte) : Option Nat :=
  let h := s.setResult t
  let w := fld (h.r Reg.tpTiming) 8 7
  SafeSet.firstBad (h.setPairs.map (fun k =>
      let n := 32 + 2 * k
      let ok := pairClassOk (h.r (Reg.inCfg n)) (h.r (Reg.inCfg (n + 1))) && filtOk (h.r (Reg.inCfg n)) w &&
        filtOk (h.r (Reg.inCfg (n + 1))) w
      SafeSet.need ok (classOffset t [Acct.sp k, Acct.ina k, Acct.inb k] (76 + k))) ++
    h.setOuts.map (fun j =>
      let ok : Bool := match h.edmInput j with
        | some n => filtOk (h.r (Reg.inCfg n)) w && h.doorFiltOk n (h.r (Reg.inCfg n))
        | none => true
      SafeSet.need ok (classOffset t [match h.edmInput j with
        | some n => inBase n
        | none => 0] (84 + 2 * j))) ++
    h.setGangs.map (fun k =>
      let b := Acct.gp k
      let ext := if bit (h.ctl b) 16 then 1 else 0
      let ok := !h.consolidated b || ((gangOuts b ext).all h.safetyOut && (ext == 0 || !h.consolidated (Acct.gp (k + 1))))
      let j := (h.setOuts.find? fun j => (24 + j) / 2 == k).getD 0
      SafeSet.need ok (classOffset t [b] (84 + 2 * j))))

/-- The first output assignment with which the SAFETY reserve exceeds 60 % of the field limit (R408). -/
def setReserveBad (s : State) (t : List Byte) : Option Nat :=
  let h := s.setResult t
  let part := fun (j : Nat) => 10 * (h.rf (Reg.outCfg (24 + j)) 2 6 + h.rf (Reg.outCfg (24 + j)) 8 6)
  let tpo := 50 * ((List.range 4).filter h.tpoSafety).length
  (h.setOuts.find? fun j =>
    decide (60 * s.purseLim 0 < 100 * (tpo + ((h.setOuts.filter fun i => decide (i ≤ j)).map part).sum))).map fun j => 84 + 2 * j

/-- The checks of R596 in order: the result of the first refused field. -/
def setRefused (s : State) (t : List Byte) : Option Word :=
  if t.length < 4 ∨ crc32c (t.take (t.length - 4)) ≠ wordAt t (t.length - 4) then some 0xFFFFFFFF
  else (SafeSet.firstBad [SafeSet.checkHead s.roleCode t]).or
    ((SafeSet.checkFields t).or ((s.setWordsBad t).or ((SafeSet.checkNeeds t).or ((s.setClassBad t).or (s.setReserveBad t))))) |>.map wOf

/-- SF_IO of R274. -/
def showSfIo (s : State) : State :=
  let all := maskOf s.setOuts
  let role := fun (r : Nat) => maskOf ((List.range 8).filter fun j => s.outRole j == r)
  (List.range 8).foldl (fun s k =>
    let pairs := maskOf ((List.range 8).filter fun p => (s.pairUsers p).contains k)
    let edm := if k = 4 then role 1 else if k = 5 then role 2 else 0
    let owned := maskOf (s.setOuts.filter fun j => s.ownerOf (24 + j) == k)
    if !s.runs (Acct.safetyFunction k) then s.w (Reg.sfIo k) 0
    else s.w (Reg.sfIo k) (wOf (pairs + 256 * all + 65536 * edm + 16777216 * owned))) s

/-- SF_REACT in us, rounded up (R255, R274, R369): T in ns. -/
def sfReactNs (s : State) (k : Nat) : Nat :=
  let ps := (List.range 8).filter fun p => (s.pairUsers p).contains k
  let filt := (ps.map fun p => max (s.rf (Reg.inCfg (32 + 2 * p)) 0 8) (s.rf (Reg.inCfg (33 + 2 * p)) 0 8)).foldl max 0
  let disc := (ps.map fun p => s.rf (Reg.pairCfg p) 16 9).foldl max 0
  let edm := fun (r : Nat) => ((List.range 8).map fun j => if s.outRole j = r then SafeSet.tEdm s.cpt.set j else 0).foldl max 0
  let slow := s.rb Reg.linkStat 3
  let link := if s.role = .car then (if slow then 405000 else 105000) else 0
  let off := 10290
  match k with
  | 0 => filt * 100000 + 10135 + disc * 1000000 + 100000 + link + off
  | 1 => filt * 100000 + 10135 + disc * 1000000 + 100000 + link + off
  | 3 => 2000 + disc * 1000000 + 100000 + 2 * link + off
  | 4 => edm 1 * 1000000 + 100000 + off
  | 5 => edm 2 * 1000000 + 100000 + off
  | 7 => max (SafeSet.wdPeriod s.cpt.set * 100000) (if slow then 1000000 else 0) + off
  | _ => 2000 + disc * 1000000 + 100000 + off

def showReact (s : State) : State :=
  (List.range 8).foldl (fun s k =>
    s.wf (Reg.sfReact k) 0 24 (if s.setValid && s.runs (Acct.safetyFunction k) then (s.sfReactNs k + 999) / 1000 else 0)) s

/-- The accounts that the set in force locks, enabled or disabled. -/
def setUnits (s : State) : List Nat :=
  (if s.role = .car then [] else [Acct.enc 0, Acct.fusion]) ++ (if s.role = .machine then [] else [Acct.abs 0])

/-- Before the configuration is written, the accounts of the new set stop (R267 step 1); `h` is the state that
the new set results in. -/
def setDisable (s h : State) : State :=
  let s := h.setUnits.foldl (fun s b => s.setEn b false) s
  let s := h.setOuts.foldl (fun s j => (s.disableUnit (s.unitOf (24 + j))).setEn (outBase (24 + j)) false) s
  let s := h.setGangs.foldl (fun s k =>
    let q := k - k % 2
    let s := if s.quadAt q then s.setGroup (Acct.gp q) false 0 else s
    (if s.consolidated (Acct.gp k) then s.setGroup (Acct.gp k) false 0 else s).setEn (Acct.gp k) false) s
  let s := h.setPairs.foldl (fun s k => ((s.setEn (Acct.sp k) false).setEn (Acct.ina k) false).setEn (Acct.inb k) false) s
  let s := h.setInputs.foldl (fun s n => s.setEn (inBase n) false) s
  h.setTpos.foldl (fun s k => (s.disableTpo k).setEn (Acct.tpc k) false) s

/-- The units start on their new configuration (R267 step 1). -/
def setEnable (s : State) : State :=
  let s := s.setUnits.foldl (fun s b => s.setEn b true) s
  let s := if s.role = .car then s else (s.enableEnc 0).enableFusion
  let s := if s.role = .machine then s else s.enableAbs 0
  let s := s.setPairs.foldl (fun s k => (s.setEn (Acct.sp k) true).pairStart k) s
  let s := s.setInputs.foldl (fun s n => (if s.inPaired n then s else s.setEn (inBase n) true).restartIn n) s
  let s := s.setTpos.foldl (fun s k => (s.setEn (Acct.tpc k) true).enableTpo k) s
  let s := s.setGangs.foldl (fun s k => if (s.headOf (Acct.gp k)).isNone then s.setEn (Acct.gp k) true else s) s
  s.setOuts.foldl (fun s j => if (s.gangOf (24 + j)).isNone then s.setEn (outBase (24 + j)) true else s) s

/-- A valid set comes into force: its registers (R268, R273, R274). -/
def setShow (s : State) : State :=
  let t := s.cpt.set
  let d := sha256 t
  let s := ((s.w Reg.safeDigestL (wordAt d 0)).w Reg.safeDigestH (wordAt d 4)).w Reg.safeSetInfo
    (wOf (SafeSet.u16 t 4 + 65536 * t.length))
  let s := (s.wb Reg.safeState 7 true).wf Reg.safeEdm 16 8 (maskOf ((List.range 8).filter fun j => (s.edmInput j).isSome))
  let s := s.setDev .param false
  let s := (s.clrFlt Acct.comptroller 0).w Reg.csLinkTime (wOf (SafeSet.maxAge t + 65536 * SafeSet.wdPeriod t))
  let s := (List.range 8).foldl (fun s k => s.setEn (Acct.safetyFunction k) (s.runs (Acct.safetyFunction k))) s
  (s.setEn Acct.tripNet true).showSfIo.showReact

/-- The set `t`, already checked, is applied (R267). -/
def setApply (s : State) (t : List Byte) : State :=
  let s := ((s.setDisable (s.setResult t)).setResult t).setEnable
  { s with par := { s.par with set := t } }.setShow

end State

end Sys2Proof.Machine
end

