-- ==== Sys2Proof/Machine/Comptroller.lean ====
section
/-! DEFINITION. The Comptroller: its cycle, its demands, its bypass, its outputs and the SAFE commands
(07_comptroller.md R238 to R276). -/

namespace Sys2Proof.Machine

/-- floor of the square root of `n`, from bit `k` of the root down. -/
def isqrtFrom (n : Nat) : Nat → Nat → Nat
  | 0, r => r
  | k + 1, r => isqrtFrom n k (if (r + 2 ^ k) * (r + 2 ^ k) ≤ n then r + 2 ^ k else r)

def isqrt (n : Nat) : Nat := isqrtFrom n 32 0

namespace State

/-- The Comptroller runs: firmware up, or a partial reset, which does not reach it (R240, R515). -/
def cptRuns (s : State) : Bool :=
  (s.rst.phase == .running || (s.rst.phase == .inReset && !s.rst.full)) && s.role != .none && s.pwr != .vault

def updCpt (s : State) (f : Cpt → Cpt) : State := { s with cpt := f s.cpt }

/-! What the cycle latches (R241 step 1). -/

/-- Bit `i` of byte `o` of the peer data; 0 while it is invalid (R254). -/
def peerBit (s : State) (o i : Nat) : Bool := s.cpt.peerValid && nbit (leAt s.cpt.peer o 1) i

/-- Every pair of the set with use `u` reads 1. -/
def useOk (s : State) (u : Nat) : Bool := (List.range 8).all fun k => s.pairUse k != u || s.pairVal k

def useAny (s : State) (u : Nat) : Bool := (List.range 8).any fun k => s.pairUse k == u

/-- Door bit: 0, 1 car-door contacts of DOOR0, DOOR1; 2, 3 landing locks of their sides. MACHINE takes them from
the peer data (R254, R261); a contact that the set does not use reads 1 (log 51). -/
def doorBit (s : State) (i : Nat) : Bool := if s.role = .machine then s.peerBit 2 i else s.useOk (1 + i)

/-- Door-zone bit of a deck. -/
def zoneBit (s : State) (d : Nat) : Bool :=
  if s.role = .machine then s.peerBit 2 (4 + d) else s.useAny (5 + d) && s.useOk (5 + d)

/-- Every door pair reads 1 (R260). -/
def chainClosed (s : State) : Bool := ([0, 1, 2, 3] : List Nat).all s.doorBit

/-- Inspection; recall (R252). -/
def inspNow (s : State) : Bool := !s.useOk 7 || (s.role == .machine && s.peerBit 0 6)
def recallNow (s : State) : Bool := s.role != .car && !s.useOk 8

/-- A learn run: LANDING_LEARN in the profile engine (R192, R252). -/
def learnNow (s : State) : Bool := if s.role = .car then s.peerBit 3 7 else s.learn.isSome && s.runState == 8

/-- mstat.valid, car speed and position: own, or of the peer data in CAR (R248). -/
def motionValid (s : State) : Bool := if s.role = .car then s.peerBit 3 0 else s.mstatValid
def speedNow (s : State) : Int := if s.role = .car then wInt (wordAt s.cpt.peer 8) else s.carspdI
def posNow (s : State) : Int := if s.role = .car then wInt (wordAt s.cpt.peer 4) else s.carposI

/-- A CONTACTOR output is on; every contactor off and released by EDM (R247, R260). -/
def contactorOn (s : State) : Bool :=
  if s.role = .car then s.cpt.peerValid && !s.peerBit 3 3 else (s.outsRole 2).any s.cptOn
def contactorsFree (s : State) : Bool := if s.role = .car then s.peerBit 3 3 else s.rolesShow 2 false

/-- Stationary (R248, R250). -/
def stillNow (s : State) : Bool :=
  if s.role = .car then
    if s.cpt.peerValid then s.peerBit 3 0 && s.peerBit 3 1 && s.peerBit 3 2
    else s.cpt.still && (s.zoneBit 0 || s.zoneBit 1)
  else s.mstatValid && s.zeroSpeed && s.rolesShow 1 false

/-- Port n's sides are bypassed (R249): its deck and side are those of the granted request. -/
def portBypassed (s : State) (n : Nat) : Bool :=
  match s.cpt.bypass with
  | some b => s.rf (Reg.doorCfg n) 0 1 == b.deck && (if s.rf (Reg.doorCfg n) 1 1 = 0 then b.front else b.rear)
  | none => false

/-- Door bits of port n: contact and lock. -/
def portOpen (s : State) (n : Nat) : Bool := !s.doorBit n || !s.doorBit (2 + n)

/-- Levels of a mm/s limit in um/s. -/
def above (v : Int) (mms : Nat) : Bool := decide (1000 * mms < v.natAbs)

/-- Distance to a terminal position in the direction `sg`, never below 0 (R251). -/
def termDist (s : State) (sg pos : Int) : Nat := (sg * (pos - s.posNow)).toNat

/-- The terminal supervised in the direction of travel: its sign and position, when it is set and within
ts_zone. -/
def termAhead (s : State) : Option (Int × Int) :=
  let t := s.cpt.set
  let v := s.speedNow
  let z : Nat := 1000 * SafeSet.tsZone t
  if 0 < v ∧ SafeSet.posTop t ≠ 0 ∧ s.termDist 1 (SafeSet.posTop t) ≤ z then some (1, SafeSet.posTop t)
  else if v < 0 ∧ SafeSet.posBottom t ≠ 0 ∧ s.termDist (-1) (SafeSet.posBottom t) ≤ z then some (-1, SafeSet.posBottom t)
  else none

/-- CARSPD above v_term(d), without a root (R251). -/
def overTerm (s : State) : Bool :=
  match s.termAhead with
  | some (sg, p) =>
    let v := s.speedNow.natAbs
    decide (2 * (1000 * SafeSet.tsDec s.cpt.set) * s.termDist sg p < v * v) && above s.speedNow (SafeSet.tsFloor s.cpt.set)
  | none => false

/-- A terminal position is not set (R247, R252). -/
def termUnset (s : State) : Bool := SafeSet.posTop s.cpt.set == 0 || SafeSet.posBottom s.cpt.set == 0

/-- Pair values, one bit each. -/
def pairMask (s : State) : Nat := maskOf ((List.range 8).filter s.pairVal)

/-- A checkpoint pair changed away from its position (R247). -/
def checkpointBad (s : State) : Bool :=
  (List.range 4).any fun i =>
    let k := SafeSet.cpPair s.cpt.set i
    decide (k < 8) && (nbit s.cpt.pairs k != s.pairVal k) &&
      decide (1000 * SafeSet.cpTol s.cpt.set i < (s.posNow - SafeSet.cpPos s.cpt.set i).natAbs)

/-- ENC0's speed over the last 1 ms disagrees with CARSPD by more than sp_tol percent of CARSPD and one count
(R239; log 53). -/
def speedDisagrees (s : State) : Bool :=
  match s.cpt.raws.getLast? with
  | some old =>
    if s.cpt.raws.length < 10 ∨ !s.mstatValid then false
    else
      let d := ((BitVec.ofNat 32 ((s.r (Reg.encRaw 0)).toNat + 2 ^ 32 - old)).toInt).natAbs
      let rev : Nat := max 1 (s.rf (Reg.encRevCount 0) 0 25)
      let one : Rat := ((s.r Reg.fusSheave).toNat : Rat) / rev
      let diff : Rat := (d : Rat) * one - (s.carspdI.natAbs : Rat)
      decide (one + (s.carspdI.natAbs : Rat) * SafeSet.spTol s.cpt.set / 100 < (if diff < 0 then -diff else diff))
  | none => false

/-- An EDM input of the outputs with role `r` disagrees with its output (R257). -/
def edmBad (s : State) (r : Nat) : Bool :=
  (s.outsRole r).any fun j => match s.edmInput j with
    | some n => s.inLevel n == s.cptOn j
    | none => false

/-- A standing fault of an output that function k owns (R302). -/
def ownedFault (s : State) (k : Nat) : Bool :=
  s.setOuts.any fun j => s.ownerOf (24 + j) == k && masked 0x5E (s.r (outBase (24 + j) + 0x10)) != 0

/-- The car has crept from its reference with the brake applied (R247). -/
def crept (s : State) : Bool :=
  match s.cpt.creepRef with
  | some p => s.mstatValid && s.rolesShow 1 false && s.contactorsFree &&
      decide (1000 * SafeSet.brCreep s.cpt.set < (s.carposI - p).natAbs)
  | none => false

/-- The condition of function k (R247), but for the EDM timeouts and SF-LK. -/
def demandNow (s : State) (k : Nat) : Bool :=
  let v := s.speedNow
  match k with
  | 0 => (!s.stillNow || s.contactorOn) && ([0, 1] : List Nat).any fun n =>
      s.portOpen n && !(s.portBypassed n && (s.cpt.bypass.any fun b => s.zoneBit b.deck))
  | 1 => !s.chainClosed &&
      ((([0, 1] : List Nat).any fun n => s.portOpen n && !s.zoneBit (s.rf (Reg.doorCfg n) 0 1)) ||
        (s.cpt.bypass.isNone && above v (SafeSet.ucmSpeed s.cpt.set)))
  | 2 => above v (SafeSet.osLimit s.cpt.set) || s.overTerm || s.checkpointBad || decide (100 ≤ s.cpt.plaus) ||
      (!s.mstatValid && s.contactorOn) || (s.termUnset && !s.learnNow && above v (SafeSet.learnLimit s.cpt.set))
  | 3 => s.cpt.bypass.isSome && above v (s.rf Reg.safeLimit 16 16)
  | 4 => s.crept || (s.hasFlt (Acct.safetyFunction 4) 3 && s.edmBad 1)
  | 5 => s.hasFlt (Acct.safetyFunction 5) 3 && s.edmBad 2
  | 6 => s.role != .car && (((s.inspNow || s.recallNow) && above v (SafeSet.inspLimit s.cpt.set)) ||
      (s.learnNow && above v (SafeSet.learnLimit s.cpt.set)))
  | _ => s.rf (Reg.csState 8) 0 3 == 3

/-- The function runs, is armed for this cycle, and demands; SF-LK and output faults need no arming. -/
def demands (s : State) (k : Nat) : Bool :=
  s.setValid && s.runs (Acct.safetyFunction k) &&
    ((s.rb (Reg.sfStat k) 0 && s.demandNow k) || s.ownedFault k || (k == 7 && s.demandNow 7))

/-! The cycle. -/

/-- Histories and EDM levels of the latch. -/
def latch (s : State) : State :=
  let c := s.cpt
  let plaus := if s.role != .car && s.speedDisagrees then c.plaus + 1 else 0
  let raws := (((s.r (Reg.encRaw 0)).toNat) :: c.raws).take 10
  let s := s.updCpt fun c => 
    { c with plaus := plaus, raws := if s.role = .car then [] else raws,
             missed := if c.renewed then 0 else c.missed + 1, renewed := false, cycle := (c.cycle + 1) % 65536 }
  let rd := maskOf ((List.range 8).filter fun j => match s.edmInput j with
    | some n => s.inLevel n
    | none => false)
  (s.wf Reg.safeEdm 0 8 (255 - s.cpt.on % 256)).wf Reg.safeEdm 8 8 rd

/-- Comparators and trip (R241 step 2, R243, R244): the demands in force, and the path time of a firing. -/
def compare (s : State) (path : Nat) : State :=
  let m := maskOf ((List.range 8).filter s.demands)
  let s := s.wf Reg.safeCause 0 8 m
  let s := (List.range 8).foldl (fun s k => s.wb (Reg.sfStat k) 1 (nbit m k)) s
  let s' := s.trip m
  if newBits s.latchedCauses m = 0 then s' else s'.recordPath path

/-- Device causes whose condition the cycle sees (R243, R254, R269). -/
def devCauses (s : State) : State :=
  let runOn := (s.outsRole 1 ++ s.outsRole 2).any s.cptOn
  let s := if runOn then s else s.setDev .reqLost false
  let s := s.setDev .peer (s.peerBit 0 4)
  s.setDev .proof (s.rb Reg.safeCause 14 && s.setOuts.any fun j => s.rb Reg.outRb (24 + j) && !s.cptOn j)

/-- Fault bits whose cause is still present stay (R272). -/
def clearCauses (s : State) : State :=
  let s := s.clearLatched
  let s := (List.range 8).foldl (fun s p =>
    if s.pairState p = 2 then (s.pairUsers p).foldl (fun s f => s.setFlt (Acct.safetyFunction f) 1) s else s) s
  s

/-- Creep reference (R247): taken at the first cycle with the brake applied and the contactors off, and again at a
demand. -/
def creepTrack (s : State) : State :=
  let held := s.role != .car && s.setValid && s.mstatValid && s.rolesShow 1 false && s.contactorsFree
  if !held then s.updCpt fun c => { c with creepRef := none }
  else if s.cpt.creepRef.isNone || s.crept then s.updCpt fun c => { c with creepRef := some s.carposI }
  else s

/-- The peer connection is up; SOLO needs none (R260). -/
def peerUp (s : State) : Bool := s.role == .solo || s.rf (Reg.csState 8) 0 3 == 2

/-- Shortchange is armed here, or the peer is restricted by it (R260, R538). -/
def scRestricts (s : State) : Bool :=
  s.rb Reg.scStat 0 || (s.cpt.peerValid && leAt s.cpt.peer 0 1 % 16 == 6)

/-- Every EDM input reads its released level, and no trip-group output is on (R261, R263). -/
def edmReleased (s : State) : Bool :=
  (List.range 8).all fun j => match s.edmInput j with
    | some n => s.inLevel n
    | none => true

/-- run_wanted or a learn run, own or of the peer data (R260). -/
def runAsked (s : State) : Bool :=
  if s.role = .car then s.peerBit 3 6 || s.peerBit 3 7 else s.prf.runWanted || s.learn.isSome

/-- The state machine (R260, R261); in RETURN it stays in START_PENDING (R496). -/
def advance (s : State) : State :=
  match s.cpt.st with
  | .startPending =>
    let s := s.clearCauses
    let s := if s.chainClosed then (if s.cpt.seenZero then s.updCpt fun c => { c with seenOne := true } else s)
      else s.updCpt fun c => { c with seenZero := true }
    if s.setValid && s.life != 4 && s.cpt.seenOne && s.edmReleased && s.activeCauses == 0 && s.latchedCauses == 0 then s.toSafe .ready else s
  | .ready =>
    if s.cpt.peerChanged then s.restrict 1
    else if s.scRestricts then s.restrict 0
    else if s.chainClosed && s.peerUp then s.toSafe .runPermitted else s
  | .runPermitted =>
    if s.cpt.peerChanged then s.restrict 1
    else if s.scRestricts then s.restrict 0
    else if !s.chainClosed && s.stillNow then s.toSafe .ready else s
  | .parked =>
    if s.cpt.peerChanged then s.restrict 1
    else if s.scRestricts then s.restrict 0
    else if !s.chainClosed then s.toSafe .ready
    else if s.runAsked then s.toSafe .runPermitted else s
  | .restricted =>
    if s.rb Reg.safeState 13 then (if s.cpt.peerChanged then s else s.toSafe .startPending)
    else if s.scRestricts then s else s.toSafe .ready
  | _ => s

/-- The bypass request that stands here (R249): CAR's comes from MACHINE; MACHINE grants none. -/
def bypassAsked (s : State) : Option Bypass :=
  match s.role with
  | .solo => s.prf.askBypass
  | .car =>
    let b := leAt s.cpt.peer 2 1
    if s.peerBit 3 4 then some ⟨s.peerBit 3 5, b % 2, nbit b 1, nbit b 2⟩ else none
  | _ => none

/-- The conditions of a grant (R249). -/
def bypassMay (s : State) (b : Bypass) : Bool :=
  s.zoneBit b.deck && !above s.speedNow (if b.relevel then SafeSet.relevelLimit s.cpt.set else SafeSet.adoLimit s.cpt.set) &&
    !s.inspNow && !s.recallNow && !s.learnNow &&
    (s.cpt.st == .runPermitted || (b.relevel && s.cpt.st == .ready))

def endBypass (s : State) : State :=
  ((s.updCpt fun c => { c with bypass := none, opened := false, served := true }).wf Reg.safeLimit 16 16 0).cptPost
    Ev.safeBypass 3 1

/-- Grant, end and refusal (R249). -/
def bypassStep (s : State) : State :=
  if !s.runs (Acct.safetyFunction 3) then s
  else match s.cpt.bypass, s.bypassAsked with
  | some _, ask =>
    let s := s.updCpt fun c => { c with opened := c.opened || ([0, 1] : List Nat).any (fun n => s.portBypassed n && s.portOpen n) }
    if (s.cpt.opened && s.chainClosed) || (ask.isNone && s.stillNow) then
      let s := s.endBypass
      if ask.isNone then s.updCpt fun c => { c with served := false } else s
    else s
  | none, none => s.updCpt fun c => { c with refused := false, served := false }
  | none, some b =>
    if s.cpt.served then s
    else if s.setValid && s.bypassMay b then
      ((s.updCpt fun c => { c with bypass := some b, opened := false, refused := false }).wf Reg.safeLimit 16 16
        (if b.relevel then SafeSet.relevelLimit s.cpt.set else SafeSet.adoLimit s.cpt.set)).cptPost Ev.safeBypass 3 0
    else if s.cpt.refused then s
    else (s.updCpt fun c => { c with refused := true }).cptPost Ev.safeBypass 3 2

/-- A re-level under a granted RELEVEL bypass: own, or CAR's with the own request (R249). -/
def relevelGranted (s : State) : Bool :=
  if s.role = .machine then s.bypassActive && s.prf.askBypass.any fun b => b.relevel
  else s.cpt.bypass.any fun b => b.relevel

/-- Brake and contactor outputs may be on (R249, R260, R264). -/
def runOutputs (s : State) : Bool :=
  s.cpt.st == .runPermitted || (s.cpt.st == .ready && s.relevelGranted) ||
    (s.cpt.st == .restricted && (s.inspNow || s.recallNow))

/-- What the Comptroller wants of OUT24+j (R180, R243, R246). -/
def wantOn (s : State) (j : Nat) : Bool :=
  match s.outRole j with
  | 1 => s.runOutputs && s.prf.askLift && !s.prf.askBrake
  | 2 => s.runOutputs && s.prf.askContactor
  | 3 => s.cpt.st == .ready || s.cpt.st == .runPermitted || s.cpt.st == .parked || s.cpt.st == .restricted
  | _ => false

/-- Output requests of the software phase: each unit of the trip group once. -/
def outputStep (s : State) : State :=
  (s.setOuts.map fun j => s.unitOf (24 + j)).eraseDups.foldl (fun s id =>
    let on := (s.unitOuts id).any fun n => s.wantOn (n - 24)
    if on then (if s.unitCmd id && ((s.unitOuts id).all s.outOn || s.hasRequest id) then s else s.unitOnAsk id)
    else if s.unitCmd id || (s.unitOuts id).any s.outOn then s.unitOffCmd id else s) s

/-- The lowest limit of the present position and mode, mm/s (R251). -/
def limitNow (s : State) : Nat :=
  if !s.setValid then 0
  else
    let t := s.cpt.set
    let l := SafeSet.osLimit t
    let l := if s.inspNow || s.recallNow then min l (SafeSet.inspLimit t) else l
    let l := if s.learnNow || s.termUnset then min l (SafeSet.learnLimit t) else l
    match s.termAhead with
    | some (sg, p) => min l (max (isqrt (2 * SafeSet.tsDec t * s.termDist sg p / 1000)) (SafeSet.tsFloor t))
    | none => l

/-- Door-open permission of port n (R250). -/
def permitNow (s : State) (n : Nat) : Bool :=
  s.zoneBit (s.rf (Reg.doorCfg n) 0 1) && (s.stillNow || s.portBypassed n) && !s.rb Reg.safeCause 1

/-- The bits that the cycle publishes: SAFE_STATE, DOOR_STATE, SAFE_LIMIT, SAFE_PEER, SF_STAT, TN_OUT. -/
def publish (s : State) : State :=
  let s := ((s.wb Reg.safeState 4 s.inspNow).wb Reg.safeState 5 s.recallNow).wb Reg.safeState 6 s.learnNow
  let still := s.stillNow
  let s := (s.wb Reg.safeState 10 still).updCpt fun c => { c with still := still, pairs := s.pairMask }
  let s := ([0, 1] : List Nat).foldl (fun s n =>
    let p := s.role != .machine && s.setValid && s.permitNow n
    let s := s.wb Reg.safeState (8 + n) p
    if s.runs (Acct.doorPort n) then
      ((s.wb (Reg.doorState n) 9 p).wb (Reg.doorState n) 10 (s.setValid && s.doorBit n)).wb (Reg.doorState n) 11
        (s.setValid && s.doorBit (2 + n))
    else s) s
  let s := (s.wf Reg.safeLimit 0 16 s.limitNow).w Reg.safePeer
    (wOf (if s.cpt.peerValid then leAt s.cpt.peer 0 1 % 16 + 16 + 256 * leAt s.cpt.peer 1 1 else leAt s.cpt.peer 0 1 % 16 +
      256 * leAt s.cpt.peer 1 1))
  let top := s.termAhead.any fun x => x.1 == 1
  let fs := fun (k : Nat) => match k with
    | 0 => (s.chainClosed, s.cpt.seenZero)
    | 2 => (s.termAhead.isSome, top)
    | 3 => (s.cpt.bypass.isSome, s.cpt.bypass.any fun (b : Bypass) => b.relevel)
    | 4 => (!s.edmBad 1, false)
    | 5 => (!s.edmBad 2, false)
    | 6 => (s.inspNow, s.recallNow)
    | 7 => (s.rf (Reg.csState 8) 0 3 == 2, false)
    | _ => (false, false)
  let s := (List.range 8).foldl (fun s k =>
    if s.runs (Acct.safetyFunction k) && s.setValid then
      ((s.wb (Reg.sfStat k) 0 true).wb (Reg.sfStat k) 8 (fs k).1).wb (Reg.sfStat k) 9 (fs k).2
    else s) s
  s.w Reg.tnOut (wOf (s.cpt.on % 256 + 256 * (s.rf Reg.outRb 24 8) +
    65536 * (if s.tripHeld then maskOf s.setOuts else 0)))

/-- One cycle (R241). -/
def cycle (s : State) (path : Nat) : State :=
  let before := s.latchedCauses
  let s := (s.latch.compare path).devCauses.creepTrack
  let tripped := newBits before s.latchedCauses != 0
  let s := if tripped then s else s.advance.bypassStep
  let s := if s.cpt.st = .restricted ∧ s.rb Reg.scStat 0 then s.updAud fun x => { x with scLive := true } else s
  s.outputStep.publish.seqAdvance

end State

/-- SAFE_CYCLE (R241 to R261, R274, R275): one cycle; `path` is the trip path time of a firing, in Till counts. -/
def execSafeCycle (path : BitVec 16) (s : State) : Host.Outcome State Fault Refusal :=
  .next (if s.cptRuns then s.cycle path.toNat else s)

/-- EDM_TIMEOUT (R257): the EDM input of OUT24+k has deviated for T_EDM. -/
def execEdmTimeout (k : Fin 8) (s : State) : Host.Outcome State Fault Refusal :=
  .next (match s.edmInput k with
    | some n => if s.cptRuns ∧ s.inLevel n = s.cptOn k then s.lockOut k else s
    | none => s)

/-- REQ_LOST (R243): two cycles without a renewal while a BRAKE or CONTACTOR output is on. -/
def execReqLost (s : State) : Host.Outcome State Fault Refusal :=
  .next (if s.cptRuns ∧ 2 ≤ s.cpt.missed ∧ (s.outsRole 1 ++ s.outsRole 2).any s.cptOn then s.devTrip .reqLost else s)

/-- PARK_DELAY_EXPIRY (R260): park_delay has passed. -/
def execParkDelayExpiry (s : State) : Host.Outcome State Fault Refusal :=
  .next (if s.cptRuns ∧ s.cpt.st = .runPermitted ∧ s.stillNow ∧ s.chainClosed ∧ s.contactorsFree then
    s.toSafe .parked else s)

/-- PARAM_CRC_CHECK (R239): the set in memory, once a second. -/
def execParamCrcCheck (s : State) : Host.Outcome State Fault Refusal :=
  let t := s.cpt.set
  .next (if s.cptRuns ∧ s.setValid ∧ crc32c (t.take (t.length - 4)) ≠ wordAt t (t.length - 4) then
    (s.setFlt Acct.comptroller 0).devTrip .param else s)

/-- PROOF_TEST_DUE (R269). -/
def execProofTestDue (s : State) : Host.Outcome State Fault Refusal :=
  .next (if s.cptRuns ∧ 365 < s.vault.proofDays then s.cptPost Ev.safeProof 0 2 else s)

/-- SAFE_PARAM_STAGING_EXPIRY (R267). -/
def execSafeParamStagingExpiry (s : State) : Host.Outcome State Fault Refusal :=
  .next (s.updCpt fun c => { c with staged := [], stagedTotal := 0 })

namespace State

/-! Commands (R262, R263, R267, R269, R272, R563). -/

/-- Days and pass of the proof test, as SAFE_PROOF shows them. -/
def showProof (s : State) : State :=
  s.w Reg.safeProof (wOf (satN 65535 s.vault.proofDays + (if s.vault.proofPass then 65536 else 0)))

def setDigest (s : State) : List Byte := if s.setValid then sha256 s.cpt.set else List.replicate 32 0

def safeStatusRow : CmdRow where
  opcode := 0x0601
  urg := true
  pre := fun c _ => failIf (!c.argOnly 0) .badArg
  run := fun _ s =>
    (s, some (.ok 0 (wordsBytes [s.r Reg.safeState, s.r Reg.safeCause, s.r Reg.safeEdm, s.r Reg.safePeer] ++ s.setDigest ++
      wordsBytes [s.r Reg.safeProof, s.r Reg.safeLimit, s.r Reg.safeSetInfo])))

/-- R262, in the order of its table. -/
def safeRestartRow : CmdRow where
  opcode := 0x0602
  pre := fun c s =>
    firstOf [failIf (!c.argOnly 0) .badArg, failIf (s.cpt.st != .tripped) .badState,
      failIf (decide (s.activeCauses ≠ 0)) (.badState (wOf s.activeCauses)),
      failIf (nbit s.latchedCauses 1 && !s.loginHere c) (.denied 0x11),
      failIf (s.role == .machine && s.peerBit 0 4) (.badState 0x8000)]
  run := fun _ s =>
    let s := (s.clearCauses.updCpt fun c => { c with forced := false }).addF Reg.safeCnt 16 16 1
    (s.toSafe .ready, some (.ok 0))

/-- R263: the completion waits for the commit of the acknowledgement record (13_ledger.md). -/
def safeAckLockoutRow : CmdRow where
  opcode := 0x0604
  long := true
  units := fun _ => [.comptroller]
  pre := fun c s =>
    firstOf [s.loginReply c, failIf (!c.argOnly 0) .badArg,
      failIf (s.cpt.st != .lockout || s.tripGroupOn || !s.edmReleased) .badState]
  run := fun c s =>
    let s := s.postRecord Ev.safeLockout (if s.outRole s.vault.lockoutOut = 2 then 5 else 4) s.vault.lockoutOut [1]
    let s := { s with vault := { s.vault with lockout := false } }
    let s := (([4, 5] : List Nat).foldl (fun s k =>
      (s.clrFlt (Acct.safetyFunction k) 3).wb Reg.safeCause k false) s).clearCauses
    let s := (s.updCpt fun x => { x with forced := false }).toSafe .startPending
    (s.startLong c [.comptroller] [], none)

/-- SAFE_PARAM_LOAD's fields. -/
def partOfs (c : Cmd) : Nat := leAt c.pay 0 2
def partTotal (c : Cmd) : Nat := leAt c.pay 2 2

/-- Entering START_PENDING anew (R267 step 4). -/
def restartTest (s : State) : State :=
  (s.updCpt fun c => { c with seenZero := false, seenOne := false, forced := false }).toSafe .startPending

def safeParamLoadRow : CmdRow where
  opcode := 0x0603
  long := true
  len := fun n => decide (5 ≤ n) && decide (n ≤ 244)
  units := fun _ => [.comptroller, .paramStore]
  pre := fun c s =>
    let o := partOfs c
    let n := if o = 0 then 0 else s.cpt.staged.length
    firstOf [s.lifeReply [1, 3], s.loginReply c, failIf (!c.argOnly 0) .badArg,
      failIf (decide (1024 < partTotal c) || decide (partTotal c = 0)) (.badParam 2),
      failIf (decide (o ≠ n) || decide (partTotal c < o + (c.len - 4)) ||
        (o != 0 && decide (partTotal c ≠ s.cpt.stagedTotal))) ⟨4, wOf (0x80000000 + s.cpt.staged.length), []⟩,
      failIf (!([.startPending, .ready, .parked, .tripped] : List SafeState).contains s.cpt.st || !s.stationary || s.tripGroupOn)
        .badState]
  run := fun c s =>
    let t := (if partOfs c = 0 then [] else s.cpt.staged) ++ c.pay.drop 4
    if t.length < partTotal c then
      (s.updCpt fun x => { x with staged := t, stagedTotal := partTotal c }, some (.ok (wOf t.length)))
    else
      let s := s.updCpt fun x => { x with staged := [], stagedTotal := 0 }
      match s.setRefused t with
      | some w => (s, some ⟨4, w, []⟩)
      | none =>
        let s := (s.setApply t).clearCauses
        let s := (s.cptPost Ev.safeParam 0 0).restartTest
        (s, some (.ok 0 s.setDigest))

/-- One output of the proof test (R269): a pulse through the trip net. -/
def proofOne (s : State) (o : ProofOutcome) : State :=
  (((s.count Acct.tripNet).wTill Reg.tnLastL Reg.tnLastH s.till).recordPath o.path.toNat)

/-- Response of the proof test: path times of OUT24 to OUT31. -/
def proofBytes (js : List Nat) (os : List ProofOutcome) : List Byte :=
  (List.range 8).flatMap fun j =>
    leBytes 2 (match (js.zip os).find? fun x => x.1 == j with
      | some x => x.2.path.toNat
      | none => 0)

/-- The proof test of the outputs in order, up to the first that fails (R269). -/
def proofRun (s : State) : List (Nat × ProofOutcome) → State × Option (Nat × Bool)
  | [] => (s, none)
  | (j, o) :: rest =>
    let s := s.proofOne o
    if !o.readbackOk then (s, some (j, false))
    else if (s.edmInput j).isSome && !o.edmOk then (s, some (j, true))
    else proofRun s rest

def safeProofTestRow (os : List ProofOutcome) : CmdRow where
  opcode := 0x0605
  long := true
  units := fun _ => [.comptroller]
  pre := fun c s => firstOf [failIf (!c.argOnly 0) .badArg, failIf (s.cpt.st != .parked) .badState]
  run := fun _ s =>
    let js := s.setOuts
    match s.proofRun (js.zip os) with
    | (s, none) =>
      let s := { s with vault := { s.vault with proofDays := 0, proofPass := true } }.showProof
      (s.cptPost Ev.safeProof 0 0, some (.ok (wOf (maskOf js)) (proofBytes js os)))
    | (s, some (j, edm)) =>
      let s := { s with vault := { s.vault with proofPass := false } }.showProof
      let s := s.cptPost Ev.safeProof 0 1
      (if edm then s.lockOut j else s.devTrip .proof, some (.hwFault (wOf (j + if edm then 256 else 0))))

/-! The safety data for the peer (R253). -/

/-- 16 bytes, as CAR or MACHINE. -/
def safeData (s : State) : List Byte :=
  let mac := s.role == .machine
  let bits := fun (l : List Bool) => leBytes 1 (maskOf ((List.range 8).filter fun i => l.getD i false))
  let demand := decide (s.activeCauses % 32768 ≠ 0)
  leBytes 1 (safeCode s.cpt.st + (if demand then 16 else 0) + (if s.prf.askBrake then 32 else 0) +
      (if s.inspNow then 64 else 0) + (if s.recallNow then 128 else 0)) ++
    leBytes 1 (s.activeCauses % 256) ++
    (if mac then
      match s.prf.askBypass with
      | some b => leBytes 1 (b.deck % 2 + (if b.front then 2 else 0) + (if b.rear then 4 else 0))
      | none => [0]
     else bits [s.doorBit 0, s.doorBit 1, s.doorBit 2, s.doorBit 3, s.zoneBit 0, s.zoneBit 1, s.cpt.bypass.isSome]) ++
    (if mac then bits [s.mstatValid, s.zeroSpeed, s.rolesShow 1 false, s.rolesShow 2 false, s.prf.askBypass.isSome,
        s.prf.askBypass.any fun b => b.relevel, s.prf.runWanted, s.learnNow] else [0]) ++
    (if mac then leBytes 4 (s.r Reg.carpos).toNat ++ leBytes 4 (s.r Reg.carspd).toNat else List.replicate 8 0) ++
    leBytes 2 (s.rf Reg.safeLimit 0 16) ++ leBytes 2 s.cpt.cycle

/-- Verified peer data (R254): a trip demand fires the net directly. -/
def takePeer (s : State) (d : List Byte) : State :=
  let s := s.updCpt fun c => { c with peer := d, peerValid := true }
  let s := (s.wf Reg.safePeer 0 4 (leAt d 0 1 % 16)).wf Reg.safePeer 4 12 (1 + 16 * leAt d 1 1)
  if nbit (leAt d 0 1) 4 then s.devTrip .peer else s

/-- The connection to the peer enters SAFE (R247, R254). -/
def losePeer (s : State) : State :=
  ((s.updCpt fun c => { c with peerValid := false }).wb Reg.safePeer 4 false).sfTrip 7

end State

/-- SAFE_STATUS (R272, R563). -/
def execSafeStatus (src : Src) (s : State) : Host.Outcome State Fault Refusal := .next (s.runRow State.safeStatusRow src)

/-- SAFE_RESTART (R262). -/
def execSafeRestart (src : Src) (s : State) : Host.Outcome State Fault Refusal := .next (s.runRow State.safeRestartRow src)

/-- SAFE_PARAM_LOAD (R266, R267, R596). -/
def execSafeParamLoad (src : Src) (s : State) : Host.Outcome State Fault Refusal := .next (s.runRow State.safeParamLoadRow src)

/-- SAFE_ACK_LOCKOUT (R263). -/
def execSafeAckLockout (src : Src) (s : State) : Host.Outcome State Fault Refusal := .next (s.runRow State.safeAckLockoutRow src)

/-- SAFE_PROOF_TEST (R269): what each output of the set showed, in ascending order. -/
def execSafeProofTest (src : Src) (outcomes : List ProofOutcome) (s : State) : Host.Outcome State Fault Refusal :=
  .next (s.runRow (State.safeProofTestRow outcomes) src)

end Sys2Proof.Machine
end

