-- ==== Sys2Proof/Machine/Identity.lean ====
section
/-! DEFINITION. What the module is to its peer: identity digest, pairing record and pairing ID
(14_mint_lifecycle.md R486, R489, R490), and the connection IDs that follow from them (R377). -/

namespace Sys2Proof.Machine

def sha384 (bs : List Byte) : List Byte := beBytes 48 (Config.sha384 bs).toNat

/-- The 97-byte uncompressed identity key (R486). -/
def idKey : List Byte := beBytes 97 Config.idKey.toNat

/-- The identity digest (R486). -/
def idDigest : List Byte := sha384 idKey

namespace State

def updMint (s : State) (f : Mint → Mint) : State := { s with mint := f s.mint }

/-- The pairing record; without the seal its MAC does not verify (R489). -/
def pairRec (s : State) : Option PairRec := if s.vault.sealValid then s.mint.pairRec else none

/-- The ACTIVE pairing record (R491: a PENDING one counts as absent). -/
def pairActive (s : State) : Option PairRec := s.pairRec.filter fun p => p.active

/-- The pairing ID: CAR's identity digest, then MACHINE's (R490). -/
def pairId (s : State) : List Byte :=
  match s.pairActive with
  | some p => (sha384 (if s.role = .car then idDigest ++ p.peer else p.peer ++ idDigest)).take 16
  | none => List.replicate 16 0

/-- The pairing record in its registers (R506). -/
def showPair (s : State) : State :=
  let s := s.wf Reg.lifePair 0 2 (match s.pairRec with | some p => if p.active then 2 else 1 | none => 0)
  let s := s.wf Reg.lifePair 4 2 (match s.pairRec with | some p => p.role | none => 0)
  let id := s.pairId
  let d := match s.pairRec with | some p => p.peer | none => []
  let s := (s.w Reg.lifePairIdL (wordAt id 0)).w Reg.lifePairIdH (wordAt id 4)
  (s.w Reg.lifePeerDigestL (wordAt d 0)).w Reg.lifePeerDigestH (wordAt d 4)

/-- Random bytes from the Mint's generator (log 61). -/
def randomBytes (s : State) : List Byte := beBytes 32 (Config.random s.free).toNat

end State

/-- A connection ID: producer, consumer, the producer's instance (R377). -/
def csIdOf (producer consumer : List Byte) (k : Nat) : Word := wordAt (sha256 (producer ++ consumer ++ leBytes 1 k)) 0

end Sys2Proof.Machine
end

