-- ==== Sys2Proof/Machine/Countersign.lean ====
section
/-! DEFINITION. Countersign (10_sheic_link.md R375 to R386): producing and judging PDUs, the states of a
connection, and its commands. -/

namespace Sys2Proof.Machine

/-- CRC-32 of R376: 0xF4AC_FB13 reflected. -/
def csCrc (bs : List Byte) : Nat := (~~~(bs.foldl (crcByte 0xc8df352f#32) 0xFFFFFFFF#32)).toNat

/-- Bytes 0 to 27 of a PDU with its CRC (R375, R376). -/
def csSealed (bs : List Byte) : List Byte := bs ++ leBytes 4 (csCrc bs)

def csCrcOk (pdu : List Byte) : Bool := leAt pdu 28 4 == csCrc (pdu.take 28)

namespace State

def csAt (s : State) (k : Nat) : CsSt := s.cs.getD k CsSt.init
def updCs (s : State) (k : Nat) (f : CsSt → CsSt) : State := { s with cs := updAt s.cs k f }

/-- CS_STATE.cstate: 0 CLOSED, 1 OPENING, 2 UP, 3 SAFE, 4 REFUSED (R381). -/
def csCode (s : State) (k : Nat) : Nat := s.rf (Reg.csState k) 0 3

/-- The account state of a connection state (log 63). -/
def csAcct (c : Nat) : Nat := if c = 1 then 1 else if c = 2 then 3 else if c = 3 then 5 else 2

/-- A connection takes a state; CS_SUMMARY follows. -/
def setCs (s : State) (k c : Nat) : State :=
  let s := (s.wf (Reg.csState k) 0 3 c).setCode (Acct.cs k) (csAcct c)
  (s.wb Reg.csSummary k (c == 2)).wb Reg.csSummary (16 + k) (c == 3)

def setGood (s : State) (k n : Nat) : State := s.wf (Reg.csState k) 8 4 n

/-- A consume connection starts to listen: good = 0, no baseline (R381). -/
def csListen (s : State) (k : Nat) : State :=
  ((s.updCs k fun c => { c with base := false, at' := s.till, sent := 0, ofs := 0, last := [] }).setGood k 0).setCs k 1

/-- A connection is opened: a producer is UP at once and counts from 0 (R378, R381). -/
def csOpen (s : State) (k : Nat) : State :=
  let s := s.setEn (Acct.cs k) true
  let s := s.updCs k fun c => { c with opened := true, sent := 0, seq := 0, scN := 0, scFlag := 0 }
  if k < 8 then s.setCs k 2 else s.csListen k

/-- Any state to CLOSED (R381). -/
def csClosed (s : State) (k : Nat) : State := ((s.updCs k fun _ => CsSt.init).setGood k 0).setCs k 0

/-! Producing (R375, R378, R384). -/

/-- The sequence number of the next PDU, and whether it skips one (R378, R536 perturbation 5). -/
def csSkips (s : State) (k : Nat) : Bool :=
  s.scOn 5 && s.rf Reg.scCs 0 3 == k && decide (s.rf Reg.scCs 16 16 ≤ (s.csAt k).scN + 1)

/-- A producer makes one PDU. -/
def csMake (s : State) (k : Nat) : State × List Byte :=
  let skip := s.csSkips k
  let s := if skip then s.scApplied else s
  let s := s.updCs k fun c =>
    { c with scN := if skip then 0 else c.scN + 1
             scFlag := if skip then 8 else c.scFlag
             seq := (c.seq + (if skip then 1 else 0)) % 65536 }
  let c := s.csAt k
  let flags := (if c.sent < 8 then 1 else 0) + (if s.csCode (k + 8) = 3 then 2 else 0) + (if c.scFlag ≠ 0 then 4 else 0)
  let d := s.safeData
  let pdu := csSealed (leBytes 4 (s.r (Reg.csId k)).toNat ++ leBytes 2 c.seq ++ leBytes 2 flags ++ d ++
    leBytes 4 (s.till / 1024))
  let s := (s.w (Reg.csSeq k) (wOf c.seq)).count (Acct.cs k)
  let s := (List.range 4).foldl (fun s i => s.w (Reg.csData k i) (wordAt d (4 * i))) s
  (s.updCs k fun c =>
    { c with last := pdu, sent := c.sent + 1, seq := (c.seq + 1) % 65536, scFlag := c.scFlag - 1 }, pdu)

/-! Judging (R379 to R381). -/

/-- The counter of CS_CNT that a reason has. -/
def csCntLo (reason : Nat) : Option Nat :=
  if reason = 5 then some 0 else if reason = 1 then some 8 else if reason = 2 then some 16
  else if reason = 3 then some 24 else none

/-- A failure: OPENING starts to count again, UP becomes SAFE (R381). -/
def csFail (s : State) (k reason : Nat) : State :=
  let s := match csCntLo reason with
    | some lo => s.addF (Reg.csCnt k) lo 8 1
    | none => s
  if s.csCode k = 1 then (s.setGood k 0).updCs k fun c => { c with base := false }
  else if s.csCode k = 2 then
    let s := ((s.wf (Reg.csState k) 4 4 reason).setCs k 3).updCs k fun c => { c with at' := s.till }
    let s := s.fault (Acct.cs k) 1 Ev.csSafe k reason
    if k = 8 then s.losePeer else s
  else s

/-- floor(Till / 1024) less the PDU's time, as a signed 32-bit number (R380). -/
def csDiff (s : State) (pdu : List Byte) : Int := wInt (wOf (s.till / 1024) - wordAt pdu 24)

/-- RELATIVE: the PDU's s, and allow (R380). -/
def csAllow (s : State) (k : Nat) : Int :=
  if (s.csAt k).sent = 0 then 0 else ((sub64 s.till (s.csAt k).at' / 1024 + 9999) / 10000 : Nat)

/-- The age, and o after an accepted PDU. -/
def csAge (s : State) (k : Nat) (pdu : List Byte) : Int × Int :=
  let d := s.csDiff pdu
  if s.rb (Reg.csCfgP k) 11 then
    let o := if (s.csAt k).sent = 0 then d else (s.csAt k).ofs
    let al := s.csAllow k
    (max 0 (d - o - al), min d (o + al))
  else (d, 0)

/-- Age in 5.12 us units against max_age in 0.1 ms units. -/
def csOld (s : State) (k : Nat) (a : Int) : Bool :=
  decide ((s.rf (Reg.csTime k) 0 16 : Int) * 20000 < a * 1024) || (!s.rb (Reg.csCfgP k) 11 && decide (a < -4))

/-- A PDU that passes: baseline, data, and UP after eight (R379, R381). -/
def csAccept (s : State) (k : Nat) (pdu : List Byte) (ofs : Int) : State :=
  let s := (s.w (Reg.csSeq k) (wOf (leAt pdu 4 2))).count (Acct.cs k)
  let s := (List.range 4).foldl (fun s i => s.w (Reg.csData k i) (wordAt pdu (8 + 4 * i))) s
  let s := s.updCs k fun c => { c with base := true, last := pdu, at' := s.till, sent := c.sent + 1, ofs := ofs }
  let s :=
    if s.csCode k = 1 then
      let s := s.setGood k (s.rf (Reg.csState k) 8 4 + 1)
      if s.rf (Reg.csState k) 8 4 = 8 then (s.setCs k 2).post Ev.csUp k 0 else s
    else s
  if k = 8 then s.takePeer ((pdu.drop 8).take 16) else s

/-- The checks of R379 in order; `held`: a CRC failure counts as a missing PDU (R382). -/
def csJudge (s : State) (k : Nat) (pdu : List Byte) (held : Bool) : State :=
  let c := s.csAt k
  if s.csCode k ≠ 1 ∧ s.csCode k ≠ 2 then s
  else if !csCrcOk pdu then (if held then s else s.csFail k 5)
  else if wordAt pdu 0 ≠ s.r (Reg.csId k) then s.csFail k 1
  else if c.base ∧ pdu = c.last then s
  else if c.base ∧ leAt pdu 4 2 ≠ ((s.r (Reg.csSeq k)).toNat + 1) % 65536 then s.csFail k 2
  else
    let (a, ofs) := s.csAge k pdu
    let s := s.wf (Reg.csState k) 16 16 (satN 65535 a.toNat)
    if s.csOld k a then s.csFail k 3 else s.csAccept k pdu ofs

/-! Connections over CAN FD (R383 to R386). -/

/-- The object that a connection holds, and its controller. -/
def csCan (s : State) (k : Nat) : Nat := s.rf (Reg.csCfgP k) 2 2
def csObj (s : State) (k : Nat) : Nat := 128 * s.csCan k + s.rf (Reg.csCfgP k) 4 7

/-- The connection runs over CAN FD. -/
def csOverCan (s : State) (k : Nat) : Bool := s.rb (Reg.csCfgP k) 1

/-- The path is usable: the link is UP, or the controller is not bus-off (R381). -/
def csPath (s : State) (k : Nat) : Bool := if s.csOverCan k then !(s.canAt (s.csCan k)).off else s.lstate == 4

/-- A connection closes and releases its object (R381, R385). -/
def csClose (s : State) (k : Nat) : State :=
  let s := if (s.csAt k).opened ∧ s.csOverCan k then s.unbindObj (s.csObj k) else s
  s.csClosed k

/-- Instance, and the fields of CS_CONN_OPEN's payload (R565). -/
def csInst (c : Cmd) : Nat := c.argF 0 4
def csPayObj (c : Cmd) : Nat := 128 * leAt c.pay 0 1 + leAt c.pay 1 1

/-- The first byte offset out of range (R385, R386, R565). -/
def csBad (s : State) (c : Cmd) : Option Nat :=
  let p := c.pay
  let prod := decide (csInst c < 8)
  let taken := (objsOf (leAt p 0 1)).any fun m => s.objTx m && m != csPayObj c && busId (s.r (Reg.objId m)) == busId (wordAt p 4)
  if 3 < leAt p 0 1 ∨ !s.rb (Reg.canCfg (leAt p 0 1)) 0 then some 0
  else if 127 < leAt p 1 1 then some 1
  else if 1 < leAt p 2 1 then some 2
  else if leAt p 3 1 < 1 ∨ 100 < leAt p 3 1 then some 3
  else if masked 0x3FFFFFFF (wordAt p 4) ≠ wordAt p 4 ∨ (!bit (wordAt p 4) 29 ∧ 2047 < fld (wordAt p 4) 0 29) ∨
      (prod ∧ taken) then some 4
  else if leAt p 8 2 < 10 ∨ 1000 < leAt p 8 2 then some 8
  else if leAt p 10 2 < 5 ∨ 500 < leAt p 10 2 then some 10
  else if 15 < leAt p 12 1 then some 12
  else if leAt p 13 3 ≠ 0 then some 13
  else none

/-- OBJ_CFG of a connection's object: 32 bytes, FD; a consume object keeps the first (R383). -/
def csObjCfg (k : Nat) : Word := wOf (5 * 2 + (if k < 8 then 1 + 2 ^ 5 else 2 ^ 4))

/-- The connection is configured and opened on its object. -/
def csOpenCan (s : State) (k : Nat) (p : List Byte) : State :=
  let partner := (p.drop 16).take 48
  let inst := leAt p 12 1
  let id := if k < 8 then csIdOf idDigest partner k else csIdOf partner idDigest inst
  let s := s.bindObj (128 * leAt p 0 1 + leAt p 1 1) (csObjCfg k) (wordAt p 4)
  let s := s.w (Reg.csCfgP k) (wOf ((if k < 8 then 0 else 1) + 2 + 4 * leAt p 0 1 + 16 * leAt p 1 1 + 2048 * leAt p 2 1 +
    65536 * leAt p 3 1 + 16777216 * inst))
  let s := (s.w (Reg.csTime k) (wOf (leAt p 8 2 + 65536 * leAt p 10 2))).w (Reg.csId k) id
  (s.csOpen k).updCs k fun c => { c with partner := partner }

def csConnOpenRow : CmdRow where
  opcode := 0x0803
  len := fun n => n == 64
  units := fun c => [.can (Fin.ofNat 4 (leAt c.pay 0 1))]
  pre := fun c s =>
    firstOf [failIf (!c.argOnly 0xF || csInst c == 0 || csInst c == 8) .badArg, (s.csBad c).map .badParam,
      s.lockReply (Acct.cs (csInst c)), failIf (s.csAt (csInst c)).opened .badState,
      failIf (s.objEngine (csPayObj c)) (.badState 5), failIf (s.en (Acct.obj (csPayObj c))) .badState,
      failIf (s.consolidated (Acct.obj (csPayObj c)) || (s.headOf (Acct.obj (csPayObj c))).isSome) .badState,
      failIf (decide (12288 < (s.csOpenCan (csInst c) c.pay).memUsed (leAt c.pay 0 1))) .noSpace]
  run := fun c s =>
    let s := s.csOpenCan (csInst c) c.pay
    (s, some (.ok (s.r (Reg.csId (csInst c)))))

def csConnCloseRow : CmdRow where
  opcode := 0x0804
  pre := fun c s =>
    firstOf [failIf (!c.argOnly 0xF || csInst c == 0 || csInst c == 8) .badArg, s.lockReply (Acct.cs (csInst c))]
  run := fun c s => (s.csClose (csInst c), some (.ok 0))

/-- A PDU reaches connection k: over the link in UP; over CAN FD it is the unread data of the bound object, which
the engine takes (R383). -/
def csArrive (s : State) (k : Nat) (pdu : List Byte) : State :=
  if s.csOverCan k then
    let j := s.csObj k
    if s.objIs j 0 ∧ s.dataBytes j 32 = pdu then (s.wb (Reg.objStat j) 0 false).csJudge k pdu false else s
  else if s.lstate = 4 then s.csJudge k pdu false
  else s

end State

/-- CS_PDU (R379): a PDU of 32 bytes reaches a consume connection; a produce connection takes none. -/
def execCsPdu (k : Fin 16) (pdu : List Byte) (s : State) : Host.Outcome State Fault Refusal :=
  if pdu.length ≠ 32 then .fault .illFormed
  else .next (if k.val < 8 then s else s.csArrive k pdu)

/-- CS_WATCHDOG (R379, R381): no PDU accepted for wd_period. -/
def execCsWatchdog (k : Fin 16) (s : State) : Host.Outcome State Fault Refusal :=
  .next (if k.val < 8 then s else s.csFail k 4)

/-- CS_SAFE_REOPEN (R381): 100 ms in SAFE with a usable path. -/
def execCsSafeReopen (k : Fin 16) (s : State) : Host.Outcome State Fault Refusal :=
  .next (if s.csCode k = 3 ∧ s.csPath k then s.csListen k else s)

/-- CS_PRODUCE (R378, R384): over CAN FD, one PDU per period; on the link a frame carries it (R382). -/
def execCsProduce (k : Fin 16) (s : State) : Host.Outcome State Fault Refusal :=
  if k.val < 8 ∧ (s.csAt k).opened ∧ s.csOverCan k then
    let (s, pdu) := s.csMake k
    .next (s.request2 (s.csObj k) 0 32 pdu)
  else .next s

/-- CS_CONN_OPEN (R385, R386). -/
def execCsConnOpen (src : Src) (s : State) : Host.Outcome State Fault Refusal := .next (s.runRow State.csConnOpenRow src)

/-- CS_CONN_CLOSE (R385). -/
def execCsConnClose (src : Src) (s : State) : Host.Outcome State Fault Refusal := .next (s.runRow State.csConnCloseRow src)

end Sys2Proof.Machine
end

