-- ==== Sys2Proof/Machine/Link.lean ====
section
/-! DEFINITION. The Sheic link (10_sheic_link.md R353 to R374): frames, slices, Till synchronisation, link
states, the tunnel, and the commands of the family. A received frame is one step at the arrival of its comma
(log 64). -/

namespace Sys2Proof.Machine

/-- CRC-32 of R356: 0x04C1_1DB7 reflected. -/
def frameCrc (bs : List Byte) : Nat := (~~~(bs.foldl (crcByte 0xEDB88320#32) 0xFFFFFFFF#32)).toNat

/-- 32 bytes of a slot; nothing is sent as 0 (R356). -/
def slotBytes (pdu : List Byte) : List Byte := padTo 32 pdu

namespace State

def updLink (s : State) (f : LinkSt → LinkSt) : State := { s with link := f s.link }
def updTun (s : State) (f : Tun → Tun) : State := { s with tun := f s.tun }

/-- The cycle in Till counts at the rate in use (R353, R355). -/
def linkP (s : State) : Nat := if s.rb Reg.linkStat 3 then 40000 else 10000

/-- The link engine works: firmware running, account enabled, and in SOLO only the loop (R374, R388). -/
def linkRuns (s : State) : Bool := s.rst.phase == .running && s.runs Acct.sheicLink && s.en Acct.sheicLink

def looped (s : State) : Bool := s.rb Reg.linkCfg 2

/-- The account state of a link state (R366). -/
def linkAcct (l : Nat) : Nat := if l = 4 then 3 else if l = 5 ∨ l = 6 then 6 else if l = 7 then 8 else 1

/-- A 32-bit stamp as the 64-bit value nearest the own Till (R361). -/
def nearTill (s : State) (v : Word) : Nat := ((s.till : Int) + wInt (v - wOf s.till)).toNat

/-! The tunnel (R370 to R373). -/

/-- TUN_STAT (R388). -/
def showTun (s : State) : State :=
  (s.wf Reg.tunStat 0 5 (satN 31 s.tun.outst.length)).wf Reg.tunStat 8 3 s.tun.held.length

/-- The link is gone or the peer restarted: everything in the tunnel is discarded, and what waits on the peer
completes with PEER_ABSENT (R373). -/
def tunAbort (s : State) : State :=
  let cs := s.tun.outst
  let ls := s.tel.longs.filter fun l => l.units.contains .tunnel
  let s := cs.foldl (fun s c => s.complete c .peerAbsent true) s
  let s := ls.foldl (fun s l => s.endLong l .peerAbsent) s
  let s := s.updTun fun t => { Tun.empty with held := t.held }
  (s.addF Reg.tunCnt 16 16 (cs.length + ls.length)).showTun

/-- Bytes of the stream: what is left of a message, then the next messages. -/
def tunTake (s : State) : State × List Byte :=
  let all := s.tun.cur ++ s.tun.q8.flatten
  let used := all.take 92
  let left := fun (ms : List (List Byte)) (n : Nat) =>
    ms.foldl (fun (a : List Byte × List (List Byte) × Nat) m =>
      if m.length ≤ a.2.2 then (a.1, a.2.1, a.2.2 - m.length)
      else if a.2.2 = 0 then (a.1, a.2.1 ++ [m], 0) else (m.drop a.2.2, a.2.1, 0)) ([], [], n)
  let c := s.tun.cur
  if 92 ≤ c.length then (s.updTun fun t => { t with cur := c.drop 92 }, used)
  else
    let r := left s.tun.q8 (92 - c.length)
    (s.updTun fun t => { t with cur := r.1, q8 := r.2.1 }, used)

/-- The tunnel part of a frame (R370). -/
def tunPart (s : State) : State × List Byte :=
  let wrap := fun (kind seq : Nat) (ack : Nat) (d : List Byte) =>
    leBytes 1 kind ++ leBytes 1 d.length ++ leBytes 1 seq ++ leBytes 1 ack ++ padTo 92 d
  match s.tun.resend with
  | (n, d) :: rest =>
    ((s.updTun fun t => { t with resend := rest, stall := t.stall + 1 }).addF Reg.tunCnt 0 16 1, wrap 1 n s.tun.rxSeq d)
  | [] =>
    let s := if s.tun.unacked.isEmpty then s else s.updTun fun t => { t with stall := t.stall + 1 }
    if s.tun.unacked.length < 8 ∧ (!s.tun.cur.isEmpty ∨ !s.tun.q8.isEmpty) then
      let n := s.tun.nextSeq
      let (s, d) := s.tunTake
      (s.updTun fun t => { t with unacked := t.unacked ++ [(n, d)], nextSeq := (n + 1) % 256 }, wrap 1 n s.tun.rxSeq d)
    else (s, wrap 0 0 s.tun.rxSeq [])

/-- An ack number releases the chunks up to it. -/
def tunAck (s : State) (a : Nat) : State :=
  if s.tun.unacked.any fun p => p.1 == a then
    s.updTun fun t =>
      let rest := (t.unacked.dropWhile fun p => p.1 != a).drop 1
      { t with unacked := rest, resend := t.resend.filter fun p => rest.any fun q => q.1 == p.1, stall := 0 }
  else s

/-- A completion of the peer meets the command it belongs to (R371). -/
def tunCompletion (s : State) (b : List Byte) : State :=
  let op := leAt b 0 2
  let tag := leAt b 2 2
  match s.tun.outst.find? fun c => c.opcode == op && c.tag == tag with
  | some c =>
    let d : Done := { opcode := op, tag := tag, status := leAt b 4 1, result := wordAt b 8,
                      resp := if nbit (leAt b 5 1) 0 then s.tun.resp else [], peer := true, loc := false, gen := leAt b 6 2 }
    let s := s.updTun fun t => { t with outst := t.outst.erase c, resp := [] }
    { s with tel := { s.tel with done := s.tel.done ++ [d] } }
  | none =>
    match (if op = 0x0805 then s.longOf .tunnel else none) with
    | some l => s.endLong l ⟨leAt b 4 1, wordAt b 8, []⟩
    | none => s

/-- A host message of the peer: held, or refused when 4 are held (R372). -/
def tunHostMsg (s : State) (b : List Byte) : State :=
  let n := s.tun.held.length
  let answer := fun (s : State) (rp : Reply) =>
    s.tunPost 2 (cplBytes { opcode := 0x0805, tag := 0, status := rp.status, result := rp.result, resp := [], peer := true,
                            loc := false, gen := s.vault.gen } 0)
  if 4 ≤ n then answer (s.setFlt Acct.tunnel 0) .noSpace
  else
    let s := s.updTun fun t => { t with held := t.held ++ [b] }
    answer (s.post Ev.tunnelMsg 0 (n + 1)) (.ok (wOf (n + 1)))

/-- A whole message (R370 to R372); pairing messages belong to the exchanges of R491 and R492. -/
def tunMessage (s : State) (m : List Byte) : State :=
  let b := m.drop 4
  let s := s.qPosted 9 1
  match (m.getD 0 0).toNat with
  | 1 => s.updTun fun t => { t with q9 := t.q9 ++ [m] }
  | 2 => s.tunCompletion b
  | 3 => s.updTun fun t => { t with resp := b.drop 4 }
  | 4 => s.tunHostMsg b
  | _ => s

/-- Messages out of the received stream. -/
def tunParse : Nat → State → State
  | 0, s => s
  | n + 1, s =>
    let b := s.tun.rxBuf
    let len := 4 + leAt b 2 2
    if b.length < 4 ∨ b.length < len then s
    else tunParse n ((s.updTun fun t => { t with rxBuf := t.rxBuf.drop len }).tunMessage (b.take len))

/-- The tunnel part of a received frame (R370). -/
def tunReceive (s : State) (b : List Byte) : State :=
  let s := s.tunAck (leAt b 3 1)
  if leAt b 0 1 = 1 ∧ leAt b 2 1 = (s.tun.rxSeq + 1) % 256 ∧ leAt b 1 1 ≤ 92 then
    let s := s.updTun fun t => { t with rxSeq := leAt b 2 1, rxBuf := t.rxBuf ++ (b.drop 4).take (leAt b 1 1) }
    (tunParse 24 s).showTun
  else s.showTun

/-! Link states (R366, R368). -/

/-- The door requests that the peer has not echoed are dropped when the link leaves UP (R362). -/
def dropRequests (s : State) : State :=
  let late := ([0, 1] : List Nat).filter fun n => s.link.reqSeq.getD n 0 != leAt s.link.slice (46 + n) 1
  if s.role = .machine then
    s.updPrf fun p => { p with openSent := p.openSent.filter fun k =>
      !((s.portsFor (s.slotDeck k) (s.slotDoors k)).any fun n => late.contains n) }
  else s

/-- The states that are not "link down" are left (R366, R368, R373). -/
def linkLost (s : State) : State :=
  let s := s.tunAbort
  let s := s.updFus fun f => { f with sliceUsable := false }
  if s.role = .car then s.wb Reg.fusMstat 3 false else s

/-- The link takes a state; LINK_STATE is posted (R366). -/
def setLink (s : State) (l : Nat) : State :=
  let was := s.lstate
  if was = l then s
  else
    let s := if was = 4 then ((s.dropRequests).updLink fun x => { x with synced := false }).csClosed 0 else s
    let s := if s.linkOpen ∧ !([4, 5, 6] : List Nat).contains l then s.linkLost else s
    let s := (s.wf Reg.linkStat 0 3 l).setCode Acct.sheicLink (linkAcct l)
    s.post Ev.linkState 0 l

/-- Connections 0 and 8 refuse (R366, R381). -/
def linkRefuse (s : State) : State :=
  (((s.csClosed 0).setCs 0 4).setGood 8 0).setCs 8 4

/-- DOWN (R366): counted, flagged when the state was UP. -/
def linkToDown (s : State) : State :=
  if s.lstate = 0 then s
  else
    let s := s.addF Reg.linkCnt2 0 16 1
    let s := if s.lstate = 4 then s.setFlt Acct.sheicLink 1 else s
    let s := (s.setLink 0).wb Reg.linkStat 4 false
    s.updLink fun l => { l with good := 0, missed := 0, thetas := [], lockIn := 0, lockOut := 0, arrival := none,
                                sent := [], passed := false, peerPassed := false, trim := 0 }

/-- The link starts anew with LINK_CFG's rate (R354, R366). -/
def linkRestart (s : State) : State :=
  let slow := s.rf Reg.linkCfg 0 2 == 1
  let s := s.linkToDown
  ((s.updLink fun l => { l with slow := slow, tx := [], lastPdu := [], lastCap := [] }).wb Reg.linkStat 3 slow).setCode
    Acct.sheicLink 1

/-- SYNC is left for CHECK: a new challenge (R366, R492). -/
def linkCheck (s : State) : State :=
  let s := (s.updLink fun l => { l with chal := s.randomBytes, passed := false }).takeFree
  (s.wb Reg.lifePair 2 false).setLink 3

/-- UP: connections 0 and 8 open with the IDs of the pairing record and the set's times (R366, R377, R386). -/
def linkUp (s : State) (peer : List Byte) : State :=
  let time := s.r Reg.csLinkTime
  let s := (s.w (Reg.csId 0) (csIdOf idDigest peer 0)).w (Reg.csId 8) (csIdOf peer idDigest 0)
  let s := ((s.w (Reg.csTime 0) time).w (Reg.csTime 8) time).wf (Reg.csCfgP 0) 24 8 8
  let s := (s.setLink 4).csOpen 0
  let s := if s.csCode 8 = 0 ∨ s.csCode 8 = 4 then s.csOpen 8 else s
  (s.updCs 0 fun c => { c with partner := peer }).updCs 8 fun c => { c with partner := peer }

/-- The pairing check ends (R366, R492): whether the peer's key and signature pass. -/
def checkPasses (s : State) (key sig : List Byte) : Bool :=
  match s.pairActive with
  | some p => sha384 key == p.peer && Config.ecdsaOk key (s.link.chal ++ sha384 key ++ idDigest) sig
  | none => false

def checkEnd (s : State) (key sig : List Byte) : State :=
  let ok := s.checkPasses key sig
  let s := (s.updLink fun l => { l with passed := ok }).wb Reg.lifePair 2 ok
  match s.pairActive with
  | none => (s.setLink 5).linkRefuse
  | some p =>
    if !ok then
      let s := (s.wb Reg.lifePair 3 true).setFlt Acct.lifecycle 1
      let s := { s with cpt := { s.cpt with peerChanged := true } }
      ((s.post Ev.peerChanged 0 0).setLink 6).linkRefuse
    else if s.link.peerPassed then s.linkUp p.peer
    else (s.setLink 5).linkRefuse

/-- sync_locked clears: the link returns to SYNC (R365, R366). -/
def syncLost (s : State) : State :=
  let s := s.wb Reg.linkStat 4 false
  if s.linkOpen then
    let s := if s.lstate = 4 then s.fault Acct.sheicLink 2 Ev.linkFault 0 3 else s
    s.setLink 2
  else s

/-! Sending (R355 to R362). -/

/-- A door word as in the DOORS mirror group (R48): state, and position in 10 um units. -/
def doorWord (s : State) (n : Nat) : Word := wOf (s.doorCode n + 256 * fld (wOfInt (wInt (s.r (Reg.doorPos n)) / 10)) 0 24)

/-- What the CAR slice carries for a port: code 15 where it is not enabled (log 47). -/
def doorSlice (s : State) (n : Nat) : Word := if s.doorLive n then s.doorWord n else 15

/-- A capture entry (R359). -/
def capEntry (p : Nat × CapRec) : List Byte :=
  leBytes 4 p.2.stamp ++ leBytes 1 (p.2.ch + (if p.2.rising then 4 else 0) + 8) ++ leBytes 1 p.1

/-- The CAR slice; the tape read, capture and sample in it count as sent (R359). -/
def carSlice (s : State) : State × List Byte :=
  let new := s.link.tape.isSome
  let seed := s.link.tape.any fun t => t.seed
  let b := Acct.abs 0
  let usable := s.en b && !s.untrusted b && !s.hasFlt b 6
  let capB := match s.link.caps with | c :: _ => capEntry c | [] => []
  let bits := (if new then 1 else 0) + (if seed then 2 else 0) + (if usable then 4 else 0)
  let acc := (if s.link.accNew then 1 else 0) + (if s.en Acct.accPort && s.r (Acct.accPort + 0x10) == 0 then 2 else 0)
  let bs := leBytes 4 (s.r (Reg.absTillL 0)).toNat ++ leBytes 4 (s.r (Reg.absPosL 0)).toNat ++ leBytes 1 (s.r (Reg.absPosH 0)).toNat ++
    leBytes 1 bits ++ padTo 6 s.link.lastCap ++ padTo 6 capB ++ leBytes 4 (s.r Reg.accVert).toNat ++
    leBytes 4 (s.r Reg.accTillL).toNat ++ leBytes 1 acc ++ leBytes 4 (s.r Reg.inStateL).toNat ++
    leBytes 2 (s.rf Reg.inStateH 0 16) ++ leBytes 1 s.pairMask ++
    leBytes 4 (s.doorSlice 0).toNat ++ leBytes 4 (s.doorSlice 1).toNat ++
    leBytes 1 (s.link.taken.getD 0 0) ++ leBytes 1 (s.link.taken.getD 1 0) ++ List.replicate 16 0
  (s.updLink fun l => { l with tape := none, accNew := false, caps := l.caps.drop 1, lastCap := capB }, bs)

/-- The MACHINE slice (R360). -/
def machineSlice (s : State) : List Byte :=
  leBytes 4 (s.r Reg.carpos).toNat ++ leBytes 4 (s.r Reg.carspd).toNat ++ leBytes 4 (s.r Reg.caracc).toNat ++
    leBytes 4 (putBit (s.r Reg.fusMstat) 4 false).toNat ++ leBytes 4 (s.r Reg.fusTillL).toNat ++
    leBytes 1 (s.link.reqSeq.getD 0 0) ++ leBytes 1 (s.link.reqSeq.getD 1 0) ++ leBytes 4 (s.r Reg.inStateL).toNat ++
    leBytes 2 (s.rf Reg.inStateH 0 16) ++ leBytes 1 s.pairMask ++ leBytes 4 (s.r Reg.prfStat).toNat ++ List.replicate 31 0

/-- The header (R357). -/
def linkHeader (s : State) : List Byte :=
  let mac := s.role == .machine
  let cyc := s.till / s.linkP
  let flags := (if mac || s.rb Reg.linkStat 4 then 1 else 0) + (if s.rb Reg.linkStat 3 then 2 else 0) +
    (if s.childFault 0 then 4 else 0) + (if s.link.passed then 8 else 0) +
    (if mac then (match s.link.arrival with | some (c, _) => 16 * (c % 4) | none => 0) else 0)
  let sync := if mac then (match s.link.arrival with | some (_, r) => r | none => 0xFFFF) else s.rf Reg.linkSync 16 16
  leBytes 1 (1 + 16 * s.roleCode + (if s.looped then 64 else 0)) ++ leBytes 1 flags ++ leBytes 2 cyc ++
    leBytes 2 s.vault.gen ++ leBytes 2 sync

/-- The Shortchange touches this frame (R536 perturbation 4). -/
def scFrame (s : State) : Bool := s.scOn 4 && decide (s.rf Reg.scLink 0 16 ≤ s.link.scN + 1)

/-- One frame is sent at its cycle (R355). -/
def frameTx (s : State) : State :=
  let (s, slice) := if s.role = .car then s.carSlice else (s, if s.role = .machine then s.machineSlice else List.replicate 64 0)
  let (s, pdu) := if s.csCode 0 = 2 then s.csMake 0 else (s, [])
  let (s, tun) := s.tunPart
  let body := s.linkHeader ++ slice ++ slotBytes s.link.lastPdu ++ slotBytes pdu ++ tun
  let crc := frameCrc body
  let hit := s.scFrame
  let s := if hit then s.scApplied else s
  let frame := if !hit then body ++ leBytes 4 crc
    else if s.rb Reg.scLink 16 then body ++ leBytes 4 (crc ^^^ 1) else []
  let now := (s.till / s.linkP % 65536, s.till)
  s.updLink fun l =>
    { l with tx := frame, lastPdu := pdu, scN := if hit then 0 else if s.scOn 4 then l.scN + 1 else 0
             sent := (now :: l.sent).take 4, arrival := none }

/-! Till synchronisation (R363 to R365). -/

/-- A step of the CAR Till by theta; samples stamped before it belong to the old epoch (R364). -/
def tillStep (s : State) (theta : Int) : State :=
  let t := (((s.till : Int) - theta) % 2 ^ 64).toNat
  let s := { s with till := t }
  let s := s.wf Reg.linkEpoch 0 16 (s.rf Reg.linkEpoch 0 16 + 1)
  let s := s.updLink fun l =>
    { l with thetas := [0], lockIn := 0, lockOut := 0, sent := [], steppedAt := t, tape := none, caps := [], lastCap := [], trim := 0 }
  (s.post Ev.tillStep 0 (s.rf Reg.linkEpoch 0 16 % 256)).syncLost

/-- Sum of twice theta within `k` counts of 0 in the mean. -/
def meanWithin (l : List Int) (k : Nat) : Bool := decide (l.sum.natAbs ≤ 2 * k * l.length)

/-- One measurement: twice theta joins the last 16; lock and trim follow (R364, R365). -/
def thetaTake (s : State) (th2 : Int) : State :=
  let l := (th2 :: s.link.thetas).take 16
  let inn := if meanWithin l 2 then s.link.lockIn + 1 else 0
  let out := if meanWithin l 8 then 0 else s.link.lockOut + 1
  let s := s.updLink fun x =>
    { x with thetas := l, lockIn := inn, lockOut := out, trim := if 0 < l.sum then -1 else if l.sum < 0 then 1 else 0 }
  if s.rb Reg.linkStat 4 then (if 8 ≤ out then s.syncLost else s)
  else if 32 ≤ inn then s.wb Reg.linkStat 4 true else s

/-- The delay is above max_delay: flagged (R363). -/
def delayCheck (s : State) : State :=
  if s.rf Reg.linkCfg 16 12 < s.rf Reg.linkSync 16 16 ∧ !s.hasFlt Acct.sheicLink 3 then
    s.fault Acct.sheicLink 3 Ev.linkFault 0 2
  else s

/-- The CAR module's measurement at a MACHINE frame (R363). -/
def carMeasure (s : State) (h : List Byte) : State :=
  let p := s.linkP
  let own := s.till / p
  let cyc : Int := (own : Int) + (((leAt h 2 2 : Int) - (own : Int) + 32768) % 65536 - 32768)
  let r := leAt h 6 2
  match s.link.sent.find? fun q => q.1 % 4 == leAt h 1 1 / 16 % 4 with
  | some (_, t3) =>
    if r = 0xFFFF then s
    else
      let t1 : Int := cyc * p
      let t4 : Int := t1 - p + r
      let d2 := ((s.till : Int) - t1) + (t4 - t3)
      let th2 := ((s.till : Int) - t1) - (t4 - t3)
      let s := s.wf Reg.linkSync 16 16 (satN 65535 (d2 / 2).toNat)
      let s := s.wf Reg.linkSync 0 16 ((clampI (-32768) 32767 (8 * th2)) % 65536).toNat
      let s := s.delayCheck
      if s.link.thetas.isEmpty ∨ 400 < th2.natAbs then s.tillStep (th2 / 2) else s.thetaTake th2
  | none => s

/-! Receiving (R357 to R362). -/

/-- A capture entry of the CAR slice: each number once, in order (R361). -/
def takeCapEntry (s : State) (e : List Byte) : State :=
  let f := leAt e 4 1
  let n := leAt e 5 1
  let fresh : Bool := match s.link.capTaken with
    | some k => decide (0 < (n + 256 - k) % 256) && decide ((n + 256 - k) % 256 < 128)
    | none => true
  if nbit f 3 ∧ fresh then
    (s.updLink fun l => { l with capTaken := some n }).updFus fun x =>
      { x with capIn := x.capIn ++ [{ ch := f % 4, stamp := s.nearTill (wordAt e 0), rising := nbit f 2 }] }
  else s

/-- The CAR slice in MACHINE (R359, R361, R362). -/
def takeCarSlice (s : State) (b : List Byte) : State :=
  let f := leAt b 9 1
  let s := s.updLink fun l => { l with slice := b }
  let s := s.updFus fun x =>
    { x with sliceUsable := nbit f 2
             tapeIn := if nbit f 0 then x.tapeIn ++ [{ stamp := s.nearTill (wordAt b 0), value := (leAt b 4 5 : Int), seed := nbit f 1 }]
                       else x.tapeIn }
  let s := (s.takeCapEntry ((b.drop 10).take 6)).takeCapEntry ((b.drop 16).take 6)
  let echo := leAt b 46 1 == s.link.reqSeq.getD 0 0 && leAt b 47 1 == s.link.reqSeq.getD 1 0
  if s.lstate = 4 ∧ echo then s.updLink fun l => { l with synced := true } else s

/-- The MACHINE slice in CAR: motion with remote = 1, and door requests (R360, R362). -/
def takeMachineSlice (s : State) (b : List Byte) : State :=
  let s := s.updLink fun l => { l with slice := b }
  let s := ((s.w Reg.carpos (wordAt b 0)).w Reg.carspd (wordAt b 4)).w Reg.caracc (wordAt b 8)
  let s := s.w Reg.fusMstat (putBit (masked 0x1F (wordAt b 12)) 4 true)
  let s := s.wTill Reg.fusTillL Reg.fusTillH (s.nearTill (wordAt b 16))
  let seqs := [leAt b 20 1, leAt b 21 1]
  if s.lstate ≠ 4 then s
  else
    let s := if s.link.synced then
        ([0, 1] : List Nat).foldl (fun s n =>
          if s.link.taken.getD n 0 ≠ seqs.getD n 0 ∧ s.doorLive n then
            s.updDoor n fun d => { d with reqs := d.reqs ++ [⟨0x0403, 0⟩] }
          else s) s
      else s
    s.updLink fun l => { l with taken := seqs, synced := true }

/-- The version and the sender's role are what this receiver accepts (R358, R374). -/
def headerOk (s : State) (id : Nat) : Bool :=
  id % 16 == 1 && decide (id < 128) &&
    (if s.looped then nbit id 6 && id / 16 % 4 == s.roleCode
     else !nbit id 6 && id / 16 % 4 == (if s.role = .car then 2 else 1))

/-- The peer's flags, role and GEN (R357, R373, R388). -/
def takeHeader (s : State) (h : List Byte) : State :=
  let f := leAt h 1 1
  let gen := leAt h 4 2
  let known := s.rf Reg.linkStat 8 2 != 0
  let changed := known && s.rf Reg.linkStat 16 16 != gen
  let s := if nbit f 2 ∧ !s.rb Reg.linkStat 5 then s.post Ev.peerFault 0 0 else s
  let s := ((s.wb Reg.linkStat 5 (nbit f 2)).wf Reg.linkStat 8 2 (leAt h 0 1 / 16)).wf Reg.linkStat 16 16 gen
  let s := s.updLink fun l => { l with peerPassed := nbit f 3 }
  if changed then s.tunAbort.post Ev.peerReset 0 0 else s

/-- What a good frame tells of the Tills (R363, R365, R366). -/
def takeSync (s : State) (h : List Byte) : State :=
  if s.role = .car then s.carMeasure h
  else
    let s := s.updLink fun l => { l with arrival := some (leAt h 2 2, s.till % s.linkP) }
    let s := (s.wf Reg.linkSync 16 16 (leAt h 6 2)).delayCheck
    let locked := nbit (leAt h 1 1) 0
    if s.rb Reg.linkStat 4 ∧ !locked then s.syncLost else s.wb Reg.linkStat 4 locked

/-- SYNC to CHECK (R366). -/
def syncDone (s : State) : State :=
  if s.lstate = 2 ∧ s.rb Reg.linkStat 4 ∧ s.rf Reg.linkSync 16 16 ≤ s.rf Reg.linkCfg 16 12 then s.linkCheck else s

/-- A good frame with a legal header. -/
def goodFrame (s : State) (frame : List Byte) : State :=
  let h := frame.take 8
  let s := (s.count Acct.sheicLink).updLink fun l => { l with good := satN 16 (l.good + 1), missed := 0 }
  if s.looped then
    let s := if s.lstate = 0 ∧ s.link.good = 16 then s.setLink 7 else s
    if s.lstate = 7 then
      ((s.wf Reg.linkSync 0 16 0).wf Reg.linkSync 16 16 (fld (Config.freeWord s.free) 0 16)).takeFree
    else s
  else
    let s := s.takeHeader h
    if s.lstate = 1 then
      if s.link.good = 16 then
        (s.updLink fun l => { l with thetas := [], lockIn := 0, lockOut := 0 }).setLink 2
      else s
    else
      let s := (s.takeSync h).syncDone
      let s := if s.linkOpen then
          (if s.role = .car then s.takeMachineSlice ((frame.drop 8).take 64) else s.takeCarSlice ((frame.drop 8).take 64))
        else s
      s.tunReceive ((frame.drop 136).take 96)

/-- A received frame (R358, R382). -/
def frameRx (s : State) (frame : List Byte) : State :=
  let good := leAt frame 232 4 == frameCrc (frame.take 232)
  let head := s.headerOk (leAt frame 0 1)
  let judge := fun (s : State) => if s.lstate = 4 ∧ !s.looped then
      let slot := fun (s : State) (o : Nat) =>
        let p := (frame.drop o).take 32
        if p.all (· == 0) then s else s.csJudge 8 p (!good)
      slot (slot s 72) 104
    else s
  if !good then
    let s := (judge s).addF Reg.linkCnt 0 16 1
    s.updLink fun l => { l with good := 0, missed := l.missed + 1 }
  else if !head then
    let s := if s.hasFlt Acct.sheicLink 4 then s else s.fault Acct.sheicLink 4 Ev.linkFault 0 1
    s.updLink fun l => { l with good := 0, missed := l.missed + 1 }
  else (judge s).goodFrame frame

/-! Commands (R385, R565). -/

def linkConfigRow : CmdRow where
  opcode := 0x0801
  len := fun n => n == 4
  pre := fun c s =>
    firstOf [failIf (!c.argOnly 0) .badArg, imagesReply 0 Reg.linkCfg [c.img 0], s.lockReply Acct.sheicLink,
      failIf (s.cpt.st == .runPermitted || s.cpt.st == .parked || (s.role == .solo && !bit (c.img 0) 2)) .badState]
  run := fun c s =>
    let s := (s.setEn Acct.sheicLink false).linkToDown
    let s := (s.w Reg.linkCfg (c.img 0)).setEn Acct.sheicLink true
    (s.linkRestart.showReact, some (.ok 0))

def linkStatusRow : CmdRow where
  opcode := 0x0802
  pre := fun c _ => failIf (!c.argOnly 1) .badArg
  run := fun c s =>
    let n := s.tun.held.length
    let m := if c.argF 0 1 = 1 then s.tun.held.headD [] else []
    let resp := leBytes 4 (s.r Reg.linkStat).toNat ++ leBytes 4 (s.r Reg.linkSync).toNat ++ leBytes 2 (s.rf Reg.linkEpoch 0 16) ++
      leBytes 2 m.length ++ leBytes 4 (s.r Reg.linkCnt).toNat ++ m
    let s := if c.argF 0 1 = 1 then (s.updTun fun t => { t with held := t.held.drop 1 }).showTun else s
    (s, some (.ok (wOf n) resp))

def tunnelSendRow : CmdRow where
  opcode := 0x0805
  long := true
  len := fun n => decide (1 ≤ n) && decide (n ≤ 240)
  units := fun _ => [.tunnel]
  pre := fun c s =>
    firstOf [failIf (!c.argOnly 0) .badArg, failIf (s.role == .solo || !s.linkOpen) .peerAbsent,
      failIf (s.lstate == 6) .peerChanged, failIf (decide (16 ≤ s.tun.q8.length) || s.scRing 8) .busy]
  run := fun c s => ((s.startLong c [.tunnel] []).tunPost 4 c.pay, none)

end State

/-- LINK_CONFIG (R385). -/
def execLinkConfig (src : Src) (s : State) : Host.Outcome State Fault Refusal := .next (s.runRow State.linkConfigRow src)

/-- LINK_STATUS (R385, R565). -/
def execLinkStatus (src : Src) (s : State) : Host.Outcome State Fault Refusal := .next (s.runRow State.linkStatusRow src)

/-- TUNNEL_SEND (R372). -/
def execTunnelSend (src : Src) (s : State) : Host.Outcome State Fault Refusal := .next (s.runRow State.tunnelSendRow src)

/-- LINK_FRAME_TX (R355): the frame is in `link.tx`. -/
def execLinkFrameTx (s : State) : Host.Outcome State Fault Refusal := .next (if s.linkRuns then s.frameTx else s)

/-- LINK_FRAME_RX (R358): 236 bytes behind a comma; in the loop it is the frame last sent (R374). -/
def execLinkFrameRx (frame : List Byte) (s : State) : Host.Outcome State Fault Refusal :=
  let f := if s.looped then s.link.tx else frame
  if frame.length ≠ 236 then .fault .illFormed
  else if !s.linkRuns || f.isEmpty || (s.lstate == 0 && !s.looped) then .next s
  else .next (s.frameRx f)

/-- LINK_FRAME_MISSING (R358). -/
def execLinkFrameMissing (s : State) : Host.Outcome State Fault Refusal :=
  if s.linkRuns ∧ s.lstate ≠ 0 then
    .next ((s.addF Reg.linkCnt 16 16 1).updLink fun l => { l with good := 0, missed := l.missed + 1 })
  else .next s

/-- LINK_DOWN (R366): no good frame for 4 consecutive cycles. -/
def execLinkDown (s : State) : Host.Outcome State Fault Refusal :=
  .next (if s.linkRuns ∧ s.lstate ≠ 7 ∧ 4 ≤ s.link.missed then s.linkToDown else s)

/-- LINK_LOSS_OF_SIGNAL (R366). -/
def execLinkLossOfSignal (s : State) : Host.Outcome State Fault Refusal :=
  .next (if s.linkRuns ∧ s.lstate ≠ 7 then s.linkToDown else s)

/-- LINK_RATE_SWITCH (R354): AUTO, and 2 s without UP. -/
def execLinkRateSwitch (s : State) : Host.Outcome State Fault Refusal :=
  if s.linkRuns ∧ s.rf Reg.linkCfg 0 2 = 2 ∧ s.lstate ≠ 4 ∧ s.lstate ≠ 7 then
    let slow := !s.link.slow
    .next ((s.updLink fun l => { l with slow := slow }).wb Reg.linkStat 3 slow).showReact
  else .next s

/-- COMMA_ALIGNMENT (R366): commas in DOWN. -/
def execCommaAlignment (s : State) : Host.Outcome State Fault Refusal :=
  if s.linkRuns ∧ s.lstate = 0 ∧ !s.looped then
    .next ((s.updLink fun l => { l with good := 0, missed := 0 }).setLink 1)
  else .next s

/-- PAIRING_CHECK_END (R366, R492): the peer's key and signature over the challenge. -/
def execPairingCheckEnd (peerKey sig : List Byte) (s : State) : Host.Outcome State Fault Refusal :=
  .next (if s.linkRuns ∧ s.lstate = 3 then s.checkEnd peerKey sig else s)

/-- TUNNEL_RESEND (R370): three cycles without an advance of ack. -/
def execTunnelResend (s : State) : Host.Outcome State Fault Refusal :=
  .next (if !s.tun.unacked.isEmpty ∧ 3 ≤ s.tun.stall then s.updTun fun t => { t with resend := t.unacked, stall := 0 } else s)

end Sys2Proof.Machine
end

