-- ==== Sys2Proof/Machine/Shortchange.lean ====
section
/-! DEFINITION. The Shortchange (16_auditor_service.md R536 to R539, R548, R568): arming, disarming, and the
perturbations that have occurrences of their own. The others act where their chapters work (scOn). -/

namespace Sys2Proof.Machine

namespace State

/-- Shortchange stops: disarmed, held sessions released, SC_STATE with the cause (R539). -/
def scStop (s : State) (detail : Nat) : State :=
  if !s.rb Reg.scStat 0 then s
  else
    let s := (s.w Reg.scStat 0).updAud fun x => { x with scLive := false, scBy := none }
    let s := (List.range 4).foldl (fun s n =>
      match (s.canAt n).session with
      | some x => if x.held then s.endHeld n else s
      | none => s) s
    s.post Ev.scState 0 detail

/-- Valid bits of the nine SC images, in order (R548). -/
def scMask (k : Nat) : Nat :=
  [0, 0xFFFF, 0xFFFF, 0x00FF01FF, 0x1FFFF, 0xFFFF0007, 0xFFF, 0xFFFF, 0xFFFFFF1F, 0x3FF].getD k 0

/-- The image of perturbation k is in range, and its target runs in this role (R536, R537). -/
def scImageOk (s : State) (k : Nat) (v : Word) : Bool :=
  masked (scMask k) v == v &&
    (match k with
     | 2 => masked 0x3F3F v == v && (List.range 16).all fun n => !bit v n || s.runs (Acct.q n)
     | 3 => within' 1 100 (fld v 16 8)
     | 4 => decide (2 ≤ fld v 0 16) && s.role != .solo
     | 5 => decide (1 ≤ fld v 16 16) && s.runs (Acct.cs (fld v 0 3))
     | 6 => decide (fld v 0 8 ≤ 200) && s.runs (Acct.cap 0)
     | 8 => decide (fld v 0 5 < 26) && fld v 0 5 != 4 && within' 1 4000 (fld v 8 12) && within' 1 4000 (fld v 20 12)
     | 9 => decide (fld v 0 10 ≤ 1000)
     | _ => true)
where
  within' (lo hi n : Nat) : Bool := decide (lo ≤ n) && decide (n ≤ hi)

/-- The first byte offset out of range (R537, R568). -/
def scBad (s : State) (c : Cmd) : Option Nat :=
  let m := leAt c.pay 0 2
  if masked 0x3FE (wOf m) ≠ wOf m ∨ leAt c.pay 2 2 < 1 ∨ 480 < leAt c.pay 2 2 then some 0
  else ((List.range 9).find? fun i =>
    let v := c.img (1 + i)
    if nbit m (1 + i) then !s.scImageOk (1 + i) v else v != 0).map fun i => 4 + 4 * i

def scArmRow : CmdRow where
  opcode := 0x0D03
  len := fun n => n == 40
  pre := fun c s =>
    firstOf [s.lifeReply [0, 3], if s.life = 3 then s.loginReply c else none, failIf (!c.argOnly 0) .badArg,
      (s.scBad c).map .badParam,
      failIf (!(([.ready, .parked] : List SafeState).contains s.cpt.st || (s.cpt.st == .restricted && !s.rb Reg.safeState 13)))
        .badState,
      failIf (!s.stillNow) .badState]
  run := fun c s =>
    let min := leAt c.pay 2 2
    let was := s.rb Reg.scStat 0
    let s := (List.range 9).foldl (fun s i => s.w (Reg.scCpl + 4 * i) (c.img (1 + i))) s
    let s := s.w Reg.scStat (wOf (1 + leAt c.pay 0 2 + 65536 * min))
    let s := s.updAud fun x =>
      { x with scBy := if s.life = 3 then some (srcIface c.src) else none
               scEnds := s.till + min * 12000000000 }
    let s := s.count Acct.shortchange
    (if was then s else s.post Ev.scState 0 1, some (.ok 0))

def scDisarmRow : CmdRow where
  opcode := 0x0D04
  pre := fun c _ => failIf (!c.argOnly 0) .badArg
  run := fun _ s => (s.scStop 2, some (.ok 0))

/-- Controller and object of SC_CAN. -/
def scCanN (s : State) : Nat := s.rf Reg.scCan 0 2
def scCanObj (s : State) : Nat := 128 * s.scCanN + s.rf Reg.scCan 2 7

end State

/-- SC_ARM (R537, R568). -/
def execScArm (src : Src) (s : State) : Host.Outcome State Fault Refusal := .next (s.runRow State.scArmRow src)

/-- SC_DISARM (R539). -/
def execScDisarm (src : Src) (s : State) : Host.Outcome State Fault Refusal := .next (s.runRow State.scDisarmRow src)

/-- SC_DURATION_EXPIRY (R539). -/
def execScDurationExpiry (s : State) : Host.Outcome State Fault Refusal := .next (s.scStop 3)

/-- SC_CAN_LOCK_HOLD (R536 perturbation 3): a read session is held on the RX object. -/
def execScCanLockHold (s : State) : Host.Outcome State Fault Refusal :=
  if s.scOn 3 ∧ (s.canAt s.scCanN).session.isNone ∧ s.maySession s.scCanObj then
    .next (s.scApplied.startSession s.scCanObj true)
  else .next s

/-- SC_CAN_HOLD_END (R333, R536): the held session ends; the host's that waits starts. -/
def execScCanHoldEnd (s : State) : Host.Outcome State Fault Refusal :=
  match (s.canAt s.scCanN).session with
  | some x => .next (if x.held then s.endHeld s.scCanN else s)
  | none => .next s

/-- SC_BANK_STALL (R536 perturbation 8): the bank is occupied; the waits it makes are BANK_STALL's (R429). -/
def execScBankStall (s : State) : Host.Outcome State Fault Refusal := .next (if s.scOn 8 then s.scApplied else s)

end Sys2Proof.Machine
end

