-- ==== Sys2Proof/Machine/Mint.lean ====
section
/-! DEFINITION. The Mint (14_mint_lifecycle.md): image verification, staging and activation, attestation,
pairing, lifecycle changes, and the service login. -/

namespace Sys2Proof.Machine

/-- Bytes of a slot (R476), and of a signature set (R477). -/
def slotSize' : Nat := 3145728
def sigBytes : Nat := 2021

namespace Image

/-- Header fields of R477. -/
def length (b : List Byte) : Nat := leAt b 16 4
def svn (b : List Byte) : Nat := leAt b 12 2
def oem (b : List Byte) : Bool := nbit (leAt b 14 2) 0
def headOk (b : List Byte) : Bool :=
  leAt b 0 4 == 0x544E494D && leAt b 4 4 == 1 && decide (1 ≤ length b) && decide (length b ≤ 3141558)

/-- All bytes of the image: header, body, one or two sets. -/
def total (b : List Byte) : Nat := 128 + length b + sigBytes * (if oem b then 2 else 1)

def body (b : List Byte) : List Byte := (b.drop 128).take (length b)

/-- Signature set i: ECDSA key, signature, LMS key, signature. -/
def set (b : List Byte) (i : Nat) : List Byte := (b.drop (128 + length b + sigBytes * i)).take sigBytes
def key (b : List Byte) (i : Nat) : List Byte := (set b i).take 97
def sig (b : List Byte) (i : Nat) : List Byte := ((set b i).drop 97).take 96
def lmsKey (b : List Byte) (i : Nat) : List Byte := ((set b i).drop 193).take 56
def lmsSig (b : List Byte) (i : Nat) : List Byte := (set b i).drop 249

/-- The first check of a list of (reason, passes) that fails. -/
def firstReason (l : List (Nat × Bool)) : Nat := ((l.find? fun p => !p.2).map fun p => p.1).getD 0

/-- R478 on the bytes of a slot, with the OEM root and the floors; 0: every check passes. -/
def check (b oemRoot : List Byte) (readErr : Bool) (floor : Nat) : Nat :=
  let h := b.take 128
  firstReason
    [(1, headOk b), (10, !readErr),
     (1, decide ((b.drop 20).take 48 = sha384 (body b)) && decide ((b.drop 68).take 32 = sha256 (body b))),
     (2, decide (sha384 (key b 0) = beBytes 48 Config.jgEcdsa.toNat)), (3, Config.ecdsaOk (key b 0) h (sig b 0)),
     (4, decide (sha256 (lmsKey b 0) = beBytes 32 Config.jgLms.toNat)), (5, Config.lmsOk (lmsKey b 0) h (lmsSig b 0)),
     (6, oemRoot.isEmpty || oem b),
     (7, oemRoot.isEmpty || (decide (sha384 (key b 1) = oemRoot.take 48) && Config.ecdsaOk (key b 1) h (sig b 1))),
     (8, oemRoot.isEmpty || (decide (sha256 (lmsKey b 1) = oemRoot.drop 48) && Config.lmsOk (lmsKey b 1) h (lmsSig b 1))),
     (9, decide (floor ≤ svn b))]

end Image

namespace State

/-! Slots (R478, R482, R483). -/

/-- The higher of the two floors (R482). -/
def svnFloor (s : State) : Nat := max s.mint.steps s.vault.floor

def slotOf (s : State) (b : Bool) : Slot := if b then s.mint.slotB else s.mint.slotA
def setSlotOf (s : State) (b : Bool) (x : Slot) : State :=
  s.updMint fun m => if b then { m with slotB := x } else { m with slotA := x }

/-- The reason code of a slot (R478); the factory's image carries every signature it needs (log 62). -/
def slotReason (s : State) (x : Slot) (readErr : Bool) : Nat :=
  match x with
  | .erased => 11
  | .factory => if readErr then 10 else if Config.factorySvn.val < s.svnFloor then 9 else 0
  | .bytes b => Image.check b s.mint.oem readErr s.svnFloor

def slotSvn (x : Slot) : Nat := match x with | .bytes b => Image.svn b | _ => Config.factorySvn.val
def slotDigest (x : Slot) : List Byte :=
  match x with | .bytes b => sha384 (b.take 128) | _ => beBytes 48 Config.factoryDigest.toNat

/-- DEV_VERSION of an image: 3.2.n of the factory's, the header's word of another (R7, R477). -/
def slotVersion (x : Slot) : Word :=
  match x with | .bytes b => wordAt b 8 | _ => wOf (0x03020000 + Config.patchLevel % 65536)

/-- MINT_STAGE (R505). -/
def showStage (s : State) : State :=
  let (n, v) := match s.mint.stage with | some (_, n, v) => (n, v) | none => (0, false)
  (s.wf Reg.mintStage 0 22 n).wb Reg.mintStage 24 v

/-- MINT_SVN and the boot record in MINT_BOOT (R479, R482, R505). -/
def showMint (s : State) : State :=
  let run := s.slotOf s.mint.runB
  let s := s.w Reg.mintSvn (wOf (slotSvn run % 256 + 256 * s.mint.steps + 65536 * (s.vault.floor % 256)))
  (s.wb Reg.mintBoot 1 s.mint.activeB).wb Reg.mintBoot 3 (s.mint.unconfirmed && s.mint.runB == s.mint.activeB)

/-- Contiguous bytes staged in the slot that is not running. -/
def stagedLen (s : State) : Nat :=
  match s.mint.stage with
  | some (b, n, _) => if b = !s.mint.runB then n else 0
  | none => 0

/-- The staged bytes. -/
def stagedBytes (s : State) : List Byte :=
  match s.slotOf (!s.mint.runB) with
  | .bytes b => b.take s.stagedLen
  | _ => []

/-- Bytes are programmed behind the staged ones; the part that completes the image is verified (R483). -/
def stageAppend (s : State) (new : List Byte) (readErr : Bool) : State × Reply :=
  let b := s.stagedBytes ++ new
  let tgt := !s.mint.runB
  let s := (s.setSlotOf tgt (.bytes b)).updMint fun m => { m with stage := some (tgt, b.length, false) }
  if 128 ≤ b.length ∧ Image.total b = b.length then
    let r := Image.check b s.mint.oem readErr s.svnFloor
    let s := s.wf Reg.mintStage 28 4 r
    if r = 0 then
      ((s.updMint fun m => { m with stage := some (tgt, b.length, true) }).showStage, .ok (wOf b.length))
    else ((s.setFlt Acct.mintEngine 2).showStage, ⟨4, wOf r, []⟩)
  else (s.showStage, .ok (wOf b.length))

/-- Commands of the login kind: not in RETURN; in OPERATE and SERVICE with a login (R484, R496). -/
def fwLife (s : State) (c : Cmd) : Option Reply :=
  firstOf [s.lifeReply [0, 1, 2, 3], if s.life = 2 ∨ s.life = 3 then s.loginReply c else none]

/-- A part fits the staged bytes (R483). -/
def partOk (s : State) (o : Nat) (d : List Byte) : Bool :=
  let have' := s.stagedBytes
  decide (o ≤ have'.length) && (List.isPrefixOf ((have'.drop o).take d.length) d) &&
    decide (o + d.length ≤ slotSize') &&
    (decide (have'.length < 128) || decide (o + d.length ≤ Image.total have') || decide (o + d.length ≤ have'.length))

def fwStageRow (readErr : Bool) : CmdRow where
  opcode := 0x0C05
  long := true
  len := fun n => decide (5 ≤ n) && decide (n ≤ 244)
  units := fun _ => [.stagingSlot]
  pre := fun c s =>
    firstOf [s.fwLife c, failIf (!c.argOnly 0) .badArg,
      failIf (leAt c.pay 0 4 != 0 && !s.partOk (leAt c.pay 0 4) (c.pay.drop 4)) (.badParam 0)]
  run := fun c s =>
    let o := leAt c.pay 0 4
    let d := c.pay.drop 4
    if o = 0 then
      let s := (s.updMint fun m => { m with stage := some (!s.mint.runB, 0, false) }).showStage
      ((s.startLong c [.stagingSlot] c.pay).request 0x51, none)
    else
      let new := d.drop (s.stagedLen - o)
      if new.isEmpty then (s, some (.ok (wOf s.stagedLen)))
      else
        let (s, rp) := s.stageAppend new readErr
        (s, some rp)

/-- The erase that a part at offset 0 starts has ended (R483). -/
def eraseDone (s : State) (ok : Bool) : State :=
  match s.tel.longs.find? fun l => l.cmd.opcode == 0x0C05 with
  | none => s
  | some l =>
    if !s.hasGrant 0x51 then s
    else
      let s := s.release1 0x51
      if !ok then s.endLong l (.hwFault (s.r (Acct.mintEngine + 0x10)))
      else
        let s := s.setSlotOf (!s.mint.runB) .erased
        let (s, rp) := s.stageAppend (l.keep.drop 4) false
        s.endLong l rp

/-- FW_ACTIVATE with one of its modes; its first row also answers a mode that does not exist (R484, R567). -/
def fwActivateRow (mode : Nat) (pre : State → Option Reply) (run : State → State × Word) : CmdRow where
  opcode := 0x0C06
  long := true
  form := fun c => if mode = 0 then c.argF 0 2 == 0 || c.argF 0 2 == 3 else c.argF 0 2 == mode
  units := fun _ => [.stagingSlot]
  pre := fun c s => firstOf [s.fwLife c, failIf (!c.argOnly 3 || c.argF 0 2 == 3) .badArg, pre s]
  run := fun _ s =>
    let (s, r) := run s
    (s, some (.ok r))

def switchPre (s : State) : Option Reply :=
  failIf (!(s.mint.stage.any fun (p : Bool × Nat × Bool) => p.2.2) || !s.stationary || s.tripGroupOn) .badState

/-- SWITCH: the staged slot becomes active, and a SOFT reset follows (R484). -/
def switchRun (s : State) : State × Word :=
  let tgt := (s.mint.stage.map fun p => p.1).getD s.mint.activeB
  let s := s.updMint fun m => { m with activeB := tgt, trial := 1, unconfirmed := true }
  ({ s with rst := { s.rst with softDue := true } }.showMint, 0)

def inTrial (s : State) : Bool := s.rb Reg.mintBoot 3

/-- CONFIRM: the vault floor rises to the running svn (R482, R484). -/
def confirmRun (s : State) : State × Word :=
  let v := max s.vault.floor (slotSvn (s.slotOf s.mint.runB))
  let s := s.updMint fun m => { m with trial := 0, unconfirmed := false, stage := none }
  let s := { s with vault := { s.vault with floor := v } }
  ((s.showMint.showStage).post Ev.mintSvn 0 1, wOf v)

/-- BURN: OTP steps up to the running svn (R482, R484). -/
def burnRun (s : State) : State × Word :=
  let v := slotSvn (s.slotOf s.mint.runB)
  ((s.updMint fun m => { m with steps := v }).showMint.post Ev.mintSvn 0 2, wOf v)

/-! Signatures and attestation (R485, R487, R488). -/

/-- MINT_LMS.remaining (R487). -/
def lmsLeft (s : State) : Nat := 2 ^ 20 - s.mint.lmsEnd

def showLms (s : State) : State := (s.w Reg.mintLms (wOf s.lmsLeft)).w Reg.mintLmsQ (wOf (s.mint.lmsNext % 2 ^ 20))

/-- One LMS index is taken, a new block reserved where the last is used up (R487). -/
def lmsTake (s : State) : State × Nat :=
  let q := s.mint.lmsNext
  let s := s.updMint fun m => { m with lmsNext := q + 1, lmsEnd := if q = m.lmsEnd then m.lmsEnd + 64 else m.lmsEnd }
  let s := s.showLms.count Acct.mintEngine
  (if s.lmsLeft < 65536 ∧ !s.hasFlt Acct.mintEngine 1 then s.fault Acct.mintEngine 1 Ev.mintLmsLow 0 0 else s, q)

def bitsNat (l : List Bool) : Nat := maskOf ((List.range l.length).filter fun i => l.getD i false)

/-- The 256 bytes of a report (R488). -/
def reportBody (s : State) (nonce : List Byte) (q : Nat) : List Byte :=
  let run := s.slotOf s.mint.runB
  leBytes 2 1 ++ leBytes 1 s.roleCode ++ leBytes 1 s.life ++ leBytes 2 s.vault.gen ++
    leBytes 2 (bitsNat [s.rb Reg.mintBoot 2, s.inTrial, !s.mint.oem.isEmpty, s.setValid]) ++ leBytes 8 s.till ++
    leBytes 4 (s.r Reg.devPart).toNat ++ leBytes 4 (s.r Reg.devVersion).toNat ++ leBytes 2 (slotSvn run) ++
    leBytes 2 s.mint.steps ++ leBytes 2 s.vault.floor ++ leBytes 2 0 ++ slotDigest run ++ s.parDigest ++ s.setDigest ++
    (if s.role = .solo then List.replicate 16 0 else s.pairId) ++ idDigest ++ padTo 32 nonce ++ leBytes 4 q ++
    leBytes 4 s.lmsLeft ++ List.replicate 8 0

/-- A new report: body, ECDSA signature, LMS signature (R488). -/
def signReport (s : State) (nonce : List Byte) : State × List Byte :=
  let (s, q) := s.lmsTake
  let b := s.reportBody nonce q
  (s, b ++ beBytes 96 (Config.ecdsaSign b).toNat ++ beBytes 1772 (Config.lmsSign q b).toNat)

/-- Without the seal nothing unwraps (R485). -/
def sealReply (s : State) : Option Reply := failIf (!s.vault.sealValid) .denied

def attestTotal (s : State) : Nat := match s.mint.report with | some r => r.length | none => 0

def attestOfs (c : Cmd) : Nat := c.argF 0 16

def attestRow (sign : Bool) : CmdRow where
  opcode := 0x0C01
  long := true
  len := fun n => n == 0 || n == 32
  form := fun c => (attestOfs c == 0) == sign
  units := fun _ => [.mint]
  pre := fun c s =>
    firstOf [failIf (c.len != (if sign then 32 else 0)) (.badParam 0xFFFFFF04), s.lifeReply [0, 1, 2, 3],
      failIf (!c.argOnly 0xFFFF) .badArg,
      failIf (!sign && s.mint.report.isSome && decide (s.attestTotal ≤ attestOfs c)) .badArg,
      failIf (!sign && s.mint.report.isNone) .badState, s.sealReply,
      failIf (sign && s.lmsLeft == 0) .noSpace]
  run := fun c s =>
    let s :=
      if sign then
        let (s, r) := s.signReport c.pay
        s.updMint fun m => { m with report := some (r ++ Config.deviceCert.take 1024) }
      else s
    let r := s.mint.report.getD []
    (s, some (.ok (wOf r.length) ((r.drop (attestOfs c)).take 240)))

/-! Pairing (R489 to R493). -/

/-- The reason for which the peer's report and certificate fail (R491), if they do. -/
def peerReason (s : State) (x : PairExchange) (nonce : List Byte) : Option Nat :=
  let b := x.peerReport.take 256
  if !(Config.deviceChain x.peerCert && decide (Config.deviceKey x.peerCert = x.peerKey) &&
      Config.ecdsaOk x.peerKey b ((x.peerReport.drop 256).take 96) &&
      Config.lmsOk (Config.deviceLms x.peerCert) b ((x.peerReport.drop 352).take 1772) &&
      decide ((b.drop 208).take 32 = nonce)) then some 1
  else if leAt b 2 1 ≠ (if s.role = .car then 2 else 1) then some 2
  else if !([1, 2, 3] : List Nat).contains (leAt b 3 1) then some 3
  else if x.oemRoots ≠ s.mint.oem then some 4
  else none

/-- A login is needed but in COMMISSION without a record (R491). -/
def pairLogin (s : State) (c : Cmd) : Option Reply :=
  if s.life = 1 ∧ s.pairActive.isNone then none else s.loginReply c

/-- The record becomes ACTIVE: PAIRED, and the check runs again (R491, R493). -/
def pairDone (s : State) (peer : List Byte) : State :=
  let s := s.updMint fun m =>
    { m with pairRec := some { active := true, peer := peer, role := if s.role = .car then 2 else 1, oem := m.oem } }
  let s := { s with cpt := { s.cpt with peerChanged := false } }
  ((s.wb Reg.lifePair 3 false).showPair.post Ev.paired 0 0).linkCheck

def pairRow (x : PairExchange) : CmdRow where
  opcode := 0x0C02
  long := true
  units := fun _ => [.mint]
  pre := fun c s =>
    firstOf [failIf (s.role != .car && s.role != .machine) (.badState 2), s.lifeReply [1, 2, 3], s.pairLogin c,
      failIf (!c.argOnly 0) .badArg, failIf (s.lstate != 5 && s.lstate != 6) .badState,
      failIf (s.tripGroupOn || !x.peerOutputsOff) .badState, s.sealReply, failIf (s.lmsLeft == 0) .noSpace]
  run := fun _ s =>
    if !x.peerTakesPart then (s, some .denied)
    else
      let nonce := s.randomBytes
      let (s, _) := s.takeFree.signReport nonce
      match s.peerReason x nonce with
      | some r => (s, some (.denied (wOf r)))
      | none =>
        if !x.peerAccepts then (s, some .denied)
        else
          let peer := sha384 x.peerKey
          let s := (s.updMint fun m =>
            { m with pairRec := some { active := false, peer := peer, role := if s.role = .car then 2 else 1, oem := m.oem } }).showPair
          if x.confirmed then (s.pairDone peer, some (.ok 0)) else (s, some .timeout)

def pairCheckRow (key sig : List Byte) : CmdRow where
  opcode := 0x0C03
  long := true
  units := fun _ => [.mint]
  pre := fun c s => firstOf [failIf (!c.argOnly 0) .badArg, failIf (s.role == .solo || !s.linkOpen) .peerAbsent, s.sealReply]
  run := fun _ s =>
    let s := (s.updLink fun l => { l with chal := s.randomBytes }).takeFree
    let ok := s.checkPasses key sig
    let s := s.wb Reg.lifePair 2 ok
    (s, some (.ok (if s.pairActive.isNone then 5 else if !ok then 6 else if s.link.peerPassed then 4 else 5)))

/-! Login (R498, R499). -/

/-- LIFE_STATE and LIFE_LOGIN (R506). -/
def showLogin (s : State) : State :=
  let s := match s.mint.login with
    | some l =>
      let left := (l.ends - s.vault.rtc + 60 * 32768 - 1) / (60 * 32768)
      ((s.wb Reg.lifeState 3 true).wf Reg.lifeState 4 2 l.iface).wf Reg.lifeState 16 16 left
    | none => ((s.wb Reg.lifeState 3 false).wf Reg.lifeState 4 2 0).wf Reg.lifeState 16 16 0
  s.w Reg.lifeLogin (wOf (satN 255 s.vault.refusals + 256 * (s.vault.certFloor % 256) + 65536 * s.vault.lockSecs))

/-- A login ends: LOGIN detail 1; the Shortchange that it armed disarms (R499, R539). -/
def loginEnd (s : State) : State :=
  match s.mint.login with
  | none => s
  | some _ =>
    let s := ((s.updMint fun m => { m with login := none }).showLogin).post Ev.login 0 1
    if s.aud.scBy.isSome then s.scStop 4 else s

/-- A refused attempt: counted; the fifth in a row and every further one locks out (R499). -/
def loginRefuse (s : State) : State :=
  let n := s.vault.refusals + 1
  let lock := if n < 5 then 0 else min 3600 (60 * 2 ^ (min 6 (n - 5)))
  let s := { s with vault := { s.vault with refusals := n, lockSecs := lock } }
  let s := s.showLogin.post Ev.login 0 2
  if lock = 0 then s else (s.setFlt Acct.lifecycle 2).post Ev.login 0 3

/-- The checks of R498 on the requested minutes, the signature and the certificate. -/
def loginPasses (s : State) (min : Nat) (sig cert : List Byte) : Bool :=
  match s.mint.chal with
  | none => false
  | some (_, ch, _) =>
    decide (1 ≤ min) && decide (min ≤ 480) && Config.serviceChain s.mint.oem cert &&
      decide (s.vault.certFloor ≤ (Config.serviceGen cert).toNat) &&
      Config.ecdsaOk (Config.serviceKey cert) (ch ++ idDigest ++ leBytes 2 min) sig

/-- An attempt on an interface: accepted, or refused (R498, R499). -/
def loginTry (s : State) (iface min : Nat) (sig cert : List Byte) : State × Bool :=
  if s.loginPasses min sig cert then
    let s := s.loginEnd
    let floor := max s.vault.certFloor (Config.serviceFloor cert).toNat
    let s := { s with vault := { s.vault with refusals := 0, lockSecs := 0, certFloor := floor } }
    let s := s.updMint fun m => { m with login := some ⟨iface, s.vault.rtc + min * 60 * 32768⟩, chal := none }
    ((s.showLogin.count Acct.lifecycle).post Ev.login 0 0, true)
  else ((s.updMint fun m => { m with chal := none }).loginRefuse, false)

/-- Login is locked out (R499, R567). -/
def lockReply' (s : State) : Option Reply :=
  failIf (decide (0 < s.vault.lockSecs)) (.denied (wOf (0x80000000 + s.vault.lockSecs)))

/-- A new challenge for an interface. -/
def newChallenge (s : State) (iface : Nat) : State :=
  (s.updMint fun m => { m with chal := some (iface, s.randomBytes, s.till) }).takeFree

def loginPartBad (s : State) (c : Cmd) : Bool :=
  let o := leAt c.pay 0 2
  let n := if o = 0 then 0 else s.mint.part.length
  decide (o ≠ n) || decide (leAt c.pay 2 2 < o + (c.len - 4)) || (o != 0 && decide (leAt c.pay 2 2 ≠ s.mint.partTotal))

/-- SERVICE_LOGIN by steps; the first row also answers step 3. -/
def loginRow (step : Nat) (len : Nat → Bool) (pre : Cmd → State → Option Reply) (run : Cmd → State → State × Reply) :
    CmdRow where
  opcode := 0x0C07
  long := true
  len := fun n => n == 0 || (decide (5 ≤ n) && decide (n ≤ 244))
  form := fun c => if step = 0 then c.argF 0 2 == 0 || c.argF 0 2 == 3 else c.argF 0 2 == step
  units := fun _ => [.mint]
  pre := fun c s =>
    firstOf [failIf (!len c.len && c.argF 0 2 != 3) (.badParam 0xFFFFFF04), s.lifeReply [0, 1, 2, 3],
      failIf (!c.argOnly 3 || c.argF 0 2 == 3) .badArg, pre c s]
  run := fun c s =>
    let (s, rp) := run c s
    (s, some rp)

def challengeRow : CmdRow :=
  loginRow 0 (· == 0) (fun _ s => firstOf [s.sealReply, s.lockReply']) fun c s =>
    let s := s.newChallenge (srcIface c.src)
    (s, .ok 0 ((s.mint.chal.map fun p => p.2.1).getD [] ++ idDigest))

def responseRow : CmdRow :=
  loginRow 1 (fun n => decide (5 ≤ n))
    (fun c s => firstOf [failIf (decide (leAt c.pay 2 2 < 100) || decide (2400 < leAt c.pay 2 2)) (.badParam 2),
      failIf (s.loginPartBad c) ⟨4, wOf (0x80000000 + s.mint.part.length), []⟩, s.sealReply, s.lockReply'])
    fun c s =>
      let t := (if leAt c.pay 0 2 = 0 then [] else s.mint.part) ++ c.pay.drop 4
      if t.length < leAt c.pay 2 2 then
        (s.updMint fun m => { m with part := t, partTotal := leAt c.pay 2 2 }, .ok (wOf t.length))
      else
        let s := s.updMint fun m => { m with part := [], partTotal := 0 }
        let r := s.loginTry (srcIface c.src) (leAt t 0 2) ((t.drop 2).take 96) (t.drop 98)
        (r.1, if r.2 then .ok (wOf (leAt t 0 2)) else (r.1.lockReply').getD .denied)

/-- Logout ends the login of this interface; without one it does nothing (R499, log 67). -/
def logoutRow : CmdRow :=
  loginRow 2 (· == 0) (fun _ _ => none) fun c s => (if s.loginHere c then s.loginEnd else s, .ok 0)

/-! Lifecycle (R494 to R497). -/

/-- The strongroom is wiped and read back (R436). -/
def wipe (s : State) (w : WipeResult) : State :=
  if w.firstOk || w.secondOk then s.post Ev.srWipe 24 0
  else
    let s := ((s.setFlt (Acct.bank 24) 7).setFlt (Acct.bank 25) 7).post Ev.srWipe 24 1
    { s with banks := { s.banks with wipeFail := true } }

/-- The seal is erased; nothing unwraps any more (R485, R489, R502). -/
def eraseSeal (s : State) : State :=
  let s := { s with vault := { s.vault with sealValid := false } }
  ((s.wb Reg.tampStat 16 false).setCode Acct.mintEngine 6).showPair

/-- The transitions of R495 that LIFE_SET can ask for. -/
def lifeMay (from' tgt : Nat) : Bool :=
  (([1, 3] : List Nat).contains from' && tgt == 2) || (from' == 2 && tgt == 3) || (([1, 2, 3] : List Nat).contains from' && tgt == 4)

/-- A Mint, staging or safety set operation is in progress (R495). -/
def lifeBusy (s : State) : Bool :=
  (s.tel.longs.any fun l => ([0x0C02, 0x0C05, 0x0C06, 0x0603] : List Nat).contains l.cmd.opcode) || !s.cpt.staged.isEmpty

def lifeSetRow (w : WipeResult) : CmdRow where
  opcode := 0x0C04
  long := true
  units := fun _ => [.mint]
  pre := fun c s =>
    let tgt := c.argF 0 3
    firstOf [if s.life = 1 ∧ tgt = 2 then none else if lifeMay s.life tgt then s.loginReply c else none,
      failIf (!c.argOnly 7 || !lifeMay s.life tgt) .badArg,
      failIf (!s.stationary || s.tripGroupOn || s.lifeBusy) .badState,
      failIf (tgt == 2 && (!s.setValid || (s.role != .solo && s.pairActive.isNone))) .badState]
  run := fun c s =>
    let tgt := c.argF 0 3
    let s := s.updMint fun m =>
      if tgt = 4 then { m with returned := true }
      else { m with comm := true, lifeRec := some (tgt == 3) }
    let s := if tgt = 4 then s.eraseSeal else s
    let s := ((s.post Ev.lifeChange 0 tgt).loginEnd).wipe w
    ({ s with rst := { s.rst with lifeDue := true } }, some (.ok 0))

end State

/-- FW_STAGE (R483, R567): whether a verification meets an uncorrectable flash error. -/
def execFwStage (src : Src) (readErr : Bool) (s : State) : Host.Outcome State Fault Refusal :=
  .next (s.runRow (State.fwStageRow readErr) src)

/-- SLOT_ERASE_DONE (R483). -/
def execSlotEraseDone (ok : Bool) (s : State) : Host.Outcome State Fault Refusal := .next (s.eraseDone ok)

/-- FW_ACTIVATE SWITCH (R484). -/
def execFwActivateSwitch (src : Src) (s : State) : Host.Outcome State Fault Refusal :=
  .next (s.runRow (State.fwActivateRow 0 State.switchPre State.switchRun) src)

/-- FW_ACTIVATE CONFIRM (R484). -/
def execFwActivateConfirm (src : Src) (s : State) : Host.Outcome State Fault Refusal :=
  .next (s.runRow (State.fwActivateRow 1 (fun s => State.failIf (!s.inTrial) .badState) State.confirmRun) src)

/-- FW_ACTIVATE BURN (R484). -/
def execFwActivateBurn (src : Src) (s : State) : Host.Outcome State Fault Refusal :=
  .next (s.runRow (State.fwActivateRow 2
    (fun s => State.failIf (s.inTrial || decide (State.slotSvn (s.slotOf s.mint.runB) ≤ s.mint.steps)) .badState)
    State.burnRun) src)

/-- ATTEST with a nonce (R488). -/
def execAttest (src : Src) (s : State) : Host.Outcome State Fault Refusal := .next (s.runRow (State.attestRow true) src)

/-- ATTEST at an offset (R488). -/
def execAttestRead (src : Src) (s : State) : Host.Outcome State Fault Refusal := .next (s.runRow (State.attestRow false) src)

/-- PAIR (R491): what the exchange over the tunnel brings. -/
def execPair (src : Src) (x : PairExchange) (s : State) : Host.Outcome State Fault Refusal :=
  .next (s.runRow (State.pairRow x) src)

/-- PAIR_CHECK (R492): the peer's key and signature. -/
def execPairCheck (src : Src) (peerKey sig : List Byte) (s : State) : Host.Outcome State Fault Refusal :=
  .next (s.runRow (State.pairCheckRow peerKey sig) src)

/-- LIFE_SET (R495 to R497): what the wipe's read-back finds. -/
def execLifeSet (src : Src) (wipe : WipeResult) (s : State) : Host.Outcome State Fault Refusal :=
  .next (s.runRow (State.lifeSetRow wipe) src)

/-- SERVICE_LOGIN step 0 (R498). -/
def execServiceLoginChallenge (src : Src) (s : State) : Host.Outcome State Fault Refusal := .next (s.runRow State.challengeRow src)

/-- SERVICE_LOGIN step 1 (R498, R499). -/
def execServiceLoginResponse (src : Src) (s : State) : Host.Outcome State Fault Refusal := .next (s.runRow State.responseRow src)

/-- SERVICE_LOGIN step 2 (R499). -/
def execServiceLoginLogout (src : Src) (s : State) : Host.Outcome State Fault Refusal := .next (s.runRow State.logoutRow src)

/-- LOGIN_EXPIRY (R499): the duration runs out. -/
def execLoginExpiry (s : State) : Host.Outcome State Fault Refusal := .next s.loginEnd

/-- LOGIN_LOCKOUT_EXPIRY (R499). -/
def execLoginLockoutExpiry (s : State) : Host.Outcome State Fault Refusal :=
  .next ({ s with vault := { s.vault with lockSecs := 0 } }.showLogin)

/-- LOGIN_CHALLENGE_EXPIRY (R567): 5 minutes. -/
def execLoginChallengeExpiry (s : State) : Host.Outcome State Fault Refusal := .next (s.updMint fun m => { m with chal := none })

end Sys2Proof.Machine
end

