-- ==== Sys2Proof/Machine/Ledger.lean ====
section
/-! DEFINITION. The Ledger: records, sectors, commits, erases, the freeze, reading, archiving and releasing
(13_ledger.md). The intake itself is in Ops.lean. -/

namespace Sys2Proof.Machine

/-! Records (R451). -/

/-- The 64 bytes of a record. -/
def recordBytes (e : Entry) (seq : Nat) : List Byte :=
  let b := leBytes 8 e.ev.till ++ leBytes 2 (e.ev.code + 8192 * classNum e.ev.cls) ++ leBytes 2 e.ev.src ++
    leBytes 4 seq ++ leBytes 2 e.count ++ leBytes 1 e.ev.detail ++ leBytes 1 e.detailLast ++
    leBytes 1 ((if e.overflow then 1 else 0) + (if e.held then 2 else 0) + (if e.recOnly then 4 else 0)) ++ [0] ++
    leBytes 2 e.gen ++ leBytes 8 e.tillLast ++ padTo 28 e.ev.data
  b ++ leBytes 4 (crc32c b).toNat

/-- Code and class of a record. -/
def recCode (bs : List Byte) : Nat := leAt bs 8 2 % 8192
def recClass (bs : List Byte) : Nat := leAt bs 8 2 / 8192

/-- `a` comes before `b` modulo 2^32, read as signed (R452). -/
def seqBefore (a b : Nat) : Bool := decide (0x80000000 ≤ (a + 0x100000000 - b % 0x100000000) % 0x100000000)

namespace Sector

/-- The records of a sector, oldest first. -/
def records (x : Sector) : List (Nat × List Byte) :=
  x.slots.filterMap fun r => match r with
    | .whole q bs => some (q, bs)
    | .torn => none

/-- Programmed slots. -/
def used (x : Sector) : Nat := x.slots.length

end Sector

namespace State

/-- Sector i of the region, 0 to 2047 (R455). -/
def secAt (s : State) (i : Nat) : Sector := Sparse.get (fun _ => Sector.blank) s.ldg.sectors i

def setSec (s : State) (i : Nat) (x : Sector) : State :=
  s.updLdg fun l => { l with sectors := Sparse.set (fun _ => Sector.blank) l.sectors i x }

/-- First sector and size of partition p: 0 SEALED, 1 GENERAL. -/
def partBase (p : Nat) : Nat := if p = 0 then 0 else 256
def partSize (p : Nat) : Nat := if p = 0 then 256 else 1792
def inPart (p i : Nat) : Bool := (decide (i < 256)) == (p == 0)

/-- The sectors of a partition that are not as delivered. -/
def partSectors (s : State) (p : Nat) : List (Nat × Sector) := s.ldg.sectors.filter fun x => inPart p x.1

/-- Sectors of a partition in some state. -/
def partCount (s : State) (p : Nat) (f : SecState → Bool) : Nat := ((s.partSectors p).filter fun x => f x.2.st).length

/-- ERASED sectors of a partition. -/
def erasedIn (s : State) (p : Nat) : Nat := partSize p - s.partCount p (· != SecState.erased)

/-- The OPEN sector of a partition. -/
def openSec (s : State) (p : Nat) : Option Nat := ((s.partSectors p).find? fun x => x.2.st == .opened).map (·.1)

/-- Every record held, with its partition, sequence order not implied. -/
def heldRecords (s : State) (p : Nat) : List (Nat × List Byte) := (s.partSectors p).flatMap fun x => x.2.records

/-- Records in sequence order (R452): a record's age is its distance from the next seq. -/
def bySeq (s : State) (l : List (Nat × List Byte)) : List (Nat × List Byte) :=
  sortBy (fun a b =>
    decide ((s.ldg.nextSeq + 0x100000000 - b.1) % 0x100000000 ≤ (s.ldg.nextSeq + 0x100000000 - a.1) % 0x100000000)) l

/-- The first ERASED sector at or after place n of a partition, in ring order. -/
def nextErased (s : State) (p : Nat) : Nat → Nat → Option Nat
  | 0, _ => none
  | k + 1, n =>
    let i := partBase p + n % partSize p
    if (s.secAt i).st = .erased then some i else nextErased s p k (n + 1)

/-- The place after the partition's newest sector; SEALED fills upwards from 0 (R455). -/
def ringNext (s : State) (p : Nat) : Nat :=
  if p = 0 then 0
  else
    match ((s.partSectors 1).flatMap fun x => x.2.records.map fun r => (r.1, x.1)).foldl (fun (m : Option (Nat × Nat)) r =>
      match m with
      | none => some r
      | some q => if seqBefore q.1 r.1 then some r else some q) none with
    | some (_, i) => i - 256 + 1
    | none => 0

/-- The sector that takes the next record of a partition. -/
def writeSec (s : State) (p : Nat) : Option Nat :=
  match s.openSec p with
  | some i => some i
  | none => s.nextErased p (partSize p) (s.ringNext p)

/-- SEALED holds no free slot (R456). -/
def sealedFull (s : State) : Bool := (s.writeSec 0).isNone

/-- LDG_STAT.overflow: SAFETY and SECURITY records go to GENERAL (R456, R470). -/
def toOverflow (s : State) : Bool := s.sealedFull || s.ldg.releasing

/-- SEALED sectors of GENERAL (R456). -/
def sealedInRing (s : State) : Nat := s.partCount 1 (· == SecState.sealed)

/-- The oldest seq of some records. -/
def oldestSeq (s : State) (l : List (Nat × List Byte)) : Option Nat := (s.bySeq l).head?.map (·.1)
def newestSeq (s : State) (l : List (Nat × List Byte)) : Option Nat := (s.bySeq l).getLast?.map (·.1)

def partEvent (s : State) (p : Nat) (k : EvKind) (detail : Nat) : State := s.post k p detail

/-! Commits (R457, R466). -/

/-- The entry that the next commit takes (R457): SAFETY and SECURITY first; the others wait while an erase
runs. -/
def commitIndex (s : State) : Option Nat :=
  match s.ldg.intake.findIdx? fun e => classKept e.ev.cls with
  | some i => some i
  | none =>
    if s.ldg.intake.isEmpty then none
    else
      match s.ldg.erase with
      | some x => if x.waiting then some 0 else none
      | none => some 0

/-- After an entry has freed: a waiting SAFETY or SECURITY event takes its place (R460 rule 2). -/
def admitWaiting (s : State) : State :=
  match s.ldg.waiting with
  | e :: t => if s.intakeFill < 256 then intakeTake e (s.updLdg fun l => { l with waiting := t }) else s
  | [] => s

/-- A sector that has taken its slot 63 becomes FULL, or SEALED (R454, R456). -/
def closeSec (s : State) (p i : Nat) : State :=
  let x := s.secAt i
  if x.used < 63 ∨ x.st ≠ .opened then s
  else if p = 0 then s.setSec i { x with st := .sealed }
  else if !x.overflow then s.setSec i { x with st := .full }
  else if s.sealedInRing < 896 then s.setSec i { x with st := .sealed }
  else
    let s := s.setSec i { x with st := .full }
    if s.ldg.limitPosted then s else (s.updLdg fun l => { l with limitPosted := true }).partEvent 0 Ev.sealedFull 2

/-- SEALED nears its end, or is full (R456). -/
def sealedLevel (s : State) : State :=
  let s := if s.erasedIn 0 < 16 ∧ !s.ldg.nearFull then
      (s.updLdg fun l => { l with nearFull := true }).partEvent 0 Ev.sealedFull 0
    else s
  if s.sealedFull ∧ !s.hasFlt (Acct.ledgerPartition 0) 1 then s.fault (Acct.ledgerPartition 0) 1 Ev.sealedFull 0 1 else s

/-- A slot is programmed; the first opens its sector. -/
def putSlot (s : State) (i : Nat) (r : RecSlot) (over' : Bool) : State :=
  let x := s.secAt i
  s.setSec i { x with st := .opened, overflow := x.overflow || over', slots := x.slots ++ [r] }

/-- More than 32 retired sectors degrade GENERAL (R466). -/
def retire (s : State) (p i : Nat) (x : Sector) : State :=
  let s := (s.setSec i { x with st := .retired }).partEvent p Ev.ledgerFlash 2
  if p = 1 ∧ 32 < s.partCount 1 (· == SecState.retired) then (s.setFlt (Acct.ledgerPartition 1) 3).setCode (Acct.ledgerPartition 1) 6
  else s

/-- A commit whose read-back fails: a torn slot, counted; the second retires the sector (R466). -/
def commitFails (s : State) (p i : Nat) (over' : Bool) : State :=
  let s := s.putSlot i .torn over'
  let s := s.updLdg fun l =>
    { l with progFail := updAt l.progFail p fun n => satN 65535 (n + 1), tornCnt := updAt l.tornCnt p fun n => satN 65535 (n + 1) }
  let s := s.partEvent p Ev.ledgerFlash 1
  let x : Sector := { s.secAt i with fails := (s.secAt i).fails + 1 }
  if 2 ≤ x.fails then s.retire p i x else (s.setSec i x).closeSec p i

/-- What the commit of certain records does: the lockout record and its acknowledgement (R258, R263), the
archive and the release (R469, R470). -/
def committed (s : State) (e : Entry) : State :=
  let c := e.ev.code
  if c = Ev.safeLockout.code ∧ e.recOnly then
    let s := s.updCpt fun x => { x with lockRecord := false }
    match s.tel.longs.find? fun l => l.cmd.opcode == 0x0604 with
    | some l => s.endLong l (.ok 0)
    | none => s
  else if c = Ev.safeLockout.code then s.updCpt fun x => { x with lockRecord := true }
  else if c = Ev.ledgerArchived.code then
    let s := s.updLdg fun l => { l with archValid := true }
    match s.tel.longs.find? fun l => l.cmd.opcode == 0x0B04 with
    | some l => s.endLong l (.ok (wOf s.ldg.archCount) (s.ldg.archDigest ++ leBytes 4 s.ldg.archFirst ++
        leBytes 4 s.ldg.archLast ++ leBytes 4 s.ldg.archCount))
    | none => s
  else if c = Ev.ledgerReleased.code then
    match s.tel.longs.find? fun l => l.cmd.opcode == 0x0B05 with
    | some l => s.endLong l (.ok 0)
    | none => s
  else s

/-- A commit succeeds (R457): the record, its seq, and the freed entry. -/
def commitGood (s : State) (n p i : Nat) (e : Entry) : State :=
  let q := s.ldg.nextSeq
  let s := (s.putSlot i (.whole q (recordBytes e q)) e.overflow).count (Acct.ledgerPartition p)
  let s := s.updLdg fun l =>
    { l with nextSeq := (q + 1) % 0x100000000, intake := l.intake.eraseIdx n,
             archValid := l.archValid && !(classKept e.ev.cls && e.ev.code != Ev.ledgerArchived.code) }
  let s := (s.admitWaiting.closeSec p i).committed e
  if p = 0 then s.sealedLevel else s

/-- One commit (R457): none while frozen, in HUSH or before the boot scan's end. -/
def commitOne (s : State) (ok : Bool) : State :=
  if !s.ldg.running || s.ldg.frozen.isSome || s.pwr == .hush || s.rst.phase != .running then s
  else
    match s.commitIndex with
    | none => s
    | some n =>
      match s.ldg.intake[n]? with
      | none => s
      | some e =>
        let kept := classKept e.ev.cls
        let p := if kept && !s.toOverflow then 0 else 1
        let e := { e with overflow := kept && p == 1 }
        match s.writeSec p with
        | none => s
        | some i =>
          let s := if s.scOn 7 then s.scApplied else s
          if ok then s.commitGood n p i e else s.commitFails p i e.overflow

/-! Erases (R458, R466, R468, R470). -/

/-- An erasable sector of GENERAL: FULL, or SEALED with every record released (R455, R470). -/
def erasable (s : State) (x : Sector) : Bool :=
  x.st == .full || (x.st == .sealed && s.ldg.released != 0 && x.records.all fun r => !seqBefore s.ldg.released r.1)

/-- The oldest erasable sector. -/
def oldestErasable (s : State) : Option Nat :=
  (((s.partSectors 1).filter fun x => s.erasable x.2).foldl (fun (m : Option (Nat × Sector)) x =>
    match m with
    | none => some x
    | some y =>
      match x.2.records.head?, y.2.records.head? with
      | some a, some b => if seqBefore a.1 b.1 then some x else some y
      | none, _ => some x
      | _, none => some y) none).map (·.1)

/-- The records of retired sectors that lie before a seq are gone: they would have been erased (R466). -/
def dropRetired (s : State) (q : Nat) : State :=
  (s.partSectors 1).foldl (fun s x =>
    if x.2.st = .retired ∧ x.2.records.all (fun r => seqBefore r.1 q) then s.setSec x.1 { x.2 with slots := [] } else s) s

/-- An erase is asked for: its grant is requested (R458). -/
def eraseAsk (s : State) (i : Nat) (rel : Bool) : State :=
  (s.updLdg fun l => { l with erase := some ⟨i, true, rel⟩ }).request 0x50

/-- LEDGER_ERASE: with fewer than 4 ERASED sectors the oldest erasable sector's erase is asked for, and one that
holds its grant starts. None starts while frozen or in HUSH (R458, R463, R467). -/
def eraseStep (s : State) : State :=
  if !s.ldg.running || s.ldg.frozen.isSome || s.pwr == .hush || s.rst.phase != .running then s
  else
    match s.ldg.erase with
    | some x =>
      if x.waiting ∧ s.hasGrant 0x50 then s.updLdg fun l => { l with erase := some { x with waiting := false } } else s
    | none =>
      if 4 ≤ s.erasedIn 1 then s
      else
        match s.oldestErasable with
        | some i =>
          let s := match (s.secAt i).records.head? with
            | some r => s.dropRetired r.1
            | none => s
          s.eraseAsk i false
        | none => s

/-- The data of LEDGER_ARCHIVED and LEDGER_RELEASED (R469, R470): range, count and 16 digest bytes. -/
def archData (s : State) : List Byte :=
  leBytes 4 s.ldg.archFirst ++ leBytes 4 s.ldg.archLast ++ leBytes 4 s.ldg.archCount ++ s.ldg.archDigest.take 16

/-- The end of a release (R470): the released range, no overflow any more, LEDGER_RELEASED. -/
def releaseEnd (s : State) : State :=
  let s := s.updLdg fun l =>
    { l with releasing := false, released := l.archLast, nearFull := false, limitPosted := false, erase := none }
  (s.clrFlt (Acct.ledgerPartition 0) 1).postD Ev.ledgerReleased 0 0 s.archData

/-- Place after sector i of SEALED that a release erases next; RETIRED ones are skipped (R466). -/
def nextRelease (s : State) (i : Nat) : Option Nat :=
  (List.range 256).find? fun k => decide (i < k) && (s.secAt k).st != .retired

/-- An erase ends (R458): the sector is ERASED with its count, or RETIRED; a release goes on. -/
def eraseEnd (s : State) (ok : Bool) : State :=
  match s.ldg.erase with
  | none => s
  | some x =>
    if x.waiting then s
    else
      let p := if x.sector < 256 then 0 else 1
      let n := (s.secAt x.sector).erases + 1
      let s := (s.updLdg fun l => { l with erase := none }).release1 0x50
      let s := if ok then s.setSec x.sector ⟨.erased, n, false, 0, []⟩ else s.retire p x.sector ⟨.erased, n, false, 0, []⟩
      let s := if p = 1 ∧ 80000 ≤ n ∧ !s.ldg.wearPosted then
          (s.updLdg fun l => { l with wearPosted := true }).fault (Acct.ledgerPartition 1) 4 Ev.ledgerWear 1 0
        else s
      if x.forRelease then
        match s.nextRelease x.sector with
        | some k => s.eraseAsk k true
        | none => s.releaseEnd
      else s

/-! The DROP summary (R462). -/

/-- Its record data. -/
def dropData (s : State) : List Byte :=
  s.ldg.sumDrops.flatMap (leBytes 2) ++ leBytes 8 s.ldg.sumFirst ++ leBytes 6 s.ldg.sumLast

/-- Its detail: bit k for each class with drops. -/
def dropDetail (s : State) : Nat :=
  ((s.ldg.sumDrops.zipIdx.filter fun p => p.1 != 0).map fun p => 2 ^ p.2).sum

/-- LEDGER_DROP: an armed summary takes the tail of the intake while fill is below 192. -/
def dropSummary (s : State) : State :=
  if !s.ldg.sumArmed || decide (192 ≤ s.intakeFill) || s.pwr == .hush then s
  else
    let e : Event := { code := Ev.ledgerDrop.code, src := 0, cls := Ev.ledgerDrop.cls, detail := s.dropDetail,
                       till := s.till, data := s.dropData }
    let s := s.updLdg fun l => { l with sumArmed := false, sumDrops := List.replicate 7 0 }
    s.postEvent e

/-! Commands (R463, R464, R469, R470, R566). -/

def ledgerReadRow : CmdRow where
  opcode := 0x0B01
  len := fun n => n == 8
  units := fun _ => [.ledger]
  pre := fun c _ =>
    let n := leAt c.pay 4 1
    let m := leAt c.pay 5 1
    firstOf [failIf (!c.argOnly 0) .badArg,
      failIf (decide (n < 1) || decide (3 < n)) (.badParam 4), failIf (m == 0 || decide (127 < m)) (.badParam 5),
      failIf (decide (2 < leAt c.pay 6 1)) (.badParam 6), failIf (leAt c.pay 7 1 != 0) (.badParam 7)]
  run := fun c s =>
    let start := leAt c.pay 0 4
    let n := leAt c.pay 4 1
    let m := leAt c.pay 5 1
    let sel := leAt c.pay 6 1
    let held := (if sel = 2 then [] else s.heldRecords 0) ++ (if sel = 1 then [] else s.heldRecords 1)
    let match' := (s.bySeq held).filter fun r => !seqBefore r.1 start && nbit m (recClass r.2)
    let l := match'.take n
    let next := if l.length < n then s.ldg.nextSeq
      else match l.getLast? with
        | some r => (r.1 + 1) % 0x100000000
        | none => s.ldg.nextSeq
    let gap : Bool := match s.oldestSeq (s.heldRecords 0 ++ s.heldRecords 1) with
      | some q => seqBefore start q
      | none => false
    (s, some (.ok (wOf l.length) (leBytes 4 next ++ leBytes 1 l.length ++ leBytes 1 (if gap then 1 else 0) ++ [0, 0] ++
      l.flatMap (·.2))))

def ledgerFreezeRow : CmdRow where
  opcode := 0x0B02
  urg := true
  units := fun _ => [.ledger]
  pre := fun c _ => failIf (!c.argOnly 0x3F || decide (60 < c.argF 0 6)) .badArg
  run := fun c s =>
    let t := if c.argF 0 6 = 0 then s.rf Reg.ldgCfg 8 6 else c.argF 0 6
    (s.updLdg fun l => { l with frozen := some (10 * t) }, some (.ok 0))

def ledgerThawRow : CmdRow where
  opcode := 0x0B03
  units := fun _ => [.ledger]
  pre := fun c _ => failIf (!c.argOnly 0) .badArg
  run := fun _ s => (s.endFreeze 0, some (.ok 0))

/-- The records that an archive takes, in sequence order (R469). -/
def archRecords (s : State) : List (Nat × List Byte) :=
  s.bySeq (s.heldRecords 0 ++ ((s.partSectors 1).filter fun x => x.2.st == .sealed).flatMap fun x => x.2.records)

/-- The digest and the range; of no record at all the range is a free value (log 70). -/
def archive (s : State) : State :=
  let l := s.archRecords
  let d := sha384 (l.flatMap (·.2))
  match l.head?, l.getLast? with
  | some a, some b =>
    s.updLdg fun x => { x with archFirst := a.1, archLast := b.1, archCount := l.length, archDigest := d }
  | _, _ =>
    (s.updLdg fun x =>
      { x with archFirst := (Config.freeWord s.free).toNat, archLast := (Config.freeWord (s.free + 1)).toNat,
               archCount := 0, archDigest := d }).takeFree.takeFree

def ledgerArchiveRow : CmdRow where
  opcode := 0x0B04
  long := true
  units := fun _ => [.ledger]
  pre := fun c s => firstOf [s.loginReply c, failIf (!c.argOnly 0) .badArg]
  run := fun c s =>
    let s := s.archive
    ((s.postD Ev.ledgerArchived 0 0 s.archData).startLong c [.ledger] [], none)

def ledgerReleaseRow : CmdRow where
  opcode := 0x0B05
  long := true
  len := fun n => n == 48
  units := fun _ => [.ledger]
  pre := fun c s =>
    firstOf [s.loginReply c, failIf (!c.argOnly 0) .badArg,
      failIf (!s.ldg.archValid || c.pay.take s.ldg.archDigest.length != s.ldg.archDigest) (.badParam 0),
      failIf (s.cpt.st == .lockout || s.vault.lockout) .badState]
  run := fun c s =>
    let s := (s.startLong c [.ledger] []).updLdg fun l => { l with releasing := true }
    match (List.range 256).find? fun k => (s.secAt k).st != .retired with
    | some k => ((s.release1 0x50).eraseAsk k true, none)
    | none => (s.releaseEnd, none)

/-! The boot scan (R465, R469). -/

/-- A commit in progress at the power loss leaves a torn slot (R465). -/
def bootTorn (s : State) : State :=
  match s.commitIndex with
  | none => s
  | some n =>
    match s.ldg.intake[n]? with
    | none => s
    | some e =>
      let kept := classKept e.ev.cls
      let p := if kept && !s.toOverflow then 0 else 1
      match s.writeSec p with
      | some i => (s.putSlot i .torn (kept && p == 1)).closeSec p i
      | none => s

/-- Torn slots found in a partition's OPEN sector. -/
def tornFound (s : State) (p : Nat) : Nat :=
  match s.openSec p with
  | some i => ((s.secAt i).slots.filter (· == RecSlot.torn)).length
  | none => 0

/-- The newest record of a code, and whether some SAFETY or SECURITY record followed it. -/
def newestOf (s : State) (l : List (Nat × List Byte)) (code : Nat) : Option (Nat × List Byte) :=
  ((s.bySeq l).filter fun r => recCode r.2 == code).getLast?

/-- The archive range, the released range and the lockout record are found again in flash (R258, R469, R470). -/
def ledgerRecover (s : State) : State :=
  let l := s.heldRecords 0 ++ s.heldRecords 1
  let s := match s.newestOf l Ev.ledgerArchived.code with
    | some (q, bs) =>
      s.updLdg fun x =>
        { x with archFirst := leAt bs 32 4, archLast := leAt bs 36 4, archCount := leAt bs 40 4,
                 archDigest := (bs.drop 44).take 16,
                 archValid := l.all fun r => !(decide (recClass r.2 < 2) && seqBefore q r.1) }
    | none => s.updLdg fun x => { x with archFirst := 0, archLast := 0, archCount := 0, archDigest := [], archValid := false }
  let s := match s.newestOf l Ev.ledgerReleased.code with
    | some (_, bs) => s.updLdg fun x => { x with released := leAt bs 36 4 }
    | none => s.updLdg fun x => { x with released := 0 }
  let s := match s.newestOf l Ev.safeLockout.code with
    | some (_, bs) => s.updCpt fun x => { x with lockRecord := !bit (wordAt bs 20) 2 }
    | none => s.updCpt fun x => { x with lockRecord := false }
  s.updLdg fun x =>
    { x with nextSeq := match s.newestSeq l with
        | some q => (q + 1) % 0x100000000
        | none => 1 }

/-- An erase that the reset interrupted is repeated before use (R465). -/
def bootErase (s : State) : State :=
  match s.ldg.erase with
  | some x => if x.waiting then s else s.setSec x.sector ⟨.erased, (s.secAt x.sector).erases + 1, false, 0, []⟩
  | none => s

/-- The boot scan: torn slots, counts, ranges; the intake of before the reset is gone, and commits start
(R459, R465). -/
def ledgerBoot (s : State) (torn : Bool) : State :=
  let s := (if torn then s.bootTorn else s).bootErase
  let n := s.tornFound 0 + s.tornFound 1
  let s := s.updLdg fun l =>
    { l with intake := [], waiting := [], peak := 0, drops := List.replicate 7 0, coalesced := 0, waits := 0, flt := 0,
             cnt := 0, sumArmed := false, sumDrops := List.replicate 7 0, sumFirst := 0, sumLast := 0 }
  let s := s.updLdg fun l =>
    { l with hush := [], frozen := none, running := true, erase := none, releasing := false,
             tornCnt := [s.tornFound 0, s.tornFound 1], progFail := [0, 0], nearFull := false, limitPosted := false,
             wearPosted := false }
  let s := s.ledgerRecover
  let s := if s.sealedFull then s.setFlt (Acct.ledgerPartition 0) 1 else s
  let s := if n = 0 then s else (s.setFlt (Acct.ledgerPartition (if s.tornFound 0 = 0 then 1 else 0)) 2)
  if n = 0 then s else s.post Ev.ledgerTorn (if s.tornFound 0 = 0 then 1 else 0) (satN 255 n)

/-- At wake the held entries enter the intake, flagged, before any new event (R467). -/
def hushRelease (s : State) : State :=
  s.ldg.hush.foldl (fun s e => intakeOrder e s) (s.updLdg fun l => { l with hush := [] })

end State

/-- LEDGER_READ (R464, R566). -/
def execLedgerRead (src : Src) (s : State) : Host.Outcome State Fault Refusal := .next (s.runRow State.ledgerReadRow src)

/-- LEDGER_FREEZE (R463). -/
def execLedgerFreeze (src : Src) (s : State) : Host.Outcome State Fault Refusal :=
  .next (s.runRow State.ledgerFreezeRow src)

/-- LEDGER_THAW (R463). -/
def execLedgerThaw (src : Src) (s : State) : Host.Outcome State Fault Refusal := .next (s.runRow State.ledgerThawRow src)

/-- LEDGER_ARCHIVE (R469). -/
def execLedgerArchive (src : Src) (s : State) : Host.Outcome State Fault Refusal :=
  .next (s.runRow State.ledgerArchiveRow src)

/-- LEDGER_RELEASE_SEALED (R470). -/
def execLedgerReleaseSealed (src : Src) (s : State) : Host.Outcome State Fault Refusal :=
  .next (s.runRow State.ledgerReleaseRow src)

/-- LEDGER_INTAKE_ARRIVAL (R459, R460): an event of the event tables arrives from its source at the intake. -/
def execLedgerIntakeArrival (code : BitVec 13) (inst : BitVec 16) (detail : Byte) (s : State) :
    Host.Outcome State Fault Refusal :=
  match Ev.all.find? fun k => k.code == code.toNat with
  | some k =>
    let s := s.freezeCheck k.cls
    let e : Event := ⟨k.code, inst.toNat, k.cls, detail.toNat, s.till, []⟩
    .next (State.intakeArrive (s.entryOf e false) s)
  | none => .next s

/-- LEDGER_COMMIT (R457, R466). -/
def execLedgerCommit (readbackOk : Bool) (s : State) : Host.Outcome State Fault Refusal := .next (s.commitOne readbackOk)

/-- LEDGER_ERASE (R458). -/
def execLedgerErase (s : State) : Host.Outcome State Fault Refusal := .next s.eraseStep

/-- LEDGER_ERASE_DONE (R458, R466, R468). -/
def execLedgerEraseDone (ok : Bool) (s : State) : Host.Outcome State Fault Refusal := .next (s.eraseEnd ok)

/-- LEDGER_DROP (R462). -/
def execLedgerDrop (s : State) : Host.Outcome State Fault Refusal := .next s.dropSummary

/-- FREEZE_TIMEOUT (R463 detail 1). -/
def execFreezeTimeout (s : State) : Host.Outcome State Fault Refusal := .next (s.endFreeze 1)

end Sys2Proof.Machine
end

