-- ==== Sys2Proof/Machine/Enable.lean ====
section
/-! DEFINITION. What a change of ACC_CTL.en does in each class of account (R17, R59, R81, R93, R117, R119, R143,
R200, R213, R281, R283, R290, R294, R326, R341, R348, R366, R381). -/

namespace Sys2Proof.Machine

namespace State

/-- Row index of the account at `b` in its run. -/
def acctIdx (b : Nat) : Nat := ((Acct.find b).map (·.2)).getD 0
def acctCls (b : Nat) : Nat := ((Acct.find b).map (·.1.cls)).getD 0

/-- Number of the input channel whose account lies at `b`. -/
def inNum (b : Nat) : Nat :=
  if b < Acct.sp 0 then (b - Acct.inCh 0) / 0x20
  else 32 + 2 * ((b - Acct.sp 0) / 0x60) + ((b - Acct.sp 0) % 0x60 / 0x20 - 1)

/-- Number of the output channel whose account lies at `b`. -/
def outNum (b : Nat) : Nat := 2 * ((b - Acct.gp 0) / 0x60) + ((b - Acct.gp 0) % 0x60 / 0x20 - 1)

/-- The account starts: en has changed from 0 to 1. -/
def startAcct (s : State) (b : Nat) : State :=
  let i := acctIdx b
  let c := acctCls b
  let s :=
    if b = Acct.host then s.zeroRings.overflowFirst
    else if c = 0x100 then s.enableEnc i
    else if c = 0x101 ∨ c = 0x103 then s.setCode b 2
    else if c = 0x102 then s.enableAbs i
    else if c = 0x104 then { s.setCode b 1 with fb := { s.fb with accStuck := 0 } }
    else if c = 0x105 then s.enableEmu
    else if c = 0x106 then s.enableFusion
    else if c = 0x120 then s.enableDoor i
    else if c = 0x143 then ((s.pairStart i).restartIn (32 + 2 * i)).restartIn (33 + 2 * i)
    else if c = 0x145 then s.restartIn (inNum b)
    else if c = 0x147 then s.enableTpo i
    else if c = 0x150 then s.enableCan i
    else if c = 0x151 then s.showMem (i / 128)
    else if c = 0x160 then s.linkRestart
    else s
  s.wakeBanks

/-- The account stops: en has changed from 1 to 0. -/
def stopAcct (s : State) (b : Nat) : State :=
  let i := acctIdx b
  let c := acctCls b
  if c = 0x105 then s.emuDrive false
  else if c = 0x106 then s.w Reg.fusMstat 0
  else if c = 0x120 then s.disableDoor i
  else if c = 0x143 then ((s.pairStart i).setInLevel (32 + 2 * i) false).setInLevel (33 + 2 * i) false
  else if c = 0x144 then (if s.consolidated b then s.disableUnit (0x20 + i) else s)
  else if c = 0x145 then s.setInLevel (inNum b) false
  else if c = 0x146 then s.disableUnit (s.unitOf (outNum b))
  else if c = 0x147 then s.disableTpo i
  else if c = 0x150 then s.disableCan i
  else if c = 0x151 then s.disableObj i
  else if c = 0x160 then s.linkToDown
  else if c = 0x163 then s.csClose i
  else s

/-- An object may be enabled: message memory and identifiers (R326, R341). -/
def mayEnable (s : State) (b : Nat) : Bool :=
  if acctCls b = 0x151 then (s.enableObj (acctIdx b)).isSome else true

/-- ACC_CTL.en of the account at `b` becomes `v`; a refused enable sets cfg_reject (R326, R341). -/
def applyEn (s : State) (b : Nat) (v : Bool) : State :=
  if s.en b = v then s
  else if v then
    (if s.mayEnable b then (s.setEn b true).startAcct b else s.setFlt b 0)
  else (s.setEn b false).stopAcct b

end State

end Sys2Proof.Machine
end

