-- ==== Sys2Proof/Machine/Joint.lean ====
section
/-! DEFINITION. Conditions that join several configuration words (R81, R91, R103, R121, R201, R202, R285, R320,
R321, R329, R408): judged when a word is written by the host and when stored values are applied (R558). -/

namespace Sys2Proof.Machine

namespace State

/-- A run of like accounts: index of the word at `a` among registers [lo, hi) of the account at `b + stride * n`. -/
def joinIdx (b stride count lo hi a : Nat) : Option Nat :=
  (List.range count).find? fun n => decide (b + stride * n + lo ≤ a) && decide (a < b + stride * n + hi)

/-- The joint conditions that the word at `a` takes part in hold for the words as they stand. -/
def jointOk (s : State) (a : Nat) : Bool :=
  let w := fld (s.r Reg.tpTiming) 8 7
  if a = Reg.tpTiming then (List.range 48).all fun n => filtOk (s.r (Reg.inCfg n)) w
  else if Reg.inCfg 0 ≤ a ∧ a < Reg.inCfg 48 then
    filtOk (s.r a) w && s.doorFiltOk ((a - Reg.inCfg 0) / 4) (s.r a)
  else match joinIdx Acct.can 0x1000 4 0x40 0x4C a with
  | some n => (timingBad (s.r (Reg.canCfg n)) (s.r (Reg.canNbt n)) (s.r (Reg.canDbt n))).isNone
  | none =>
  match joinIdx (Acct.enc 0) 0x100 3 0x28 0x30 a with
  | some n => decide ((s.r (Reg.encIdxExp n)).toNat < (s.r (Reg.encRevCount n)).toNat)
  | none =>
  match joinIdx (Acct.abs 0) 0x100 2 0x20 0x28 a with
  | some n => absPeriodOk (s.r (Reg.absCfg n)) (s.r (Reg.absTiming n))
  | none =>
  match joinIdx Acct.emu 0 1 0x24 0x30 a with
  | some _ => emuRateOk (s.r Reg.emuLines) (s.r Reg.emuTravel) (s.r Reg.emuVmax)
  | none =>
  match joinIdx (Acct.doorPort 0) 0x200 2 0x20 0x58 a with
  | some n => (s.doorCross n fun i => s.r (Reg.doorCfg n + 4 * i)).isNone
  | none =>
  match joinIdx (Acct.purse 0) 0x80 3 0x20 0x24 a with
  | some k => decide (s.granted k ≤ s.purseLim k) && (k != 0 || decide (100 * s.safetyReserve ≤ 60 * s.purseLim 0))
  | none =>
  match joinIdx (Acct.fe 0) 0x80 512 0x20 0x2C a with
  | some j => (s.feBad (j / 128) 0 (s.r (Reg.feA j)) (s.r (Reg.feB j)) (s.r (Reg.feC j))).isNone
  | none =>
  match joinIdx (Acct.obj 0) 0x80 512 0x20 0x28 a with
  | some j => objImageOk (s.r (Reg.objCfg j)) (s.r (Reg.objId j))
  | none => true

end State

end Sys2Proof.Machine
end

