-- ==== Sys2Proof/Machine/Serial.lean ====
section
/-! DEFINITION. The console's output through Q15 (16_auditor_service.md R540, R541). -/

namespace Sys2Proof.Machine

/-- ASCII bytes of a text. -/
def ascii (t : String) : List Byte := t.toList.map fun c => BitVec.ofNat 8 c.toNat

namespace State

def updCon (s : State) (f : Console → Console) : State := { s with con := f s.con }

/-- Waiting output enters Q15 as far as it has room (R541). -/
def conFlush (s : State) : State :=
  let n := min s.con.waiting.length (s.qdepth 15 - s.con.output.length)
  (s.updCon fun c => { c with output := c.output ++ c.waiting.take n, waiting := c.waiting.drop n }).qPosted 15 n

/-- Output; between a reset and RESET_NOTICE the console is silent (R541). -/
def conPut (s : State) (bs : List Byte) : State :=
  if s.tel.noticed then (s.updCon fun c => { c with waiting := c.waiting ++ bs }).conFlush else s

/-- One line of output. -/
def conLine (s : State) (bs : List Byte) : State := s.conPut (bs ++ Config.eol)

/-- A line that shows some values, in the open layout (log 79). -/
def conText (s : State) (name : String) (vs : List Nat) : State := s.conLine (Config.consoleText name vs)

/-- A SERVICE login made on the console is active (R498). -/
def conLogin (s : State) : Bool := s.rb Reg.lifeState 3 && s.rf Reg.lifeState 4 2 == 1

/-- The prompt, but for a repeating display (R540). -/
def conPrompt (s : State) : State :=
  if s.con.display.isSome then s else s.conPut (if s.conLogin then ascii "# " else ascii "> ")

end State

end Sys2Proof.Machine
end

