-- ==== Sys2Proof/Machine/Resets.lean ====
section
/-! DEFINITION. Resets: their assertion, what each one spares, and the boot at their release
(15_resets_persistence.md R509 to R526; 12_banks.md R424, R425, R440 to R443; 14_mint_lifecycle.md R478 to R481,
R494, R502; 07_comptroller.md R258, R268). -/

namespace Sys2Proof.Machine

/-- The code of a reset kind (R77, R509). -/
def resetCode : ResetKind → Nat
  | .por => 1 | .bor => 2 | .pin => 3 | .wdt => 4 | .cwd => 5 | .soft => 6 | .life => 7 | .tamper => 8

/-- Place in the order of R514, first wins. -/
def resetRank : ResetKind → Nat
  | .tamper => 0 | .por => 1 | .bor => 2 | .cwd => 3 | .life => 4 | .pin => 5 | .wdt => 6 | .soft => 7

/-- The reset reaches the Comptroller (R509). -/
def resetFull (k : ResetKind) : Bool := k != .wdt && k != .soft

/-- ACC_TAG words are class K (R10): a PIN reset and the partial resets keep them (R521). -/
def isTag (a : Nat) : Bool := a % 0x20 == 0x1C && (Acct.find (a - 0x1C)).isSome

namespace State

/-! What a reset clears. -/

/-- What every reset leaves in the Mint's memory: flash, OTP and the records (R521, R522). -/
def mintKept (m : Mint) : Mint :=
  { m with chal := none, part := [], partTotal := 0, report := none, lmsNext := m.lmsEnd }

/-- The pads of the host port while a reset is asserted (R44, R573). -/
def portReset (p : Port) : Port :=
  { p with rdLatch := none, wrLatch := none, partWord := false, mbusy := true, dout := 0, qout := [], qstatus := 0,
           irqLow := false, holdoff := false }

/-- A full reset (R509, R521): everything but flash, OTP, vault and the records; the intake stays until the boot scan
has seen whether a commit was cut short. -/
def clearFull (s : State) (tags : Bool) : State :=
  { State.reset with
    role := s.role
    rst := s.rst
    regs := if tags then s.regs.filter fun x => isTag x.1 else []
    port := portReset s.port
    ldg := { s.ldg with running := false }
    vault := s.vault
    pwr := s.pwr
    par := { s.par with image := [] }
    mint := mintKept s.mint
    banks := { s.banks with words := [] }
    jtag := s.jtag
    free := s.free
    pending := s.pending }

/-- The input, output or test-pulse channel keeps running through a partial reset (R515). -/
def keepIn (s : State) (n : Nat) : Bool := s.inLocked n
def keepOut (s : State) (n : Nat) : Bool := s.safetyOut n
def keepUnit (s : State) (id : Nat) : Bool :=
  if id < 0x30 then (s.unitOuts id).any s.keepOut else decide (id < 0x34) && s.tpoSafety (id - 0x30)

/-- A Field account that R515 keeps. -/
def keepAcct (s : State) (b : Nat) : Bool := decide (0x7000 ≤ b) && decide (b < 0x8000) && s.lockOf b == Lock.safety

/-- A register word that a partial reset keeps whole: the Comptroller's, class K, and those of kept Field accounts. -/
def keepWord (s : State) (a : Nat) : Bool :=
  (decide (0x6000 ≤ a) && decide (a < 0x7000)) || isTag a || a == Reg.bankRepair 4 ||
    (a == Reg.tpTiming && !s.setTpos.isEmpty) || s.keepAcct (Acct.ofWord a)

/-- Bits of the shared Field words that belong to kept channels. -/
def keepBits (s : State) (a : Nat) : Nat :=
  if a = Reg.inStateL ∨ a = Reg.inRawL then maskOf ((List.range 32).filter s.keepIn)
  else if a = Reg.inStateH then
    maskOf ((List.range 16).filter (fun n => s.keepIn (32 + n)) ++ s.setPairs.map fun k => 16 + k)
  else if a = Reg.inRawH then maskOf ((List.range 16).filter fun n => s.keepIn (32 + n))
  else if a = Reg.outCmd ∨ a = Reg.outRb ∨ a = Reg.outLatch then maskOf ((List.range 32).filter s.keepOut)
  else if a = Reg.tpStat then maskOf (s.setTpos ++ s.setTpos.map fun k => 4 + k)
  else 0

/-- The Field engine's own state of the kept channels. -/
def fioKept (s : State) : Fio :=
  let f := s.fio
  let i := Fio.init
  { i with
    filt := maskOf ((List.range 48).filter fun n => s.keepIn n && nbit f.filt n)
    cnt := (List.range 48).map fun n => if s.keepIn n then f.cnt.getD n 0 else 0
    tpBefore := f.tpBefore
    tpCheck := f.tpCheck
    tpFrom := f.tpFrom
    tpTiming := f.tpTiming
    recov := (List.range 8).map fun k => if s.pairUse k ≠ 0 then f.recov.getD k 0 else 0
    onAt := (List.range 32).map fun n => if s.keepOut n then f.onAt.getD n 0 else 0
    det := (List.range 32).map fun n => if s.keepOut n then f.det.getD n 0 else 0 }

/-- The field ledger with the grants and requests of the kept units. -/
def purseKept (s : State) : List Purse :=
  s.purse.zipIdx.map fun (p, k) =>
    if k = 0 then
      { grants := p.grants.filter fun g => s.keepUnit g.id, waits := p.waits.filter fun q => s.keepUnit q.id,
        shed := p.shed.filter fun q => s.keepUnit q.id, lastOn := p.lastOn }
    else Purse.init

/-- A partial reset (R515, R521, R522): the Comptroller, its Field side, the Till, MB and the vault go on. -/
def clearPartial (s : State) : State :=
  let words := s.regs.filter fun x => s.keepWord x.1
  let s' := { s.clearFull false with
    till := s.till
    cpt := s.cpt
    mb := s.mb
    fio := s.fioKept
    purse := s.purseKept
    regs := words }
  ([Reg.inStateL, Reg.inStateH, Reg.inRawL, Reg.inRawH, Reg.outCmd, Reg.outRb, Reg.outLatch, Reg.tpStat] : List Nat).foldl
    (fun t a => t.w a (merge (s.keepBits a) (t.r a) (s.r a))) s'

/-! Assertion (R509, R514, R519). -/

/-- The trigger `k` in force beside the one that is asserted: one reset, the union of the scopes, one cause. -/
def mergeReset (s : State) (k : ResetKind) : State :=
  let k' := if resetRank k < resetRank s.rst.kind then k else s.rst.kind
  let full := s.rst.full || resetFull k
  let s' := { s with
    rst := { s.rst with phase := .inReset, kind := k', full := full, nrst := s.rst.nrst || k == .pin, borHeld := s.rst.borHeld || k == .bor }
    vault := { s.vault with causes := s.vault.causes - s.vault.causes % 16 + resetCode k' } }
  if resetFull k then s'.clearFull (k == .pin) else s'

/-- A new reset: GEN and the causes first, then everything in its reach. -/
def newReset (s : State) (k : ResetKind) : State :=
  let full := resetFull k || s.rst.phase == .bootHold || s.rst.phase == .noPll
  let s := { s with vault := { s.vault with gen := (s.vault.gen + 1) % 65536, causes := (s.vault.causes * 16 + resetCode k) % 65536 } }
  let s := if full then s.clearFull (k == .pin || !resetFull k) else s.clearPartial
  { s with
    rst := { phase := .inReset, kind := k, full := full, nrst := k == .pin, softDue := false, lifeDue := false,
             borHeld := k == .bor }
    pwr := .run }

/-- A reset trigger; in VAULT only POWER_ON ends the reset. -/
def assertReset (s : State) (k : ResetKind) : State :=
  if s.pwr = .vault then s
  else if s.rst.phase = .inReset then s.mergeReset k
  else s.newReset k

/-! Release: straps and banks (R440 to R443, R423 to R425). -/

/-- ROLE[1:0] as R1 names it. -/
def roleOf (v : BitVec 2) : Role :=
  if v = 1 then .car else if v = 2 then .machine else if v = 3 then .solo else .none

/-- Both copies of an area are bad, or just one. -/
def bothBad (env : BootEnv) (x : FlashArea) : Bool := env.badCopies.contains (x, false) && env.badCopies.contains (x, true)
def oneBad (env : BootEnv) (x : FlashArea) : Bool := env.badCopies.contains (x, false) != env.badCopies.contains (x, true)

/-- The failing rows that the boot march finds in bank k beside the map's. -/
def bootRows (s : State) (env : BootEnv) (k : Nat) : List Nat :=
  ((((env.failRows.filter fun p => p.1 == k).flatMap (·.2)).map (· % 256)).eraseDups).filter fun r => !(s.bankRows k).contains r

/-- The march of one bank: a new row takes a spare and the bank is tested again; with more than two rows it is out of
service (R441, R442). -/
def bootBank (env : BootEnv) (s : State) (k : Nat) : State :=
  let new := s.bootRows env k
  let all := s.bankRows k ++ new
  let passes := if new.isEmpty then 1 else 2
  let s := s.addF Reg.marchCnt 0 16 passes
  let s := if new.isEmpty then s else (s.addF Reg.marchCnt 16 16 1).setFlt (Acct.bank k) 3
  let s := s.addF (Acct.marchEngine + 0x14) 0 32 passes
  let s := s.w (Reg.bankRepair k) (repairWord all false)
  if 2 < all.length then s.bankFails k all.length else s.setBankRows k all

/-- The repair map before the march (R441): from the good copy, the bad one rewritten; with none no repair, but for the
banks that a partial reset leaves out of the march. -/
def bootMap (s : State) (env : BootEnv) (full : Bool) : State :=
  let s := if bothBad env .repairMap then
      (s.updBanks fun x => { x with map := x.map.filter fun p => !full && (p.1 == 4 || p.1 == 26) }).setFlt Acct.marchEngine 2
    else s
  s.updBanks fun x => { x with mapA := true, mapB := true }

/-- The boot march (R440); a partial reset leaves B04 and MB out (R518). -/
def bootMarch (s : State) (env : BootEnv) (full : Bool) : State :=
  let ks := (List.range 27).filter fun k => full || (k != 4 && k != 26)
  let s := ks.foldl (bootBank env) (s.bootMap env full)
  let s := if full then s else s.w (Reg.bankRepair 26) (repairWord (s.bankRows 26) false)
  (s.w Reg.marchStat (wOf (2 * 25 + 65536 * 100))).w Reg.marchLast (wOf (25 + (if (s.bankOut 25) then 0 else 256)))

/-- The unit that R424 places in bank k, for the role. -/
def placedUnit (s : State) (k : Nat) : Nat :=
  let r := s.role
  if k < 4 then 1
  else if k = 4 then (if r = .none then 0 else 2)
  else if k = 5 then 3
  else if k = 6 then (if r = .none then 0 else 4)
  else if k = 7 then (if r = .machine ∨ r = .solo then 5 else 0)
  else if k = 8 then (if r = .car ∨ r = .solo then 6 else 0)
  else if k = 9 then (if r = .car ∨ r = .machine then 7 else 0)
  else if k = 10 then 8
  else if k = 11 then 9
  else if k < 20 then 0
  else if k = 20 then (if r = .none then 0 else 0xA)
  else if k = 21 then (if r = .none then 0 else 0xB)
  else if k < 24 then 0xC
  else if k < 26 then 0xD
  else 0xE

/-- Units that accept a substitute (R425). -/
def substitutes (u : Nat) : Bool := ([3, 5, 6, 7, 8, 9] : List Nat).contains u

/-- BANK_USE of a unit: buffers lie with the Teller windows and with the Auditor (R424). -/
def useWord (u : Nat) (sub : Bool) : Word :=
  wOf (u + (if u = 0xC then 256 else if u = 3 then 512 else 0) + (if sub then 1024 else 0))

/-- Place the unit of bank k; false: no place (R425). -/
def placeBank (x : State × Bool) (k : Nat) : State × Bool :=
  let (s, ok) := x
  let u := s.placedUnit k
  if u = 0 then x
  else if !s.bankOut k then (s.w (Reg.bankUse k) (useWord u false), ok)
  else if !substitutes u then (s, false)
  else match ([12, 13, 14, 15, 16, 17, 18, 19] : List Nat).find? fun b => !s.bankOut b && s.rf (Reg.bankUse b) 0 8 == 0 with
    | some b => (s.w (Reg.bankUse b) (useWord u true), ok)
    | none => (s, false)

/-- Placement, pairs and account states of the banks (R423 to R425). -/
def placeBanks (s : State) : State × Bool :=
  let (s, ok) := (List.range 27).foldl placeBank (s, true)
  let s := ([0, 2, 22] : List Nat).foldl (fun s k =>
    if s.bankOut k || s.bankOut (k + 1) then s else s.setGroup (Acct.bank k) true 0) s
  ((List.range 27).foldl showBank s, ok)

/-! Release: the vault, the tamper latch, images and lifecycle. -/

/-- TAMP_CFG, TAMP_STAT and TAMP_TIME from the vault (R507). -/
def showTamp (s : State) : State :=
  let v := s.vault
  let s := (s.w Reg.tampCfg (wOf (v.tampCfg % 4))).w Reg.tampStat (wOf (256 * (v.tamper % 32) + (if v.sealValid then 65536 else 0)))
  (s.w Reg.tampTimeL (wOf v.tamperTime)).w Reg.tampTimeH (wOf (v.tamperTime / 2 ^ 32 % 65536))

/-- Some record of this code is held in flash. -/
def recordHeld (s : State) (code : Nat) : Bool := (s.heldRecords 0 ++ s.heldRecords 1).any fun r => recCode r.2 == code

/-- A pending tamper (R502 step 6): RETURNED is programmed, and TAMPER posted unless a record is held. -/
def bootTamper (s : State) : State :=
  if s.vault.tamper = 0 then s
  else
    let s := (s.updMint fun m => { m with returned := true }).setFlt Acct.tamper 1
    if s.recordHeld Ev.tamper.code then s
    else s.post Ev.tamper 0 (((List.range 5).find? fun i => nbit s.vault.tamper i).getD 0)

/-- The slot tried first at this boot, and the boot record after its trial count (R479). -/
def bootRecord (m : Mint) : Mint :=
  if m.trial = 1 then { m with trial := 0 }
  else if m.unconfirmed then { m with activeB := !m.activeB, unconfirmed := false }
  else m

/-- The boot record's copies (R476, R505): a bad one is rewritten and flagged; without a record slot A is active and
nothing is on trial (log 67). -/
def bootCopies (s : State) (env : BootEnv) : State :=
  let s := if bothBad env .bootRecord || oneBad env .bootRecord then s.setFlt Acct.mintEngine 3 else s
  if bothBad env .bootRecord then s.updMint fun m => { m with activeB := false, trial := 0, unconfirmed := false } else s

/-- The reason code of a slot at this boot in MINT_BOOT. -/
def showReason (s : State) (b : Bool) (v : Nat) : State := s.wf Reg.mintBoot (if b then 12 else 8) 4 v

/-- Images (R478 to R481): the slot that runs, or none. -/
def bootImages (s : State) (env : BootEnv) : State × Bool :=
  let s := (s.bootCopies env).updMint bootRecord
  let err := fun (b : Bool) => if b then env.readErrB else env.readErrA
  let one := s.mint.activeB != env.bootslot
  let two := !one
  let r1 := s.slotReason (s.slotOf one) (err one)
  let s := s.showReason one r1
  if r1 = 0 then (s.updMint fun m => { m with runB := one }, true)
  else
    let r2 := s.slotReason (s.slotOf two) (err two)
    let s := s.showReason two r2
    if r2 = 0 then
      (((s.updMint fun m => { m with runB := two }).wb Reg.mintBoot 2 true).fault Acct.mintEngine 0 Ev.mintFallback 0 r1, true)
    else (s, false)

/-- The Mint's registers at boot (R505, R506). -/
def showBoot (s : State) (env : BootEnv) : State :=
  let run := s.slotOf s.mint.runB
  let d := slotDigest run
  let s := ((s.wb Reg.mintBoot 0 s.mint.runB).wb Reg.mintBoot 4 env.bootslot).wb Reg.mintBoot 5 (!s.mint.oem.isEmpty)
  let s := (s.w Reg.mintFwDigestL (wordAt d 0)).w Reg.mintFwDigestH (wordAt d 4)
  let s := (s.w Reg.mintIdDigestL (wordAt idDigest 0)).w Reg.mintIdDigestH (wordAt idDigest 4)
  let s := s.w Reg.devVersion (slotVersion run)
  let s := if s.vault.sealValid then s else s.setCode Acct.mintEngine 6
  s.showMint.showStage.showLms.showPair

/-- The copies of a record of LIFECYCLE that stands (R476): LIFE_RECORD with 1 for a copy rewritten, 2 for a record that
is absent from now on. -/
def lifeCopies (s : State) (env : BootEnv) (x : FlashArea) (stands : Bool) : State :=
  if !stands then s
  else if oneBad env x then s.fault Acct.lifecycle 0 Ev.lifeRecord 0 1
  else if bothBad env x then s.fault Acct.lifecycle 0 Ev.lifeRecord 0 2
  else s

/-- The lifecycle, pairing and login records (R476). The absence of the lifecycle record is R494's own matter. -/
def bootRecords (s : State) (env : BootEnv) : State :=
  let m := s.mint
  let s := s.lifeCopies env .lifeRecord (m.lifeRec.isSome && !bothBad env .lifeRecord)
  let s := (s.lifeCopies env .pairRecord m.pairRec.isSome).lifeCopies env .loginRecord m.login.isSome
  s.updMint fun m =>
    { m with
      lifeRec := if bothBad env .lifeRecord then none else m.lifeRec
      pairRec := if bothBad env .pairRecord then none else m.pairRec
      login := if bothBad env .loginRecord then none else m.login }

/-- The lifecycle state (R494). -/
def bootLife (s : State) : State :=
  let m := s.mint
  let st := if m.returned then 4 else if !m.manuf then 0 else if !m.comm then 1
    else match m.lifeRec with | some true => 3 | _ => 2
  let s := (s.wf Reg.lifeState 0 3 st).wb Reg.lifeState 6 (st == 0 || st == 4)
  if !m.returned && m.manuf && m.comm && m.lifeRec.isNone then s.fault Acct.lifecycle 0 Ev.lifeRecord 0 2 else s

/-- A login survives WDT and SOFT alone (R499, R506). -/
def bootLogin (s : State) : State :=
  if s.rst.kind = .wdt ∨ s.rst.kind = .soft then s.showLogin else s.loginEnd.showLogin

/-! Release: stored values (R517 step 7, R523, R558). -/

/-- Both copies are compared; the image is the newer one, and a bad copy is rewritten from it. -/
def bootStore (s : State) (env : BootEnv) : State :=
  let found := fun (c : ParCopy) (b : Bool) => { c with valid := c.valid && !env.badCopies.contains (.store, b) }
  let s := s.updPar fun p => { p with a := found p.a false, b := found p.b true }
  let n := s.parNewest
  s.updPar fun p =>
    { p with image := n.words, a := if p.a.valid then p.a else n, b := if p.b.valid then p.b else n }

/-- A parameter word of the image that is an account's ACC_CTL. -/
def isCtl (a : Nat) : Bool := a % 0x20 == 8 && (Acct.find (a - 8)).isSome

/-- Stored words leave the accounts alone that R515 keeps, those that the set configures, those that the role does
not run, and the banks (R423). -/
def mayLoad (s : State) (b : Nat) : Bool :=
  !s.keepAcct b && s.runs b && !(s.setValid && s.setUnits.contains b) && s.ownLock b != Lock.lifecycle

/-- The class P bits of one word take the stored value; a word that a field refuses takes its factory value. -/
def loadWord (s : State) (x : Nat × Word) : State :=
  let a := Param.addr x.1
  if isCtl a || !s.mayLoad (Acct.ofWord a) then s
  else s.w a (merge (Param.mask a) (s.r a) (if Param.wordOk x.1 x.2 then x.2 else Param.factory x.1))

/-- A word whose joint conditions fail takes its factory value, and the account refuses it (log 73). -/
def jointWord (s : State) (x : Nat × Word) : State :=
  let a := Param.addr x.1
  if isCtl a || !s.mayLoad (Acct.ofWord a) || s.jointOk a then s
  else (s.w a (merge (Param.mask a) (s.r a) (Param.factory x.1))).setFlt (Acct.ofWord a) 0

/-- The accounts that the factory store enables (R60, R277, R416). -/
def factoryOn : List Nat :=
  Acct.host :: Acct.rows08.flatMap (fun r => (List.range r.count).map fun i => r.base + r.stride * i) ++
    [Acct.purse 0, Acct.purse 1, Acct.purse 2]

/-- The stored ACC_CTL words: those of the image, then the factory's that the image does not list, with their accounts. -/
def storedCtl (s : State) : List (Nat × Word) :=
  (s.par.image.filterMap fun x => if isCtl (Param.addr x.1) then some (Param.addr x.1 - 8, x.2) else none) ++
    (factoryOn.filter fun b => !s.par.image.any fun x => Param.addr x.1 == b + 8).map fun b => (b, 1#32)

/-- Grouping and class bits of a head; a group whose conditions fail does not form (R30). -/
def loadGroup (s : State) (x : Nat × Word) : State :=
  let (b, v) := x
  if !s.mayLoad b || !mayHead b || !bit v 1 then s
  else
    let ext := if Acct.gp 0 ≤ b ∧ b < Acct.gp 16 then fld v 16 1 else if Acct.obj 0 ≤ b ∧ b < Acct.obj 512 then fld v 16 5 else 0
    if s.groupOkButEn b true ext then s.setGroup b true ext else s.setFlt b 30

/-- An enabled account starts. -/
def loadEn (s : State) (x : Nat × Word) : State := if s.mayLoad x.1 && bit x.2 0 then s.applyEn x.1 true else s

/-- Step 7 of R517: the stored class P values, then the groups, then the enables. -/
def loadStore (s : State) (env : BootEnv) : State :=
  let s := s.bootStore env
  let s := (s.par.image.foldl loadWord s)
  let s := s.par.image.foldl jointWord s
  let s := s.updFio fun f => if s.rst.full || s.setTpos.isEmpty then { f with tpTiming := s.r Reg.tpTiming } else f
  let l := s.storedCtl
  let s := (l.foldl loadGroup s)
  let s := l.foldl loadEn s
  let s := if s.role = .none then s else (s.sensFollow 0).sensFollow 1
  ((s.showPurse 0).showPurse 1).showPurse 2

/-! Release: the Comptroller (R258, R268, R515). -/

/-- The set that the copies hold: none, or one for another role, is cause PARAM; a bad copy is rewritten (R268). -/
def bootSet (s : State) (env : BootEnv) : State :=
  let s := if bothBad env .safetySet then s.updPar fun p => { p with set := [] } else s
  let t := s.par.set
  let s := if !t.isEmpty && SafeSet.b t 2 == s.roleCode then
      (if oneBad env .safetySet then (s.setApply t).cptPost Ev.safeParam 0 1 else s.setApply t)
    else ((s.setFlt Acct.comptroller 0).cptPost Ev.safeParam 0 2).devTrip .param
  let s := (s.wf Reg.safeEdm 24 3 s.vault.lockoutOut).showProof
  if (s.vault.lockout || s.cpt.lockRecord) && s.life != 4 then s.toSafe .lockout else s

/-- After a partial reset the units that the set names outside the Field domain start again on it. -/
def rejoinSet (s : State) : State :=
  if !s.setValid then s
  else
    let t := s.cpt.set
    let s := s.setWords t s.setUnitWords
    let s := s.setUnits.foldl (fun s b => s.setEn b true) s
    let s := if s.role = .car then s else (s.enableEnc 0).enableFusion
    let s := if s.role = .machine then s else s.enableAbs 0
    s.w Reg.csLinkTime (wOf (SafeSet.maxAge t + 65536 * SafeSet.wdPeriod t))

/-! Release (R513, R517, R518). -/

/-- Straps and clocks (step 1 and 2). -/
def bootPads (s : State) (env : BootEnv) : State :=
  let s := { s with role := roleOf env.role, port := { s.port with hostsel := env.hostsel, mbusy := false } }
  let s := (s.wb Reg.hostPortStat 0 env.hostsel).w Reg.clkStat (wOf (1 + (if env.xinExt then 2 else 0) + 4))
  let s := s.w Reg.vaultStat (wOf ((if s.vault.lost then 1 else 0) + 4))
  (s.w Reg.telHours (wOf s.vault.hours)).showTamp

/-- The firmware's part of the boot. -/
def bootFirmware (s : State) (env : BootEnv) : State :=
  let s := ((s.showBoot env).bootLogin).loadStore env
  if s.role = .none then s
  else
    let s := if s.rst.full then s.bootSet env else s.rejoinSet
    s.wakeBanks

/-- The boot in BOOT_HOLD (R481): Host enabled for RESET_NOTICE and GET_INFO, nothing else (log 72). -/
def bootStop (s : State) : State :=
  let s := { s with rst := { s.rst with phase := .bootHold } }
  s.setEn Acct.host true

/-- The boot after the PLL has locked. -/
def boot (s : State) (env : BootEnv) : State :=
  let s := { s with rst := { s.rst with phase := .running, nrst := false } }
  let s := s.bootPads env
  let s := (s.ledgerBoot env.tornCommit).bootMarch env s.rst.full
  let (s, placed) := s.placeBanks
  let failed := s.banks.wipeFail
  let s := { s with banks := { s.banks with wipeFail := false } }
  let s := (s.bootTamper.bootRecords env).bootLife
  let (s, image) := s.bootImages env
  if placed && image && !failed then s.bootFirmware env else s.bootStop

/-- A partial reset that samples another role than the Comptroller runs, or finds no PLL lock, becomes a CWD reset:
the trip net fires, and one cause is recorded (R393, R513). -/
def roleChange (s : State) (env : BootEnv) : State :=
  if !s.rst.full && (roleOf env.role != s.role || !env.pllLocks) then
    let s := s.fireNet
    let s := { s with
      rst := { s.rst with kind := .cwd, full := true }
      vault := { s.vault with causes := s.vault.causes - s.vault.causes % 16 + 5 } }
    s.clearFull false
  else s

/-- The release of the asserted reset; without PLL lock the module stays at step 1 (R393, R517). -/
def release' (s : State) (env : BootEnv) : State :=
  if s.pwr = .vault ∨ s.rst.borHeld then s
  else if s.rst.phase ≠ .inReset ∧ s.rst.phase ≠ .noPll then s
  else
    let s := s.roleChange env
    if env.pllLocks then s.boot env
    else { s with rst := { s.rst with phase := .noPll, nrst := false } }

/-! RESET_NOTICE (R77, R516). -/

/-- An event, and whether the Ledger takes it too, in the order of detection. -/
def insertHeld (x : Event × Bool) : List (Event × Bool) → List (Event × Bool)
  | [] => [x]
  | y :: t => if y.1.till ≤ x.1.till then y :: insertHeld x t else x :: y :: t

def mergeHeld (l : List (Event × Bool)) : List (Event × Bool) := l.foldl (fun acc x => insertHeld x acc) []

/-- Where RESET_NOTICE may be posted: firmware or ROM ready, Host enabled, not posted yet. -/
def noticeDue (s : State) : Bool :=
  (s.rst.phase == .running || s.rst.phase == .bootHold) && !s.tel.noticed && s.en Acct.host && s.pwr != .vault

/-- The console's line after a reset, and its first prompt (R541). -/
def banner (s : State) : State :=
  (s.conText "OC-4832" [s.roleCode, s.vault.gen, s.vault.causes % 16]).conPrompt

/-- RESET_NOTICE as the first EVT entry, then what the firmware and the Comptroller held. -/
def notice (s : State) : State :=
  let e : Event := { code := Ev.resetNotice.code, src := 0, cls := Ev.resetNotice.cls, detail := s.vault.causes % 16,
                     till := s.till, data := [] }
  let l := mergeHeld (s.tel.held.map (fun e => (e, false)) ++ s.cpt.held.map fun e => (e, true))
  let s := { s with tel := { s.tel with noticed := true, held := [] }, cpt := { s.cpt with held := [] } }
  let s := ((s.intakeArrive (s.entryOf e false)).evtPush e).wb Reg.tellerIrqStat 5 true
  ((l.foldl (fun s x => if x.2 then s.postEvent x.1 else s.evtArrive x.1) s).overflowFirst).banner

/-! Tamper (R500 to R503). -/

/-- TAMPER goes straight to SEALED (R502 step 4). -/
def commitTamper (s : State) (cause : Nat) : State :=
  let e := s.entryOf { code := Ev.tamper.code, src := 0, cls := Ev.tamper.cls, detail := cause, till := s.till, data := [] } false
  let p := if s.toOverflow then 1 else 0
  match s.writeSec p with
  | some i => (s.updLdg fun l => { l with intake := { e with overflow := p == 1 } :: l.intake }).commitGood 0 p i { e with overflow := p == 1 }
  | none => s

/-- The decision (R502): latch and time, the seal, and with VDD up the wipe, the record and the reset. -/
def tampered (s : State) (cause : Nat) (w : WipeResult) : State :=
  let v := s.vault
  let s := { s with vault := { v with tamper := nset v.tamper cause true,
                                      tamperTime := if v.tamper = 0 then v.rtc else v.tamperTime, sealValid := false } }
  if s.pwr = .vault then s
  else
    let s := s.eraseSeal.wipe w
    let s := if s.rst.phase = .running then s.commitTamper cause else s
    s.assertReset .tamper

end State

/-- POWER_ON (R509, R520): VDD is up; the vault has lost its contents or not. -/
def execPowerOn (vaultLost : Bool) (s : State) : Host.Outcome State Fault Refusal :=
  let lost := vaultLost || (s.pwr == .vault && s.vault.gen == 0 && s.vault.lost)
  let s := { s with jtag := Jtag.init, rst := { s.rst with borHeld := false } }
  if lost then
    let s := { s with pwr := .run, vault := { Vault.blank with lost := true } }
    .next (({ s with rst := { s.rst with phase := .running } }).newReset .por)
  else if s.pwr = .vault then .next (({ s with pwr := .run }).mergeReset .por)
  else .next (s.assertReset .por)

/-- BROWN_OUT (R398). -/
def execBrownOut (s : State) : Host.Outcome State Fault Refusal := .next (s.assertReset .bor)

/-- BOR_RELEASE (R398): VDD is back; the release of the reset follows. -/
def execBorRelease (s : State) : Host.Outcome State Fault Refusal :=
  .next (if s.pwr = .vault then s else { s with rst := { s.rst with borHeld := false } })

/-- VAULT_ENTRY (R395, R398): VDD below 1.8 V; with VBAT too low the vault's contents go too. -/
def execVaultEntry (vbatOk : Bool) (s : State) : Host.Outcome State Fault Refusal :=
  if s.rst.borHeld ∧ s.pwr ≠ .vault then
    .next { s with pwr := .vault, vault := if vbatOk then s.vault else { Vault.blank with lost := true } }
  else .next s

/-- NRST_LOW (R510): low for 1 us or more. -/
def execNrstLow (s : State) : Host.Outcome State Fault Refusal := .next (s.assertReset .pin)

/-- TELLER_WATCHDOG_EXPIRY (R512): the firmware runs and has not served it. -/
def execTellerWatchdogExpiry (s : State) : Host.Outcome State Fault Refusal :=
  .next (if s.rst.phase = .running then s.assertReset .wdt else s)

/-- DELAYED_SOFT_RESET (R511, R484): 10 ms after the completion. -/
def execDelayedSoftReset (s : State) : Host.Outcome State Fault Refusal :=
  .next (if s.rst.softDue then s.assertReset .soft else s)

/-- LIFE_RESET (R495). -/
def execLifeReset (s : State) : Host.Outcome State Fault Refusal := .next (if s.rst.lifeDue then s.assertReset .life else s)

/-- RESET_RELEASE (R513, R517, R518). -/
def execResetRelease (env : BootEnv) (s : State) : Host.Outcome State Fault Refusal := .next (s.release' env)

/-- RESET_NOTICE (R77, R516). -/
def execResetNotice (s : State) : Host.Outcome State Fault Refusal := .next (if s.noticeDue then s.notice else s)

/-- SEQUENCE_OVERRUN (R242). -/
def execSequenceOverrun (s : State) : Host.Outcome State Fault Refusal :=
  .next (if s.cptRuns then (s.devTrip .sequence).assertReset .cwd else s)

/-- LOCKSTEP_MISMATCH (R239, R421): the cores disagree, or a word read has a double-bit error. -/
def execLockstepMismatch (doubleBit : Bool) (s : State) : Host.Outcome State Fault Refusal :=
  if s.cptRuns then
    let s := if doubleBit then s.setFlt (Acct.bank 4) 1 else s
    .next ((s.devTrip .core).assertReset .cwd)
  else .next s

/-- PLL_LOSS (R393). -/
def execPllLoss (s : State) : Host.Outcome State Fault Refusal :=
  if s.pwr = .vault ∨ s.rst.phase = .inReset ∨ s.rst.phase = .noPll then .next s
  else
    let s := s.fault Acct.clockMonitor 0 Ev.clkFault 0 8
    let s := if s.cptRuns then s.devTrip .clock else s
    .next (s.assertReset .cwd)

/-- TAMPER_INPUT (R500): the loop of TAMPn is closed; an input with en = 0 is not sampled. -/
def execTamperInput (n : Fin 2) (wipe : WipeResult) (s : State) : Host.Outcome State Fault Refusal :=
  .next (if nbit s.vault.tampCfg n then s.tampered n wipe else s)

/-- TAMPER_MONITOR (R501): the monitors run in every power state, that of the clock while VDD is up. -/
def execTamperMonitor (kind : MonitorKind) (wipe : WipeResult) (s : State) : Host.Outcome State Fault Refusal :=
  match kind with
  | .voltage => .next (s.tampered 2 wipe)
  | .clock => .next (if s.pwr = .vault then s else s.tampered 3 wipe)
  | .temperature => .next (s.tampered 4 wipe)

/-! JTAG (R574). -/

/-- Cells of DOOR0's and DOOR1's PWM and EN pads in the chain (R571). -/
def doorCells : BitVec 145 := BitVec.ofNat 145 ((2 ^ 7 - 1) * 2 ^ 121 + (2 ^ 7 - 1) * 2 ^ 133)

namespace State

/-- EXTEST may drive pads. -/
def extestMay (s : State) : Bool :=
  s.rst.phase == .bootHold || (s.rst.phase == .running && s.cpt.st == .startPending && !s.tripGroupOn)

/-- The pads that EXTEST drives, and their levels: none of the door stage's. -/
def jtagDrive (s : State) : Option (BitVec 145) :=
  if s.jtag.ir = 0 ∧ s.extestMay then some (s.jtag.cells &&& ~~~doorCells) else none

/-- One scan with the instruction `code`: the pads are captured and shifted out, the new cells shifted in. -/
def scan (s : State) (code : BitVec 4) (shift pads : BitVec 145) : State :=
  if code = 0 ∨ code = 2 then { s with jtag := { ir := code, cells := shift, dout := pads } }
  else if code = 1 then { s with jtag := { s.jtag with ir := code, dout := 0x14832A6B#145 } }
  else { s with jtag := { s.jtag with ir := 15, dout := shift <<< (1 : Nat) } }

end State

/-- BOUNDARY_SCAN (R496, R574): a code not listed acts as BYPASS, but where debug access is open. -/
def execBoundaryScan (code : BitVec 4) (shift pads : BitVec 145) (s : State) : Host.Outcome State Fault Refusal :=
  if s.pwr = .vault then .next s
  else if ¬ ([0, 1, 2, 15] : List Nat).contains code.toNat ∧ (s.life = 0 ∨ s.life = 4) ∧ s.rst.phase = .running then
    .refused .debugUnit
  else .next (s.scan code shift pads)

end Sys2Proof.Machine
end

