-- ==== Sys2Proof/Machine/Peek.lean ====
section
/-! DEFINITION. What a read shows: header words, registers that show other state, the CAN aperture, and the
snapshot groups (01_accounts.md R12 to R37; 02_teller.md R55 to R61, R75; the register tables of each chapter). -/

namespace Sys2Proof.Machine

namespace State

/-! Power (R400). -/

/-- SET_POWER_STATE HUSH would be accepted now (R400). -/
def hushOk (s : State) : Bool :=
  s.cpt.st == .parked && (s.unavailable Acct.profileEngine || s.runState == 0) &&
    ([0, 1] : List Nat).all (fun n => !(s.runs (Acct.doorPort n) && s.en (Acct.doorPort n)) || s.doorCode n == 0) &&
    s.tel.longs.isEmpty && s.can.all (fun c => c.search.isNone) && s.purse.all fun p => p.waits.isEmpty

/-! Headers. -/

/-- ACC_ID (R15). -/
def idWord (r : AcctRow) (i : Nat) : Word := wOf (r.level * 2 ^ 29 + r.cls * 2 ^ 16 + r.inst0 + r.instStep * i)

/-- ACC_CAPS (R16); no chapter gives class_caps a bit (log 12). -/
def capsWord (b : Nat) (r : AcctRow) : Word :=
  wOf ((if mayHead b then 2 ^ 31 else 0) + (if r.offMap then 2 ^ 30 else 0) + (if r.hold then 2 ^ 29 else 0))

/-- ACC_CTL as it reads (R17). -/
def ctlWord (s : State) (b : Nat) : Word :=
  putBit (putBit (putBit (s.ctl b) 0 (s.en b)) 2 (s.lockOf b != Lock.none)) 4 false

/-- ACC_LINK (R27). -/
def linkWord (r : AcctRow) (i : Nat) : Word :=
  wOf (r.child * 2 ^ 16 + (if i + 1 = r.count then r.lastSib else r.sib))

/-- State code of the account at `b`; an ORDER account follows its slot (R157). -/
def viewCode (s : State) (b : Nat) : Nat :=
  if Acct.order 0 ≤ b ∧ b < Acct.order 64 then
    (if s.unavailable Acct.profileEngine then 7 else if s.slotState ((b - Acct.order 0) / 0x20) = 0 then 0 else 3)
  else s.stateCode b

/-- Bits as a number: `b` at place `i`. -/
def at1 (i : Nat) (b : Bool) : Nat := if b then 2 ^ i else 0

/-- Measured currents of some outputs, saturating (R312; log 74). -/
def currentOf (s : State) (ns : List Nat) : Nat := satN 4095 (ns.map fun n => (Config.outCurrent n s.till).toNat).sum

/-- class_stat of the account at `b` by its class, in place (R20). -/
def classStat (s : State) (b : Nat) : Nat :=
  let w := s.r (b + 0xC)
  let c := acctCls b
  let i := acctIdx b
  if c = 0x146 then
    let n := outNum b
    at1 8 (s.rb Reg.outCmd n) + at1 9 (s.outOn n) + at1 10 (s.rb Reg.outRb n) + at1 11 (nbit s.waitMask n) +
      at1 12 (nbit s.shedMask n) + at1 13 (s.rb Reg.outLatch n) + 2 ^ 14 * fld w 14 6 + 2 ^ 20 * s.currentOf [n]
  else if c = 0x144 then
    (if s.consolidated b then
      let ns := s.gangMembers i
      at1 8 (ns.any fun n => s.rb Reg.outCmd n) + at1 9 (ns.all s.outOn) + 2 ^ 20 * s.currentOf ns
     else 0)
  else if c = 0x145 then
    let n := inNum b
    at1 8 (s.inLevel n) + at1 9 (if n < 32 then s.rb Reg.inRawL n else s.rb Reg.inRawH (n - 32)) + 2 ^ 10 * fld w 10 22
  else if c = 0x151 then
    let t := s.r (Reg.objStat i)
    at1 8 (bit t 0) + at1 9 (bit t 3) + at1 10 (bit t 5) + at1 11 (bit t 8) +
      2 ^ 12 * (if s.consolidated b then (s.canObj i).fifo.length else 0)
  else if c = 0x112 then 2 ^ 8 * s.slotState i
  else if c = 0x1B1 then at1 8 (s.rb Reg.scStat 0)
  else if c = 0x180 then
    2 ^ 8 * s.bankPwrNow i + at1 10 (match s.marchNow with
      | some l => (s.bankHalves (marchBank l.cmd)).contains i
      | none => false)
  else 2 ^ 8 * fld w 8 24

/-- ACC_FLT[30:0] as it reads: an unavailable account shows no fault bit (R14). -/
def ownFlt (s : State) (b : Nat) : Word := if !s.runs b then 0 else masked 0x7FFFFFFF (s.flt b)

/-- ACC_STAT (R20, R31). -/
def statWord (s : State) (b : Nat) : Word :=
  let c := s.viewCode b
  wOf (at1 0 (c == 2 || c == 3 || c == 4 || c == 6) + at1 1 (c == 3) + at1 2 (s.headOf b).isSome +
    at1 3 (s.ownFlt b != 0) + 2 ^ 4 * c + s.classStat ((s.headOf b).getD b))

/-- ACC_FLT (R22, R24). -/
def fltWord (s : State) (b : Nat) : Word := putBit (s.ownFlt b) 31 (s.childFault b)

/-- ACC_CNT (R25). -/
def cntWord (s : State) (b : Nat) : Word :=
  if b = 0 then wOf s.tel.devCnt
  else if isQueue b then wOf (s.queue ((b - 0x1100) / 0x40)).cnt
  else if b = Acct.ledgerIntake then wOf s.ldg.cnt
  else s.r (b + 0x14)

/-- The header word at offset `o` of the account at `b` (R12). -/
def headWord (s : State) (b o : Nat) : Word :=
  match Acct.find b with
  | none => 0
  | some (r, i) =>
    if o = 0 then idWord r i
    else if o = 4 then capsWord b r
    else if o = 8 then s.ctlWord b
    else if o = 0xC then s.statWord b
    else if o = 0x10 then s.fltWord b
    else if o = 0x14 then s.cntWord b
    else if o = 0x18 then linkWord r i
    else s.r (b + 0x1C)

/-! Registers that show other state. -/

/-- Number of entries of each queue (QFILL.fill). -/
def fillNow (s : State) (n : Nat) : Nat :=
  if n = 5 then s.intakeFill
  else if n = 6 then 0
  else if n = 7 then s.prf.q7.length
  else if n = 8 then s.tun.q8.length
  else if n = 9 then s.tun.q9.length
  else if n = 14 then s.con.input.length
  else if n = 15 then s.con.output.length
  else s.qfill n

/-- A queue account's registers (R55 to R57, R61). -/
def queueWord (s : State) (n o : Nat) : Word :=
  let q := s.queue n
  if o = 0x20 then wOf (qbase n)
  else if o = 0x24 then wOf (s.qdepth n + 2 ^ 16 * s.qentry n)
  else if o = 0x28 then wOf q.prod
  else if o = 0x2C then wOf ((q.prod + 65536 - s.fillNow n) % 65536)
  else wOf (s.fillNow n + 2 ^ 16 * satN 0xFFFF q.lost)

/-- TELLER_IRQ_STAT (R75). -/
def irqStat (s : State) : Word :=
  wOf (at1 0 (s.qfill 2 != 0) + at1 1 (s.qfill 4 != 0) +
    at1 2 (([10, 11, 12, 13] : List Nat).any fun n => s.qfill n != 0) + at1 3 (s.childFault 0) +
    2 ^ 4 * s.rf Reg.tellerIrqStat 4 2)

/-- DIRn (R37). -/
def dirWord (n : Nat) : Word :=
  match (Acct.rows.filter fun r => r.level == 2)[n]? with
  | some r => wOf (r.base / 4 + r.cls * 2 ^ 16 + 2 * 2 ^ 29)
  | none => 0

/-- MARCH_STAT: the host's pass while one runs, else the latest (R449). -/
def marchWord (s : State) : Word :=
  match s.marchNow with
  | some l => wOf (1 + 2 * marchBank l.cmd + 64 * l.cmd.argF 8 2 + 256 * l.cmd.argF 12 1 + 512)
  | none => s.r Reg.marchStat

/-- An activity of the Auditor waits for its grant (R528, AUD_STAT.throttled): a request of the VDD background ledger
that no erase and no MARCH_RUN holds. -/
def audThrottled (s : State) : Bool :=
  (s.purseAt 2).waits.any fun q =>
    (q.id == 0x50 && s.ldg.erase.isNone) ||
      (decide (0x60 ≤ q.id) && !s.tel.longs.any fun l => l.cmd.opcode == 0x0A01 && 0x60 + marchBank l.cmd == q.id)

/-- LDG_STAT (R472). -/
def ldgStatWord (s : State) : Word :=
  let e := s.ldg.erase
  wOf (at1 0 s.ldg.frozen.isSome + at1 1 s.sealedFull + at1 2 s.ldg.archValid + at1 3 s.ldg.releasing +
    at1 4 (e.any fun x => !x.waiting) + at1 5 (e.any fun x => x.waiting) + 2 ^ 16 * s.ldg.frozen.getD 0)

/-- A sequence number, or the free value while there is none (log 74). -/
def seqWord : Option Nat → Word
  | some q => wOf q
  | none => Config.emptySeq

/-- LEDGER_PARTITION registers at offset `o` (R473). -/
def partWord (s : State) (p o : Nat) : Word :=
  let all := s.partSectors p
  let er := all.map fun x => x.2.erases
  if o = 0x20 then wOf (s.erasedIn p + 2 ^ 16 * (match s.openSec p with | some i => i | none => 0x7FF))
  else if o = 0x24 then
    wOf (s.partCount p (fun x => x == SecState.full || x == SecState.sealed) + 2 ^ 16 * s.partCount p (· == SecState.sealed))
  else if o = 0x28 then seqWord (s.oldestSeq (s.heldRecords p))
  else if o = 0x2C then seqWord (s.newestSeq (s.heldRecords p))
  else if o = 0x30 then wOf (er.foldl max 0 % 2 ^ 17 + 2 ^ 24 * s.partCount p (· == SecState.retired))
  else if o = 0x34 then wOf (if all.length < partSize p then 0 else er.foldl min 0x1FFFF)
  else wOf (satN 0xFFFF (s.ldg.tornCnt.getD p 0) + 2 ^ 16 * satN 0xFFFF (s.ldg.progFail.getD p 0))

/-- Drops of two classes, or of INFO and the coalesced count (R474). -/
def dropWord (s : State) (k : Nat) : Word :=
  wOf (s.ldg.drops.getD (2 * k) 0 + 2 ^ 16 * (if k = 3 then satN 0xFFFF s.ldg.coalesced else s.ldg.drops.getD (2 * k + 1) 0))

/-- LEDGER_INTAKE registers (R474). -/
def intakeWord (s : State) (o : Nat) : Word :=
  if o = 0x20 then wOf (s.intakeFill + 2 ^ 16 * max s.ldg.peak s.intakeFill)
  else if o = 0x34 then wOf s.ldg.hush.length
  else if o = 0x38 then wOf s.ldg.waits
  else s.dropWord ((o - 0x24) / 4)

/-- The register at `a`: those that show other state, and the stored words without their write-only bits. -/
def regView (s : State) (a : Nat) : Word :=
  if a = Reg.devRole then wOf s.roleCode
  else if a = Reg.devGen then wOf s.vault.gen
  else if 0x40 ≤ a ∧ a < 0x80 then dirWord ((a - 0x40) / 4)
  else if a = Reg.tellerIrqStat then s.irqStat
  else if a = Reg.hostResetCause then wOf s.vault.causes
  else if 0x1100 ≤ a ∧ a < 0x1500 then s.queueWord ((a - 0x1100) / 0x40) ((a - 0x1100) % 0x40)
  else if a = Reg.outOn then wOf s.outOnMask
  else if a = Reg.outWait then wOf s.waitMask
  else if a = Reg.outShed then wOf s.shedMask
  else if a = Reg.pwrStat then putBit (s.r a) 8 s.hushOk
  else if a = Reg.vaultRtcL then wOf s.vault.rtc
  else if a = Reg.vaultRtcH then wOf (s.vault.rtc / 2 ^ 32 % 65536)
  else if a = Reg.marchStat then s.marchWord
  else if a = Reg.ldgStat then s.ldgStatWord
  else if a = Reg.ldgSeqNext then wOf s.ldg.nextSeq
  else if a = Reg.ldgSeqOldest then seqWord (s.oldestSeq (s.heldRecords 0 ++ s.heldRecords 1))
  else if a = Reg.ldgArchFirst then wOf s.ldg.archFirst
  else if a = Reg.ldgArchLast then wOf s.ldg.archLast
  else if a = Reg.ldgReleased then wOf s.ldg.released
  else if a = Reg.telHours then wOf s.vault.hours
  else if a = Reg.audStat then wOf (at1 4 s.audThrottled + at1 5 (s.pwr == .hush))
  else if 0xF120 ≤ a ∧ a < 0xF13C then s.partWord 0 (a - 0xF100)
  else if 0xF1A0 ≤ a ∧ a < 0xF1BC then s.partWord 1 (a - 0xF180)
  else if 0xF220 ≤ a ∧ a < 0xF23C then s.intakeWord (a - 0xF200)
  else match Reg.find a with
    | some r => s.r a &&& ~~~(BitVec.ofNat 32 r.wo)
    | none => 0

/-! Places. -/

/-- The account whose header holds the word at `a`, with the word's offset (R12). -/
def headerAt (a : Nat) : Option (Nat × Nat) :=
  if (Acct.find (a / 0x20 * 0x20)).isSome then some (a / 0x20 * 0x20, a % 0x20) else none

/-- The word of the selected object or element that an aperture address shows (CAN_AP_SEL). -/
def apertureAt (s : State) (a : Nat) : Option Nat :=
  if 0x8000 ≤ a ∧ a < 0xC000 ∧ 0xA0 ≤ a % 0x1000 ∧ a % 0x1000 < 0x120 then
    let n := (a - 0x8000) / 0x1000
    let k := 128 * n + s.rf (Reg.canApSel n) 0 7
    some ((if s.rb (Reg.canApSel n) 8 then Acct.fe k else Acct.obj k) + (a % 0x1000 - 0xA0))
  else none

/-- The word that a host register address names. -/
def resolve (s : State) (a : Nat) : Nat := (s.apertureAt a).getD a

/-- A register occupies the word (R35). -/
def occupied (a : Nat) : Bool := (headerAt a).isSome || (Reg.find a).isSome

/-- The word at `a` as it reads without a snapshot; `a` is resolved. -/
def peek (s : State) (a : Nat) : Word :=
  match headerAt a with
  | some (b, o) => s.headWord b o
  | none => s.regView a

/-! Snapshot groups (R94). -/

/-- A leading register and its companions, `n` runs at `stride`: first and last companion offsets from the leading
register, and the words left out. -/
structure SnapRow where
  lead : Nat
  stride : Nat
  count : Nat
  comps : List Nat
deriving DecidableEq, Repr

/-- Companions `lo` to `hi` (byte offsets) of a leading register. -/
def span (lo hi : Nat) : List Nat := (List.range ((hi - lo) / 4 + 1)).map fun i => lo + 4 * i

/-- Every group (R94, R110, R118, R153, R154, R192, R236, R279, R293, R349, R384, R419, R472, R549). -/
def snapRows : List SnapRow :=
  [⟨0x2130, 0x100, 3, [0x4, 0x8, 0x14, 0x18, 0x1C]⟩, ⟨0x218C, 0x100, 3, span 4 0x20 ++ [0xFFFFFFFC]⟩,
   ⟨0x2530, 0x100, 2, [0x4, 0x8, 0xC]⟩, ⟨0x258C, 0x100, 2, span 4 0x20 ++ [0xFFFFFFFC]⟩,
   ⟨0x2928, 0, 1, span 4 0x14⟩, ⟨0x3040, 0, 1, span 4 0x34⟩, ⟨0x424C, 0, 1, span 4 0x24⟩,
   ⟨0x51B0, 0x200, 2, span 4 0x1C⟩, ⟨0x7060, 0, 1, span 4 0xC⟩, ⟨0x70A0, 0, 1, span 4 0x14⟩,
   ⟨0x8054, 0x1000, 4, span 4 0x1C⟩, ⟨0xC42C, 0x80, 16, [0x4, 0x8, 0x14, 0x18, 0x1C, 0x20]⟩,
   ⟨0xD034, 0, 1, [0x4]⟩, ⟨0xF024, 0, 1, span 4 0x14⟩, ⟨0x11320, 0, 1, span 4 0x14⟩]

/-- Leading registers of a row. -/
def SnapRow.leads (r : SnapRow) : List Nat := (List.range r.count).map fun i => r.lead + r.stride * i

/-- The word at an offset from `a`; 0xFFFFFFFC is the word before (OBS_STAT). -/
def ofsFrom (a o : Nat) : Nat := if o = 0xFFFFFFFC then a - 4 else a + o

/-- The companions that a read of `a` copies. -/
def companionsOf (a : Nat) : List Nat :=
  ((snapRows.find? fun r => r.leads.contains a).map fun r => r.comps.map (ofsFrom a)).getD []

/-- `a` is a leading register. -/
def isLead (a : Nat) : Bool := snapRows.any fun r => r.leads.contains a

/-- `a` is a companion: its reads return the snapshot. -/
def isCompanion (a : Nat) : Bool := snapRows.any fun r => r.leads.any fun l => (r.comps.map (ofsFrom l)).contains a

/-- A read of a leading register copies its companions. -/
def takeSnap (s : State) (a : Nat) : State :=
  { s with snap := (companionsOf a).foldl (fun m c => Sparse.set Reg.resetOf m c (s.peek c)) s.snap }

/-- The word at `a` as a host read shows it. -/
def hostView (s : State) (a : Nat) : Word := if isCompanion a then Sparse.get Reg.resetOf s.snap a else s.peek a

/-! nHIRQ (R75). -/

/-- TELLER_IRQ_STAT AND TELLER_IRQ_EN. -/
def irqWant (s : State) : Word := s.irqStat &&& s.r Reg.tellerIrqEn

/-- The pad follows: it rises with no enabled bit and starts the holdoff, and falls with one unless the holdoff runs;
an enabled fault bit does not wait. -/
def irqStep (s : State) : State :=
  let want : Bool := s.irqWant != 0
  if s.port.irqLow then
    (if want then s else { s with port := { s.port with irqLow := false, holdoff := s.rf Reg.tellerIrqHoldoff 0 8 != 0 } })
  else if want && (!s.port.holdoff || bit s.irqWant 3) then { s with port := { s.port with irqLow := true, holdoff := false } }
  else s

end State

end Sys2Proof.Machine
end

