-- ==== Sys2Proof/Machine/Power.lean ====
section
/-! DEFINITION. Completions, clocks and power states: COMPLETION_POST, the clock monitor, SET_POWER_STATE and the
ways out of DOZE and HUSH (02_teller.md R66 to R68; 11_purse_clocks_power.md R391 to R401). -/

namespace Sys2Proof.Machine

namespace State

/-! Completions (R66 to R68). -/

/-- One RSP slot: its header and its part of the payload (R63, R68). -/
def rspSlot (s : State) (d : Done) (n i : Nat) : List Byte :=
  leBytes 2 d.opcode ++ leBytes 2 d.tag ++ leBytes 2 d.resp.length ++
    leBytes 1 ((if i = 0 then 0 else 1) + (if d.peer then 4 else 0)) ++ leBytes 1 n ++ leBytes 2 d.gen ++ leBytes 6 0 ++
    (d.resp.drop (i * (s.slotSize - 16))).take (s.slotSize - 16)

/-- The response slots of a completion, written in order. -/
def writeRsp (s : State) (d : Done) : State :=
  if d.resp.isEmpty then s
  else
    let n := s.slotsFor d.resp.length
    (List.range n).foldl (fun s i => s.pushRing 3 (s.rspSlot d n i)) s

/-- RSP has room for the response (R68). -/
def rspFits (s : State) (d : Done) : Bool :=
  d.resp.isEmpty || (decide (s.slotsFor d.resp.length ≤ s.qroom 3) && !s.scRing 3)

/-- Completions may be posted: the Teller runs, the Host domain is enabled and CPL has room (R59, R67). -/
def mayPost (s : State) : Bool := s.mayFetch

/-- The completion that is posted next: the first finished one whose response fits RSP (R67, R68). -/
def nextDone (s : State) : Option Done := s.tel.done.find? s.rspFits

/-- That completion is posted; an armed completion delay counts as applied (R66, R73, R536). -/
def postOne (s : State) : State :=
  if !s.mayPost then s
  else match s.nextDone with
    | none => s
    | some d =>
      let s := s.leaveDoze
      let s := { s with tel := { s.tel with done := s.tel.done.erase d } }
      let index := if d.resp.isEmpty then 0 else (s.queue 3).prod
      let s := (s.writeRsp d).pushRing 2 (cplBytes d index)
      let s := if s.scOn 1 then s.scApplied else s
      s.irqStep

/-- Every completion that has room. -/
def postDone : Nat → State → State
  | 0, s => s
  | k + 1, s => postDone k s.postOne

/-! Power states (R397 to R401). -/

/-- PWR_STATE is posted and the state is entered: 1 DOZE, 2 HUSH. -/
def enterPower (s : State) (v : Nat) : State :=
  let s := s.post Ev.pwrState 0 v
  ({ s with pwr := if v = 2 then .hush else .doze }).wf Reg.pwrStat 0 2 v

/-- SET_POWER_STATE: the completion is posted, then the Teller is gated (R398). -/
def powerRow (form : Cmd → Bool) (pre : Cmd → State → Option Reply) (go : State → State) : CmdRow where
  opcode := 0x0005
  form := form
  pre := fun c s => firstOf [failIf (!c.argOnly 3 || c.argF 0 2 == 3) .badArg, pre c s]
  run := fun c s => let s := s.complete c (.ok 0); (go (postDone (s.tel.done.length) s), none)

/-- The pads of EMU and of the door ports in HUSH (R124, R233). -/
def hushPads (s : State) : State :=
  let s := if s.fb.emu.on then s.emuDrive false else s
  ([0, 1] : List Nat).foldl (fun s n => if s.doorLive n then s.setStage n .off else s) s

def enterHush (s : State) : State := ((s.endFreeze 3).enterPower 2).hushPads

/-- A door port at wake: moved, or closed as its inputs say (R233). -/
def wakeDoor (s : State) (n : Nat) : State :=
  if !s.doorLive n then s
  else
    let p := s.doorRaw n - (s.doorAt n).origin
    let s := s.setStage n (if s.rf (Reg.doorEnds n) 0 8 = 0 then .idle else .drive)
    if s.homed n && (decide (s.endTol n < p) || decide (p < -s.endTol n)) then s.toDoor n 8
    else if s.contactOk n && s.lockOk n then s.toDoor n 0
    else (s.updDoor n fun d => { d with lockWait := true }).toDoor n 1

/-- The units that stood still resume (R124, R346): ABS reads with a seed, EMU, the stale, stuck and late counts from
0, and CAN after 11 recessive bits. -/
def wakeUnits (s : State) : State :=
  let s := ([0, 1] : List Nat).foldl (fun s n =>
    (s.updAbs n fun a => { a with seed := true, reading := none }).wf (Reg.absConsec n) 0 8 0) s
  let s := { s with fb := { s.fb with accStuck := 0 } }
  let s := if s.runs Acct.emu && s.en Acct.emu && s.rf (Acct.emu + 0xC) 4 4 != 5 then s.enableEmu else s
  ([0, 1, 2, 3] : List Nat).foldl (fun s n =>
    if s.en (Acct.canc n) then (s.updCan n fun c => { c with waitIdle := true }).showCan n else s) s

/-- The events that the Teller held in HUSH are posted (log 76). -/
def postHeld (s : State) : State :=
  let l := s.tel.held
  l.foldl (fun s e => s.evtArrive e) { s with tel := { s.tel with held := [] } }

/-- HUSH ends with a cause of R401: the units and banks are back, what the Ledger held enters the intake, then PWR_STATE
and the events of the wake. -/
def wake (s : State) (cause : Nat) : State :=
  if s.pwr ≠ .hush then s
  else
    let s := { s with pwr := .run }
    let s := (s.wf Reg.pwrStat 0 2 0).wf Reg.pwrStat 4 4 cause
    let s := s.wakeUnits.hushRelease
    let s := s.intakeArrive (s.entryOf { code := Ev.pwrState.code, src := 0, cls := Ev.pwrState.cls, detail := 0,
                                         till := s.till, data := [] } false)
    let held := s.tel.held
    let s := { s with tel := { s.tel with held := [] } }
    let s := s.evtArrive { code := Ev.pwrState.code, src := 0, cls := Ev.pwrState.cls, detail := 0, till := s.till, data := [] }
    let s := ({ s with tel := { s.tel with held := held } }).postHeld
    ((s.wakeDoor 0).wakeDoor 1).drain.irqStep

/-! The clock monitor (R391, R392). -/

/-- Expected counts of R391 in 1/10 000 counts. -/
def clockExpected : List Nat :=
  [3906250000, 1953125000, 976562500, 781250000, 390625000, 244140625, 244140625]

/-- A count more than 0.5 % from its expected value. -/
def clockBad (i count : Nat) : Bool :=
  let e := clockExpected.getD i 0
  decide (e < ((count * 10000 - e) + (e - count * 10000)) * 200)

/-- The vault crystal runs (CLK_STAT.vault_xtal_ok). -/
def xtalOk (s : State) : Bool := s.rb Reg.clkStat 2

def setXtal (s : State) (v : Bool) : State := (s.wb Reg.clkStat 2 v).wb Reg.vaultStat 2 v

/-- The clocks run: powered, and the firmware or the Comptroller works. -/
def clocksRun (s : State) : Bool := s.pwr != .vault && s.rb Reg.clkStat 0

/-- One window: ACC_CNT, a fault bit and CLK_FAULT for each clock that is out, and cause CLOCK (R391, R239). -/
def clockCheck (s : State) (counts : List Nat) : State :=
  let bad := (List.range 7).filter fun i => clockBad i (counts.getD i 0)
  let s := s.count Acct.clockMonitor
  let s := bad.foldl (fun s i =>
    if s.hasFlt Acct.clockMonitor (i + 1) then s else s.fault Acct.clockMonitor (i + 1) Ev.clkFault 0 i) s
  if !s.cptRuns then s
  else if bad.isEmpty then s.setDev .clock false
  else s.devTrip .clock

end State

/-- COMPLETION_POST (R66 to R68): the first completion that has room. -/
def execCompletionPost (s : State) : Host.Outcome State Fault Refusal := .next s.postOne

/-- CLOCK_WINDOW (R391): the counts of the seven clocks over 32 vault-crystal periods. -/
def execClockWindow (counts : List Nat) (s : State) : Host.Outcome State Fault Refusal :=
  if counts.length ≠ 7 then .fault .illFormed
  else .next (if s.clocksRun && s.xtalOk then s.clockCheck counts else s)

/-- VAULT_XTAL_STOP (R392): no edge for 4 ms. -/
def execVaultXtalStop (s : State) : Host.Outcome State Fault Refusal :=
  if s.clocksRun && s.xtalOk then
    let s := (s.setXtal false).fault Acct.clockMonitor 8 Ev.clkFault 0 7
    .next (if s.cptRuns then s.devTrip .clock else s)
  else .next s

/-- VAULT_XTAL_RESUMED (R392): the crystal has run for 1 s. -/
def execVaultXtalResumed (s : State) : Host.Outcome State Fault Refusal :=
  .next (if s.clocksRun && !s.xtalOk then (s.setXtal true).setDev .clock false else s)

/-- DOZE_WAKE (R398). -/
def execDozeWake (s : State) : Host.Outcome State Fault Refusal := .next s.leaveDoze.irqStep

/-- HUSH_WAKE (R401): the cause that PWR_STAT.last_wake records, 1 to 9. -/
def execHushWake (cause : Fin 10) (s : State) : Host.Outcome State Fault Refusal :=
  .next (if cause.val = 0 then s else s.wake cause.val)

/-- CAN_WAKE (R346): a dominant level of 5 us on CANn_RX ends HUSH where CAN_CFG.wake allows it. -/
def execCanWake (n : Fin 4) (s : State) : Host.Outcome State Fault Refusal :=
  .next (if s.runs (Acct.canc n) && s.en (Acct.canc n) && s.rb (Reg.canCfg n) 3 then s.wake 5 else s)

namespace State

/-- SET_POWER_STATE with RUN, and the argument forms that no other row takes (R400). -/
def setRunRow : CmdRow := powerRow (fun c => c.argF 0 2 != 1 && c.argF 0 2 != 2) (fun _ _ => none) id

def setDozeRow : CmdRow := powerRow (fun c => c.argF 0 2 == 1) (fun _ _ => none) fun s => s.enterPower 1

def setHushRow : CmdRow :=
  powerRow (fun c => c.argF 0 2 == 2) (fun _ s => failIf (!s.hushOk) .badState) enterHush

end State

/-- SET_POWER_STATE, state RUN (R398, R400). -/
def execSetPowerStateRun (src : Src) (s : State) : Host.Outcome State Fault Refusal := .next (s.runRow State.setRunRow src)

/-- SET_POWER_STATE, state DOZE (R398). -/
def execSetPowerStateDoze (src : Src) (s : State) : Host.Outcome State Fault Refusal := .next (s.runRow State.setDozeRow src)

/-- SET_POWER_STATE, state HUSH (R398, R400). -/
def execSetPowerStateHush (src : Src) (s : State) : Host.Outcome State Fault Refusal := .next (s.runRow State.setHushRow src)

end Sys2Proof.Machine
end

