-- ==== Sys2Proof/Machine/System.lean ====
section
/-! DEFINITION. The system commands, the ends of the learn commands, and the time limits of the long commands
(17_commands.md R554, R556, R559; 04_reckoner.md R148 to R150; 06_door_ports.md R230, R231). -/

namespace Sys2Proof.Machine

namespace State

/-! System commands (R556). -/

def nopRow : CmdRow where
  opcode := 0x0001
  urg := true
  run := fun c s => (s, some (.ok c.arg))

/-- Flags of GET_INFO. -/
def infoFlags (s : State) (c : Cmd) : Nat :=
  at1 0 (s.rst.phase == .bootHold) + at1 1 (s.rb Reg.mintBoot 2) + at1 2 (s.rb Reg.mintBoot 3) +
    at1 3 (!s.mint.oem.isEmpty) + at1 4 (s.setValid && s.rst.phase != .bootHold) + at1 5 (s.loginHere c)

def getInfoRow : CmdRow where
  opcode := 0x0002
  pre := fun c _ => failIf (!c.argOnly 0) .badArg
  run := fun c s =>
    (s, some (.ok 0 (leBytes 4 (s.peek Reg.devPart).toNat ++
      leBytes 4 (if s.rst.phase = .bootHold then 0 else (s.peek Reg.devVersion).toNat) ++ leBytes 1 s.roleCode ++
      leBytes 1 s.life ++ leBytes 2 (s.infoFlags c) ++ leBytes 2 s.vault.gen ++
      leBytes 1 (at1 0 s.port.hostsel + at1 1 (s.rb Reg.mintBoot 4)) ++ [0] ++ idDigest.take 16)))

def getStatusRow : CmdRow where
  opcode := 0x0003
  urg := true
  pre := fun c _ => failIf (!c.argOnly 0) .badArg
  run := fun _ s =>
    (s, some (.ok 0 (leBytes 4 (s.headWord 0 0x10).toNat ++ leBytes 4 (s.headWord 0 0xC).toNat ++
      leBytes 1 (s.rf Reg.pwrStat 0 2) ++ leBytes 1 (safeCode s.cpt.st) ++
      leBytes 1 (if s.unavailable Acct.profileEngine then 0xF else s.runState) ++
      leBytes 1 (if s.role = .solo then 0xF else s.lstate) ++ leBytes 1 (s.doorCode 0) ++ leBytes 1 (s.doorCode 1) ++
      leBytes 1 s.fus.source ++ [0] ++ leBytes 4 (s.r Reg.fusMstat).toNat ++ leBytes 4 (s.r Reg.carpos).toNat ++
      leBytes 4 (s.r Reg.carspd).toNat ++ leBytes 2 (s.qfill 4) ++ leBytes 2 (satN 0xFFFF (s.queue 4).lost))))

/-- SOFT_RESET (R511): the reset follows 10 ms after the completion. -/
def softResetRow : CmdRow where
  opcode := 0x0004
  pre := fun c s => firstOf [failIf (!c.argOnly 0) .badArg, failIf s.tripGroupOn .badState]
  run := fun _ s => ({ s with rst := { s.rst with softDue := true } }, some (.ok 0))

def getTelemetryRow : CmdRow where
  opcode := 0x0006
  pre := fun c _ => failIf (!c.argOnly 0) .badArg
  run := fun _ s =>
    (s, some (.ok 0 (((List.range 6).flatMap fun i => leBytes 4 (s.peek (Reg.telTemp 0 + 4 * i)).toNat) ++
      (List.range 4).flatMap fun i => leBytes 4 (s.peek (Reg.supVf i)).toNat)))

/-- The children of an off-map parent, by class and instance (R556). -/
def walkChildren (cls inst : Nat) : Option (List Nat) :=
  if cls = 0x150 ∧ inst < 4 then some ((List.range 128).map (fun k => Acct.obj (128 * inst + k)) ++ [Acct.filterList inst])
  else if cls = 0x152 ∧ inst < 4 then some ((List.range 128).map fun k => Acct.fe (128 * inst + k))
  else if cls = 0x111 ∧ inst = 0 then some ((List.range 64).map fun k => Acct.order k)
  else none

def walkOf (c : Cmd) : Option (List Nat) := walkChildren (c.argF 0 13) (c.argF 16 16)

def accWalkRow : CmdRow where
  opcode := 0x0007
  len := fun n => n == 4
  pre := fun c _ =>
    firstOf [failIf (!c.argOnly 0xFFFF1FFF || (walkOf c).isNone) .badArg,
      failIf (leAt c.pay 2 2 != 0) (.badParam 2)]
  run := fun c s =>
    let l := (walkOf c).getD []
    let first := leAt c.pay 0 2
    let part := (l.drop first).take 7
    let next := if first + part.length < l.length then first + part.length else 0xFFFF
    (s, some (.ok (wOf (part.length + 2 ^ 16 * next))
      (part.flatMap fun b => (List.range 8).flatMap fun i => leBytes 4 (s.headWord b (4 * i)).toNat)))

/-! LANDING_LEARN (R148 to R150). -/

def landingLearnRow : CmdRow where
  opcode := 0x0206
  long := true
  len := fun n => n == 4
  units := fun _ => [.profileEngine]
  pre := fun c s =>
    let v := leAt c.pay 0 2
    let n := leAt c.pay 2 2
    firstOf [s.ordersRole, s.lifeReply [1, 3], failIf (!c.argOnly 0x103) .badArg,
      failIf (v != 0 && !(decide (50 ≤ v) && decide (v ≤ 500))) (.badParam 0),
      failIf (decide (n < 1) || decide (256 < n)) (.badParam 2), s.lockReply Acct.profileEngine,
      failIf (!s.sourceFull || (s.obsAt 0).gate != .standstill || s.cpt.st != .runPermitted || s.inspActive ||
        s.recallActive || s.runState != 0) .badState]
  run := fun c s =>
    let v := leAt c.pay 0 2
    let down := c.argF 8 1 == 1
    let s := { s with learn := some ⟨c.argF 0 2, down, if v = 0 then 250 else v, leAt c.pay 2 2, [], false, false⟩ }
    let s := (s.updFus fun f => { f with zcorr := 0 }).w Reg.zcorr 0
    let s := s.dropStaging.startLong c [.profileEngine] []
    ((s.beginStart down false).setRun 8, none)

/-- The vanes of a run as landings in order of position: sill and window (R149). -/
def learnPairs : List Int → List (Int × Nat)
  | a :: b :: t => (ratRound (((a + b : Int) : Rat) / 2), (ratRound (((b - a).natAbs : Rat) / 2)).toNat) :: learnPairs t
  | _ => []

/-- Vane lengths of the run. -/
def vanes : List Int → List Nat
  | a :: b :: t => (b - a).natAbs :: vanes t
  | _ => []

def insertLanding (x : Int × Nat) : List (Int × Nat) → List (Int × Nat)
  | [] => [x]
  | y :: t => if x.1 ≤ y.1 then x :: y :: t else y :: insertLanding x t

def learnLandings (l : Learn) : List (Int × Nat) := (learnPairs l.edges).foldl (fun acc x => insertLanding x acc) []

/-- Neighbours closer than 250 mm. -/
def tooClose : List (Int × Nat) → Bool
  | a :: b :: t => decide (b.1 - a.1 < 250000) || tooClose (b :: t)
  | _ => false

/-- The reason of R559: 4 source, 1 vane, 2 spacing, 3 count, 0 done. -/
def learnWhy (l : Learn) : Nat :=
  if l.lostFull || !l.atEnd then 4
  else if (vanes l.edges).any fun v => decide (v < 20000) || decide (600000 < v) then 1
  else if tooClose (learnLandings l) then 2
  else if (learnLandings l).length ≠ l.expected then 3
  else 0

/-- The learned table in place: positions, windows and the learned bits; sides and deck offsets stay (R161). -/
def storeLandings (s : State) (ls : List (Int × Nat)) : State :=
  let s := s.wf Reg.ltCfg 0 9 ls.length
  let s := (List.range 256).foldl (fun s n =>
    match ls[n]? with
    | some (p, w) => ((s.w (Reg.ltPos n) (wOfInt p)).wf (Reg.ltAttr n) 0 19 w).wb (Reg.ltAttr n) 24 true
    | none => (s.w (Reg.ltPos n) 0).w (Reg.ltAttr n) 0) s
  (s.count Acct.landingTable).showDigest

/-- The words of the landing table. -/
def tableAddrs : List Nat :=
  [Reg.ltCfg, Reg.ltDeckOfs0, Reg.ltDeckOfs1] ++ (List.range 256).flatMap fun n => [Reg.ltPos n, Reg.ltAttr n]

/-- Result word of LANDING_LEARN (R559). -/
def learnResult (l : Learn) (reason : Nat) : Word := wOf ((learnLandings l).length % 512 + 2 ^ 16 * reason)

/-- The run is over: no learn stands any more, and the engine is IDLE. -/
def learnDone (s : State) : State :=
  let s := { s with learn := none }
  if s.runState = 8 then s.setRun 0 else s

/-- A learn that failed leaves the table and sets learn_fail (R150, R194). -/
def learnLost (s : State) (g : Long) (rp : Reply) : State := ((s.setFlt Acct.landingTable 0).learnDone).endLong g rp

/-- The end of the run (R150). -/
def learnRunEnd (s : State) (programOk : Bool) : State :=
  match s.learn, s.longOf .profileEngine with
  | some l, some g =>
    if s.runState = 9 || (s.runState == 8 && s.prf.seqStep != 0) then s
    else
      let why := learnWhy l
      if why = 4 then s.learnLost g (.hwFault (learnResult l 4))
      else if why ≠ 0 then s.learnLost g (.badState (learnResult l why))
      else if !programOk then s.learnLost g (.hwFault (learnResult l 0))
      else
        let s := s.storeLandings (learnLandings l)
        ((s.commitWords tableAddrs true).learnDone).endLong g (.ok (learnResult l 0))
  | _, _ => s

/-! DOOR_LEARN (R230, R231). -/

/-- The words that DOOR_LEARN writes. -/
def doorAddrs (n : Nat) : List Nat :=
  [Reg.doorTravel n, Reg.doorLearned n] ++ (List.range 16).map fun k => Reg.doorFric0 n + 4 * k

/-- The end of the learn sequence of a port. -/
def doorLearnEnd (s : State) (n : Nat) (k : Fin 2) (m : DoorMeasure) : State :=
  match s.longOf (.door k) with
  | none => s
  | some l =>
    if s.doorCode n ≠ 0xA then s.learnFail n 6 (.hwFault 0) l
    else match s.learnReason n m with
      | 0 =>
        if m.programOk then
          let s := (s.storeLearn n m).commitWords (doorAddrs n) true
          ((s.setHome n 0).enterClosed n).endLong l (.ok 0)
        else s.learnFail n 0 (.hwFault 0) l
      | r => s.learnFail n r .badState l

/-! Time limits (R554). -/

/-- What a unit leaves when its long command runs out of time, with the completion. -/
def abandon (s : State) (u : LongUnit) (l : Long) : State :=
  match u with
  | .profileEngine =>
    (match s.learn with
    | some x =>
      (({ s with learn := none }).setFlt Acct.landingTable 0).endLong l (.timeout (learnResult x 5))
    | none => s.endLong l .timeout)
  | .door n => s.learnFail n.val 7 .timeout l
  | .can n => s.autobaudTimeout n.val n
  | .bank _ => (s.release1 (0x60 + marchBank l.cmd)).endLong l .timeout
  | .ledger =>
    (match s.ldg.erase with
    | some x =>
      if x.forRelease ∧ x.waiting then
        ((s.updLdg fun d => { d with releasing := false, erase := none }).release1 0x50).endLong l .timeout
      else
        (s.updLdg fun d => { d with releasing := false, erase := d.erase.map fun y => { y with forRelease := false } }).endLong l
          .timeout
    | none => (s.updLdg fun d => { d with releasing := false }).endLong l .timeout)
  | .stagingSlot => (s.release1 0x51).endLong l .timeout
  | _ => s.endLong l .timeout

end State

/-- NOP (R556). -/
def execNop (src : Src) (s : State) : Host.Outcome State Fault Refusal := .next (s.runRow State.nopRow src)

/-- GET_INFO (R556). -/
def execGetInfo (src : Src) (s : State) : Host.Outcome State Fault Refusal := .next (s.runRow State.getInfoRow src)

/-- GET_STATUS (R556). -/
def execGetStatus (src : Src) (s : State) : Host.Outcome State Fault Refusal := .next (s.runRow State.getStatusRow src)

/-- SOFT_RESET (R511). -/
def execSoftReset (src : Src) (s : State) : Host.Outcome State Fault Refusal := .next (s.runRow State.softResetRow src)

/-- GET_TELEMETRY (R535, R556). -/
def execGetTelemetry (src : Src) (s : State) : Host.Outcome State Fault Refusal := .next (s.runRow State.getTelemetryRow src)

/-- ACC_WALK (R33, R556). -/
def execAccWalk (src : Src) (s : State) : Host.Outcome State Fault Refusal := .next (s.runRow State.accWalkRow src)

/-- LANDING_LEARN (R148, R559). -/
def execLandingLearn (src : Src) (s : State) : Host.Outcome State Fault Refusal := .next (s.runRow State.landingLearnRow src)

/-- LEARN_RUN_END (R149, R150): the run has stopped; `programOk` is the commit's outcome. -/
def execLearnRunEnd (programOk : Bool) (s : State) : Host.Outcome State Fault Refusal := .next (s.learnRunEnd programOk)

/-- DOOR_LEARN_END (R231): what the sequence measured. -/
def execDoorLearnEnd (n : Fin 2) (m : DoorMeasure) (s : State) : Host.Outcome State Fault Refusal :=
  .next (s.doorLearnEnd n.val n m)

/-- LONG_COMMAND_TIMEOUT (R554): the long command that holds the unit. -/
def execLongCommandTimeout (u : LongUnit) (s : State) : Host.Outcome State Fault Refusal :=
  .next (match s.longOf u with
  | some l => s.abandon u l
  | none => s)

end Sys2Proof.Machine
end

