-- ==== Sys2Proof/Machine/Auditor.lean ====
section
/-! DEFINITION. The Auditor's activities and commands (16_auditor_service.md R527 to R535, R547, R549, R550; 12_banks.md
R421, R422, R444; 06_door_ports.md R234). An activity's row is its run at a due time; the due times are the
occurrences' own (log 2, 78). -/

namespace Sys2Proof.Machine

namespace State

/-- Activity k can run: the firmware runs, and in HUSH only those that R527 marks. -/
def audRuns (s : State) (k : Nat) : Bool :=
  s.rst.phase == .running && s.pwr != .vault && (s.pwr != .hush || ([1, 2, 3, 5, 7, 8] : List Nat).contains k) &&
    (k != 6 || s.rb Reg.audCfg 0) && (k != 8 || s.rb Reg.audCfg 1) && (k != 9 || s.rb Reg.audCfg 2)

/-- An activity has completed: counted, its time kept, its late bit gone (R527, R547). -/
def audDone (s : State) (k : Nat) : State :=
  ((s.updAud fun x => { x with last := updAt x.last (k - 1) fun _ => some s.till }).count Acct.auditorCore).wb Reg.audLate k
    false

/-- The Purse grant of an activity (R528): given at once where it fits, and otherwise its request waits and is counted
once. -/
def audGrant (s : State) (id : Nat) : State × Bool :=
  if s.hasGrant id then (s, true)
  else
    let waited := s.hasRequest id
    let s := s.request id
    match (s.purseAt 2).waits.find? fun q => q.id == id with
    | some q =>
      if s.granted 2 + reqAmount q ≤ s.budget 2 then (s.give 2 q, true)
      else (if waited then s else s.addF Reg.audCnt 0 16 1, false)
    | none => (s, false)

/-- A run of activity k under the grant `id`; without the grant it waits. -/
def audUnder (s : State) (id : Nat) (run : State → State) : State :=
  match s.audGrant id with
  | (s, true) => (run s).release1 id
  | (s, false) => s

/-! March passes (R444). -/

/-- MARCH_ENGINE late: no B04 pass has completed 10 s after the previous one. -/
def marchLateCheck (s : State) : State :=
  if 10 < s.rf Reg.marchRound 16 16 ∧ !s.hasFlt Acct.marchEngine 0 then s.fault Acct.marchEngine 0 Ev.marchLate 0 0 else s

/-- Every failing word lies in the tested range. -/
def wordsIn (words : List Nat) (halves : Nat) : Bool := words.all fun w => decide (w < 16384 * halves)

/-- The B04 pass: its age starts anew; without a failing or a pending row cause CORE is gone. -/
def marchB04 (s : State) (words : List Nat) : State :=
  let s := s.marchLateCheck
  if !s.audRuns 2 || s.unitHeld (bankUnits [4]) then s
  else s.audUnder 0x64 fun s =>
    let s := (s.marchEnd [4] 1 true false 2 words).wf Reg.marchRound 16 16 0
    let s := if words.isEmpty && !s.rb (Reg.bankRepair 4) 25 then s.setDev .core false else s
    s.audDone 2

/-- The round of R444. -/
def roundBanks : List Nat := [0, 1, 2, 3] ++ (List.range 22).map (· + 5)

/-- The round from bank n on. -/
def roundFrom (n : Nat) : List Nat := (roundBanks.filter fun k => decide (n ≤ k)) ++ roundBanks.filter fun k => decide (k < n)

/-- Bank k stands for itself and every half of it is in service and ON. -/
def roundTakes (s : State) (k : Nat) : Bool :=
  (s.headOf (Acct.bank k)).isNone && (s.bankHalves k).all fun b => !s.bankOut b && s.bankPwrNow b == 0

/-- The bank whose turn it is (MARCH_ROUND.next). -/
def roundBank (s : State) : Option Nat := (roundFrom (s.rf Reg.marchRound 0 5)).find? s.roundTakes

/-- One pass of the round; a word index beyond the bank is none of its words. -/
def marchRound1 (s : State) (words : List Nat) : State :=
  let s := s.marchLateCheck
  match s.roundBank with
  | none => s
  | some k =>
    let ks := s.bankHalves k
    if !s.audRuns 5 || s.unitHeld (bankUnits ks) then s
    else s.audUnder (0x60 + k) fun s =>
      let s := s.marchEnd ks 1 true false 2 (words.filter fun w => decide (w < 16384 * ks.length))
      (s.wf Reg.marchRound 0 5 ((roundFrom (k + ks.length)).headD 0)).audDone 5

/-! The ECC scrub (R421, R422). -/

/-- Bank k passes: late first when its latest pass is more than 4 s old. -/
def scrubBank (s : State) (k : Nat) : State :=
  if s.bankPwrNow k ≠ 0 then s
  else
    let late := decide (4 < s.rf (Reg.bankScrub k) 0 16) && !s.hasFlt (Acct.bank k) 5
    let s := if late then s.fault (Acct.bank k) 5 Ev.bankEcc k 3 else s
    (s.wf (Reg.bankScrub k) 0 16 0).addF (Reg.bankScrub k) 16 16 1

/-- A number below n that the spec leaves open (log 13). -/
def freeIdx (s : State) (n : Nat) : Nat := (Config.freeWord s.free).toNat % n

/-- A word of the observers' bank: FUSION and every observer restart as at enable. -/
def eccReckoner (s : State) : State :=
  let s := (List.range 3).foldl (fun s n => if s.en (Acct.enc n) then s.resetObs n else s) s
  let s := (List.range 2).foldl (fun s n => if s.en (Acct.abs n) then s.enableAbs n else s) s
  if s.runs Acct.fusion && s.en Acct.fusion then s.enableFusion else s

/-- Every order is discarded, and a run aborts with cause 5. -/
def eccOrders (s : State) : State :=
  let s := (List.range 64).foldl (fun s n => s.setSlot n 0) s
  (s.updPrf fun p => { p with marks := [], q7 := [] }).abortRun 5

def eccDoors (s : State) : State :=
  (List.range 2).foldl (fun s n => if s.doorLive n then (s.disableDoor n).enableDoor n else s) s

/-- The intake entry that holds the word is dropped; which one is a free value. -/
def eccIntake (s : State) : State :=
  match s.ldg.intake[s.freeIdx s.ldg.intake.length]? with
  | some e =>
    let i := s.freeIdx s.ldg.intake.length
    ((s.updLdg fun l => { l with intake := l.intake.eraseIdx i }).intakeDrop e).takeFree
  | none => s

/-- The parameter image is read again; the Mint's work in progress ends with HW_FAULT. -/
def eccMint (s : State) : State :=
  let s := s.updPar fun p => { p with image := s.parNewest.words }
  (s.tel.longs.filter fun l => l.units.contains .mint || l.units.contains .stagingSlot).foldl (fun s l =>
    let s := if l.units.contains .stagingSlot then s.release1 0x51 else s
    s.endLong l (.hwFault 0)) s

/-- The object of two controllers that holds the word, a free value: its request ends, or its frame is lost. -/
def eccCan (s : State) (first : Nat) : State :=
  let j := 128 * first + s.freeIdx 256
  let s := s.takeFree
  if s.objTx j then (if s.objIs j 5 then s.endReq j 3 else s)
  else if s.objIs j 0 then (s.wb (Reg.objStat j) 0 false).addF (Reg.canDrop (j / 128)) 0 16 1
  else s

/-- What a double-bit error does to the bank's unit (R421). -/
def eccReact (s : State) (k : Nat) : State :=
  let u := s.bankUnit k
  if u = 1 then s.assertReset .wdt
  else if u = 2 then (s.devTrip .core).assertReset .cwd
  else if u = 3 then s.setFlt Acct.auditorCore 4
  else if u = 4 then s.eccReckoner
  else if u = 5 then s.eccOrders
  else if u = 6 then s.eccDoors
  else if u = 7 then (if s.linkRuns then s.linkRestart else s)
  else if u = 8 then s.eccIntake
  else if u = 9 then s.eccMint
  else if u = 0xA then s.eccCan 0
  else if u = 0xB then s.eccCan 2
  else if u = 0xD then (s.wipe ⟨bit (Config.freeWord s.free) 0, bit (Config.freeWord s.free) 1⟩).takeFree
  else s

/-- A double-bit error in a ring word of the Teller windows stands until the word is written (R421, log 77). -/
def eccWindow (s : State) (k word : Nat) : State :=
  let a := 0x28000 + 4 * ((k - 22) * 16384 + word)
  if s.bankUnit k = 0xC ∧ (k = 22 ∨ k = 23) ∧ s.ringHas a then
    { s with tel := { s.tel with bad := a :: s.tel.bad.filter (· != a) } }
  else s

/-- One double-bit error that the scrub finds; a reset that an earlier one caused ends the pass. -/
def scrubDouble (s : State) (k word : Nat) : State :=
  if s.rst.phase ≠ .running ∨ s.bankPwrNow k ≠ 0 then s else ((s.eccFlag k word 2).eccWindow k word).eccReact k

def scrub (s : State) (singles doubles : List (Fin 27 × Nat)) : State :=
  let s := (List.range 27).foldl scrubBank s
  let s := singles.foldl (fun s p => if s.bankPwrNow p.1 = 0 then s.eccSingle p.1 p.2 else s) s
  let s := s.audDone 3
  doubles.foldl (fun s p => s.scrubDouble p.1 p.2) s

/-! Clock cross-check (R391, R419). -/

/-- CLK_DEVn: the deviation in ppm and the largest in magnitude since reset. -/
def clockDev (s : State) (i : Nat) (d : Int) : State :=
  let v := clampI (-32768) 32767 d
  let worst := sfld (s.r (Reg.clkDev i)) 16 16
  let s := s.wf (Reg.clkDev i) 0 16 (v % 65536).toNat
  if worst.natAbs < v.natAbs then s.wf (Reg.clkDev i) 16 16 (v % 65536).toNat else s

/-- The comparison of R391, seen as deviations: beyond 0.5 % a clock is out. -/
def crossCheck (s : State) (devs : List Int) : State :=
  let bad := (List.range 7).filter fun i => decide (5000 < (devs.getD i 0).natAbs)
  let s := (List.range 7).foldl (fun s i => s.clockDev i (devs.getD i 0)) s
  let s := bad.foldl (fun s i =>
    if s.hasFlt Acct.clockMonitor (i + 1) then s else s.fault Acct.clockMonitor (i + 1) Ev.clkFault 0 i) s
  if !bad.isEmpty && s.cptRuns then s.devTrip .clock else s

/-! Door ADC calibration (R234). -/

/-- Offsets and gain errors of IU, IV, IW and VBUS, in codes and in 0.01 %. -/
def calibrate (s : State) (n : Nat) (offsets gains : List Int) : State :=
  let s := s.updDoor n fun d => { d with offs := offsets }
  if (offsets.any fun o => decide (200 < (o - 8192).natAbs)) || gains.any fun g => decide (200 < g.natAbs) then
    s.doorFault n 6 6
  else s

/-- The port is not moving. -/
def doorStill (s : State) (n : Nat) : Bool := !([2, 4, 5, 6, 0xA] : List Nat).contains (s.doorCode n)

/-! Input thresholds (R530). -/

/-- Margin of a channel in 0.1 V; negative: it fails. -/
def thrMargin (p : Nat × Nat) : Int := min (105 - (p.1 : Int)) (min ((p.2 : Int) - 55) ((p.1 : Int) - p.2 - 5))

/-- The channel with the smallest margin; the lowest of equal ones. -/
def thrWorst (l : List (Nat × Nat)) : Nat :=
  (List.range l.length).foldl (fun best n => if thrMargin (l.getD n (0, 0)) < thrMargin (l.getD best (0, 0)) then n else best) 0

def thresholds (s : State) (l : List (Nat × Nat)) : State :=
  let failing := (List.range l.length).filter fun n => decide (thrMargin (l.getD n (0, 0)) < 0)
  let k := thrWorst l
  let p := l.getD k (0, 0)
  let s := s.w Reg.audThresh (wOf (k + 2 ^ 8 * satN 255 p.1 + 2 ^ 16 * satN 255 p.2 + 2 ^ 24 * satN 255 failing.length))
  let new := failing.filter fun n => !s.aud.bad.contains n
  let s := s.updAud fun x => { x with thr := l, thrAt := some s.till, bad := x.bad ++ new }
  new.foldl (fun s n => s.fault Acct.auditorCore 2 Ev.auditThresh 0 n) s

/-! Telemetry (R532, R533). -/

/-- Warning level of a die in 0.1 °C. -/
def warnLevel (die : Nat) : Int := if die = 0 then 1100 else 1050

/-- One die's temperature: its word, the hour's highest, the warning. -/
def dieTemp (s : State) (die : Nat) (t : Int) : State :=
  let a := Reg.telTemp die
  let top := sfld (s.r a) 16 16
  let s := s.wf a 0 16 (t % 65536).toNat
  let s := if top < t then s.wf a 16 16 (t % 65536).toNat else s
  let was := s.aud.warm.getD die false
  let s := s.updAud fun x =>
    { x with
      temps := updAt x.temps die (max t)
      warm := updAt x.warm die fun w => if w then decide (warnLevel die - 50 < t) else decide (warnLevel die ≤ t) }
  if !was && decide (warnLevel die ≤ t) then s.post Ev.auditTemp 0 die else s

def telemetry (s : State) (temps : List Int) : State :=
  ((List.range 4).foldl (fun s i => s.dieTemp i (temps.getD i 0)) s).count Acct.telemetry

/-- The 28 bytes of an AUDIT_HOUR record. -/
def hourBytes (s : State) : List Byte :=
  let x := s.aud
  ((List.range 4).flatMap fun i => leBytes 2 ((x.temps.getD i 0) % 65536).toNat) ++ leBytes 2 x.vfLo ++ leBytes 2 x.vfHi ++
    leBytes 2 x.v5Lo ++ leBytes 2 x.vddLo ++ leBytes 2 x.fieldMax ++ leBytes 2 (satN 0xFFFF x.ecc) ++
    leBytes 2 (satN 0xFFFF x.runs) ++ leBytes 2 (satN 0xFFFF x.closes) ++ leBytes 4 s.vault.hours

/-- The hour's record; its values start anew. -/
def hourRecord (s : State) : State :=
  let s := s.postRecord Ev.auditHour 0 0 s.hourBytes
  s.updAud fun x =>
    { x with temps := List.replicate 4 (-32768), vfLo := 0xFFFF, vfHi := 0, v5Lo := 0xFFFF, vddLo := 0xFFFF,
             fieldMax := s.granted 0, ecc := 0, runs := 0, closes := 0 }

/-! The flash patrol (R531). -/

/-- A failing slot that does not run loses the valid bit of its staging. -/
def patrolSlot (s : State) (b : Bool) : State :=
  match s.mint.stage with
  | some (x, n, _) => if x = b ∧ b ≠ s.mint.runB then (s.updMint fun m => { m with stage := some (x, n, false) }).showStage else s
  | none => s

/-- The bad copy of the store is rewritten from the good one; which one failed is a free value where both stood. -/
def patrolStore (s : State) : State :=
  if s.par.a.valid && !s.par.b.valid then s.updPar fun p => { p with b := p.a }
  else if s.par.b.valid && !s.par.a.valid then s.updPar fun p => { p with a := p.b }
  else if !s.par.a.valid then s
  else if bit (Config.freeWord s.free) 0 then (s.updPar fun p => { p with b := p.a }).takeFree
  else (s.updPar fun p => { p with a := p.b }).takeFree

/-- The repair map's bad copy, likewise. -/
def patrolMap (s : State) : State :=
  if s.banks.mapA || s.banks.mapB then s.updBanks fun x => { x with mapA := true, mapB := true } else s

/-- One failure: counted, flagged, posted with its region, and acted on. -/
def patrolFail (s : State) (d : Nat) : State :=
  let s := (s.addF Reg.audPatrol 16 16 1).fault Acct.auditorCore 3 Ev.auditFlash 0 d
  if d = 1 then s.patrolSlot false
  else if d = 2 then s.patrolSlot true
  else if d = 3 then s.patrolStore
  else if d = 4 then s.patrolMap
  else s

def patrolEnd (s : State) (fails : List Nat) : State := ((fails.foldl patrolFail s).wf Reg.audPatrol 0 16 0).audDone 9

/-- A patrol; one with repairs needs the grant that sector erases share (R527). -/
def patrol (s : State) (fails : List Nat) : State :=
  if fails.any fun d => d == 3 || d == 4 then
    (if s.ldg.erase.isSome then s else s.audUnder 0x50 fun s => s.patrolEnd fails)
  else s.patrolEnd fails

/-! Commands (R535, R568). -/

def auditConfigRow : CmdRow where
  opcode := 0x0D01
  len := fun n => n == 4
  pre := fun c s => firstOf [failIf (!c.argOnly 0) .badArg, imagesReply 0 Reg.audCfg [c.img 0], s.lockReply Acct.auditorCore]
  run := fun c s => (s.wConfig Reg.audCfg [c.img 0], some (.ok 0))

/-- Seconds since activity k last completed. -/
def audAge (s : State) (k : Nat) : Option Nat :=
  match s.aud.last.getD (k - 1) none with
  | some t => some ((s.till - t) / 200000000)
  | none => none

def auditStatusRow : CmdRow where
  opcode := 0x0D02
  pre := fun c _ => failIf (!c.argOnly 0) .badArg
  run := fun _ s =>
    (s, some (.ok 0 ((([Reg.audStat, Reg.audLate, Reg.audThresh, Reg.audPatrol] : List Nat).flatMap fun a =>
        leBytes 4 (s.peek a).toNat) ++
      ((List.range 10).flatMap fun i => leBytes 4 ((s.audAge (i + 1)).getD 0xFFFFFFFF)) ++
      (List.range 6).flatMap fun i => leBytes 4 (s.peek (Reg.telTemp 0 + 4 * i)).toNat)))

end State

/-- CLOCK_CROSS_CHECK (R391, R527): the deviations of the seven clocks in ppm. -/
def execClockCrossCheck (devs : List Int) (s : State) : Host.Outcome State Fault Refusal :=
  if devs.length ≠ 7 then .fault .illFormed
  else .next (if s.audRuns 1 && s.xtalOk then (s.crossCheck devs).audDone 1 else s)

/-- PRESERVING_MARCH_B04 (R444): the failing words of the pass. -/
def execPreservingMarchB04 (words : List Nat) (s : State) : Host.Outcome State Fault Refusal :=
  if State.wordsIn words 1 then .next (if s.rst.phase = .running then s.marchB04 words else s) else .fault .illFormed

/-- B04_MARCH_OVERDUE (R444): 20 s without a completed pass. -/
def execB04MarchOverdue (s : State) : Host.Outcome State Fault Refusal :=
  if s.cptRuns && s.rst.phase == .running && decide (20 ≤ s.rf Reg.marchRound 16 16) then
    .next (s.marchLateCheck.devTrip .core)
  else .next s

/-- PRESERVING_MARCH_ROUND (R444): the failing words of the pass on the next bank. -/
def execPreservingMarchRound (words : List Nat) (s : State) : Host.Outcome State Fault Refusal :=
  if State.wordsIn words 2 then .next (if s.rst.phase = .running then s.marchRound1 words else s) else .fault .illFormed

/-- ECC_SCRUB (R421, R422): a pass with the words that it finds wrong. -/
def execEccScrub (singles doubles : List (Fin 27 × Nat)) (s : State) : Host.Outcome State Fault Refusal :=
  if (singles ++ doubles).any fun p => decide (16384 ≤ p.2) then .fault .illFormed
  else .next (if s.audRuns 3 then s.scrub singles doubles else s)

/-- DOOR_ADC_CALIBRATION (R234): the offsets in codes and the gain errors in 0.01 % of IU, IV, IW and VBUS. -/
def execDoorAdcCalibration (n : Fin 2) (offsets gains : List Int) (s : State) : Host.Outcome State Fault Refusal :=
  if offsets.length ≠ 4 ∨ gains.length ≠ 4 then .fault .illFormed
  else .next (if s.audRuns 4 && s.doorLive n && s.doorStill n then (s.calibrate n offsets gains).audDone 4 else s)

/-- THRESHOLD_SELF_CHECK (R530): on and off thresholds of IN00 to IN47 in 0.1 V. -/
def execThresholdSelfCheck (onOff : List (Nat × Nat)) (s : State) : Host.Outcome State Fault Refusal :=
  if onOff.length ≠ 48 then .fault .illFormed
  else .next (if s.audRuns 6 then (s.thresholds onOff).audDone 6 else s)

/-- TELEMETRY_SAMPLE (R532): core, input, output and vault die in 0.1 °C. -/
def execTelemetrySample (temps : List Int) (s : State) : Host.Outcome State Fault Refusal :=
  if temps.length ≠ 4 ∨ temps.any (fun t => decide (t < -32768) || decide (32767 < t)) then .fault .illFormed
  else .next (if s.audRuns 7 then (s.telemetry temps).audDone 7 else s)

/-- AUDIT_HOUR (R533). -/
def execAuditHour (s : State) : Host.Outcome State Fault Refusal :=
  .next (if s.audRuns 8 then s.hourRecord.audDone 8 else s)

/-- FLASH_PATROL (R531): the regions that fail, 1 to 5. -/
def execFlashPatrol (failures : List (Fin 6)) (s : State) : Host.Outcome State Fault Refusal :=
  if failures.any fun d => d.val == 0 then .fault .illFormed
  else .next (if s.audRuns 9 then s.patrol (failures.map (·.val)).eraseDups else s)

/-- PARAM_WEAR_MANAGEMENT (R534): blocks of the store move under a grant; nothing that they hold changes. -/
def execParamWearManagement (s : State) : Host.Outcome State Fault Refusal :=
  .next (if s.audRuns 10 && s.ldg.erase.isNone then s.audUnder 0x50 fun s => s.audDone 10 else s)

/-- AUDIT_LATE (R527): activity `act` has not completed within its lateness limit. -/
def execAuditLate (act : Fin 11) (s : State) : Host.Outcome State Fault Refusal :=
  let k := act.val
  if ([1, 2, 3, 4, 5, 6, 9] : List Nat).contains k && s.audRuns k && s.pwr != .hush && !s.rb Reg.audLate k then
    .next (((s.wb Reg.audLate k true).addF Reg.audCnt 16 16 1).fault Acct.auditorCore 1 Ev.auditLate 0 k)
  else .next s

/-- AUDIT_CONFIG (R535, R568). -/
def execAuditConfig (src : Src) (s : State) : Host.Outcome State Fault Refusal := .next (s.runRow State.auditConfigRow src)

/-- AUDIT_STATUS (R535, R568). -/
def execAuditStatus (src : Src) (s : State) : Host.Outcome State Fault Refusal := .next (s.runRow State.auditStatusRow src)

end Sys2Proof.Machine
end

