-- ==== Sys2Proof/Machine/Console.lean ====
section
/-! DEFINITION. The Pliore console (16_auditor_service.md R540 to R546; 14_mint_lifecycle.md R481, R498, R499). -/

namespace Sys2Proof.Machine

/-- The commands of R542 and the ROM's lines of R546, one per row. -/
inductive ConCmd where
  | help | who | stat | display | io | out | meter | ledger | pair | life | audit | auditBanks | auditSc
  | login | loginPlus | loginEnd | loginOff | load | dataLine | endLine
deriving DecidableEq, Repr

namespace ConText

/-- Upper case of a letter. -/
def up (b : Byte) : Byte := if 0x61 ≤ b.toNat ∧ b.toNat ≤ 0x7A then b - 32 else b

/-- The words of a line, upper case. -/
def words (l : List Byte) : List (List Byte) := ((l.map up).splitOn 0x20#8).filter fun w => !w.isEmpty

/-- A hex digit. -/
def hexDigit (b : Byte) : Option Nat :=
  let n := b.toNat
  if 0x30 ≤ n ∧ n ≤ 0x39 then some (n - 0x30) else if 0x41 ≤ n ∧ n ≤ 0x46 then some (n - 0x37) else none

/-- Digits in a base. -/
def digits (base : Nat) (l : List Byte) : Option Nat :=
  if l.isEmpty then none
  else l.foldl (fun acc b =>
    match acc, hexDigit b with
    | some a, some d => if d < base then some (base * a + d) else none
    | _, _ => none) (some 0)

/-- A number: decimal, or hex with 0x (R540). -/
def number (l : List Byte) : Option Nat :=
  if l.take 2 = ascii "0X" then digits 16 (l.drop 2) else digits 10 l

/-- Hex digits as bytes, two a byte. -/
def hexBytes : List Byte → Option (List Byte)
  | [] => some []
  | a :: b :: t =>
    match hexDigit a, hexDigit b, hexBytes t with
    | some x, some y, some r => some (BitVec.ofNat 8 (16 * x + y) :: r)
    | _, _, _ => none
  | [_] => none

/-- The unit of a STAT display. -/
def unit (w : List Byte) : Option StatUnit :=
  (([("FUSION", .fusion), ("ORDERS", .orders), ("DOOR0", .door0), ("DOOR1", .door1), ("SAFE", .safe), ("CAN0", .can0),
     ("CAN1", .can1), ("CAN2", .can2), ("CAN3", .can3), ("LINK", .link), ("POWER", .power)] : List (String × StatUnit)).find?
    fun p => ascii p.1 == w).map (·.2)

/-- A pad of METER: a name of letters and a decimal number below n. -/
def pad (name : String) (n : Nat) (w : List Byte) : Option Nat :=
  let p := ascii name
  if w.take p.length = p then (digits 10 (w.drop p.length)).filter fun k => decide (k < n) else none

end ConText

namespace State

/-! Lines. -/

/-- The ROM's console (R481). -/
def conRom (s : State) : Bool := s.rst.phase == .bootHold

/-- The row that a line belongs to; none: no command (R542, R546). -/
def conCmd (s : State) (ws : List (List Byte)) : Option ConCmd :=
  match ws with
  | [] => none
  | a :: t =>
    let b := t.headD []
    if s.conRom ∧ a = ascii "LOAD" then some .load
    else if s.conRom ∧ s.con.load.isSome ∧ a = ascii "D" then some .dataLine
    else if s.conRom ∧ s.con.load.isSome ∧ a = ascii "E" then some .endLine
    else if a = ascii "HELP" then some .help
    else if a = ascii "WHO" then some .who
    else if a = ascii "STAT" then some (if t.isEmpty then .stat else .display)
    else if a = ascii "IO" then some .io
    else if a = ascii "OUT" then some .out
    else if a = ascii "METER" then some .meter
    else if a = ascii "LEDGER" then some .ledger
    else if a = ascii "PAIR" then some .pair
    else if a = ascii "LIFE" then some .life
    else if a = ascii "AUDIT" then
      some (if b = ascii "BANKS" then .auditBanks else if b = ascii "SC" then .auditSc else .audit)
    else if a = ascii "LOGIN" then
      some (if b.take 1 = ascii "+" then .loginPlus else if b = ascii "END" then .loginEnd
        else if b = ascii "OFF" then .loginOff else .login)
    else none

/-- The complete line at the front of Q14, without its end. -/
def conFront (s : State) : Option (List Byte) :=
  let l := s.con.input.takeWhile fun b => b != 0x0D#8
  if l.length < s.con.input.length then some l else none

/-- The front line leaves Q14. -/
def conTake (s : State) : State :=
  s.updCon fun c => { c with input := (c.input.dropWhile fun b => b != 0x0D#8).drop 1 }

def conErr (s : State) (t : String) : State := s.conLine (ascii ("ERR " ++ t))

/-- The console works on lines: after RESET_NOTICE, with no output of an earlier line waiting and no display. -/
def conReady (s : State) : Bool :=
  s.tel.noticed && (s.rst.phase == .running || s.conRom) && s.pwr != .hush && s.pwr != .vault && s.con.waiting.isEmpty &&
    s.con.display.isNone

/-- Lines at the front that are no command: ERR SYNTAX (R542). -/
def conDrain : Nat → State → State
  | 0, s => s
  | n + 1, s =>
    if !s.conReady then s
    else match s.conFront with
      | some l =>
        if (s.conCmd (ConText.words l)).isNone then conDrain n (s.conTake.conErr "SYNTAX").conPrompt else s
      | none => s

/-- The row `k` takes the line at the front when it is this row's. In BOOT_HOLD only WHO, STAT and LOAD and its lines
are permitted (R481). -/
def conRun (s : State) (k : ConCmd) (f : List (List Byte) → State → State) : State :=
  if !s.conReady then s
  else match s.conFront with
    | some l =>
      let ws := ConText.words l
      if s.conCmd ws = some k then
        let s := s.conTake
        let ok := !s.conRom || ([.who, .stat, .load, .dataLine, .endLine] : List ConCmd).contains k
        (conDrain 256 (if ok then f ws s else s.conErr "DENIED").conPrompt).irqStep
      else s
    | none => s

/-- The line being received is discarded from Q14. -/
def conDiscard (s : State) : State :=
  s.updCon fun c => { c with input := c.input.take (c.input.length - c.chars), chars := 0, long := false, overrun := false }

/-- A character of a line (R540). -/
def conChar (s : State) (b : Byte) : State :=
  let s := (s.conPut [b]).updCon fun c => { c with cr := false }
  if 256 ≤ s.con.input.length then (s.qDrop 14).updCon fun c => { c with overrun := true }
  else if s.con.overrun || s.con.long then s
  else if 250 ≤ s.con.chars then
    s.updCon fun c => { c with input := c.input.take (c.input.length - c.chars), chars := 0, long := true }
  else (s.updCon fun c => { c with input := c.input ++ [b], chars := c.chars + 1 }).qPosted 14 1

/-- The end of a line; an LF after the CR that ended one ends nothing (R540). -/
def conEnd (s : State) (b : Byte) : State :=
  let was := s.con.cr
  let s := (s.conPut [b]).updCon fun c => { c with cr := b == 0x0D#8 }
  if b = 0x0A#8 ∧ was then s
  else if s.con.overrun then (s.conDiscard.conErr "OVERRUN").conPrompt
  else if s.con.long then (s.conDiscard.conErr "LONG").conPrompt
  else if s.con.chars = 0 then s.conPrompt
  else if 256 ≤ s.con.input.length then ((s.qDrop 14).conDiscard.conErr "OVERRUN").conPrompt
  else conDrain 256 ((s.updCon fun c => { c with input := c.input ++ [0x0D#8], chars := 0 }).qPosted 14 1)

/-- A byte on SVC_RX (R540, R541): it ends DOZE or HUSH and is kept; it stops a display and is discarded. Only printable
ASCII and line ends are taken. -/
def conByte (s : State) (b : Byte) : State :=
  let s := if s.pwr = .hush then s.wake 6 else s.leaveDoze
  if s.con.display.isSome then (s.updCon fun c => { c with display := none }).conPrompt
  else if b = 0x0D#8 ∨ b = 0x0A#8 then s.conEnd b
  else if 0x20 ≤ b.toNat ∧ b.toNat ≤ 0x7E then s.conChar b
  else s

/-! What the commands print. -/

/-- A command line that must have no further words. -/
def conBare (ws : List (List Byte)) (n : Nat) (f : State → State) (s : State) : State :=
  if ws.length = n then f s else s.conErr "SYNTAX"

/-- OUT's lifecycle and login (R543). -/
def conOutMay (s : State) : Bool := s.life == 3 && s.conLogin

/-- The commands permitted now (R542), by their place in the table. -/
def conHelp (s : State) : State :=
  s.conText "HELP" ((List.range 17).filter fun k => k != 5 || s.conOutMay)

def conWho (s : State) : State :=
  let version := if s.conRom then 0 else (s.peek Reg.devVersion).toNat
  s.conText "WHO" [(s.peek Reg.devPart).toNat, s.roleCode, version, s.life, s.vault.gen, s.vault.causes]

/-- Accounts that hold a fault bit of their own. -/
def faulted (s : State) : List Nat :=
  (s.regs.filterMap fun (a, v) =>
    if a % 0x20 = 0x10 ∧ v ≠ 0 ∧ (Acct.find (a - 0x10)).isSome then some (a - 0x10) else none) ++
    ((List.range 16).filterMap fun n => if (s.queue n).flt ≠ 0 then some (Acct.q n) else none) ++
    (if s.ldg.flt ≠ 0 then [Acct.ledgerIntake] else [])

/-- The host-visible queues (R55). -/
def hostQueues : List Nat := [0, 1, 2, 3, 4, 10, 11, 12, 13]

def conStat (s : State) : State :=
  s.conText "STAT" ((s.headWord 0 0x10).toNat ::
    (s.faulted.flatMap fun b => [(s.headWord b 0).toNat, (s.headWord b 0x10).toNat]) ++
    hostQueues.flatMap fun n => [n, s.fillNow n, (s.queue n).lost])

def conIo (ws : List (List Byte)) (s : State) : State :=
  match ws with
  | [_, w] =>
    if w = ascii "CAP" then
      s.conText "IO CAP" ((List.range 4).flatMap fun n => [(s.headWord (Acct.cap n) 0xC).toNat, (s.headWord (Acct.cap n) 0x14).toNat])
    else if w = ascii "IN" then
      s.conText "IO IN" ((List.range 48).flatMap fun n => [at1 0 (s.inLevel n), (s.headWord (inBase n) 0x14).toNat])
    else if w = ascii "OUT" then
      s.conText "IO OUT" ((List.range 32).flatMap fun n => [at1 0 (s.outOn n), (s.headWord (outBase n) 0x14).toNat])
    else s.conErr "SYNTAX"
  | _ => s.conErr "SYNTAX"

/-- OUT (R543): an accepted one commits a CONSOLE_OUT record. -/
def conOut (ws : List (List Byte)) (s : State) : State :=
  match ws with
  | [_, a, b] =>
    match (ConText.number a).filter (fun n => decide (n < 32)), b == ascii "ON", b == ascii "OFF" with
    | some n, on, off =>
      if !on && !off then s.conErr "SYNTAX"
      else if !s.conOutMay then s.conErr "DENIED"
      else if s.cpt.st ≠ .parked then s.conErr "STATE"
      else if s.outClass n ≠ 3 then s.conErr "CLASS"
      else if !s.runs (outBase n) || !s.en (outBase n) || s.outMember n || s.rb Reg.outLatch n then s.conErr "STATE"
      else
        let s := (s.unitSet n on).postRecord Ev.consoleOut 0 n [if on then 1 else 0]
        s.conLine (ascii (if on && !s.outOn n then "OK WAIT" else "OK"))
    | none, _, _ => s.conErr "SYNTAX"
  | _ => s.conErr "SYNTAX"

/-- METER (R544): without a pad the supplies and feeds with their lowest values, which start anew. -/
def conMeter (values : List Int) (ws : List (List Byte)) (s : State) : State :=
  let vs := values.map fun v => (wOfInt v).toNat
  match ws with
  | [_] =>
    let sup := (List.range 4).map fun i => s.rf (Reg.supVf i) 0 16
    let s := s.updAud fun x => { x with low := (x.low.take 4) ++ (List.range 2).map fun i => min (x.low.getD (4 + i) 0xFFFF) (vs.getD i 0xFFFF) }
    (s.conText "METER" (sup ++ vs ++ s.aud.low)).updAud fun x => { x with low := List.replicate 6 0xFFFF }
  | [_, w] =>
    match ConText.pad "IN" 48 w, ConText.pad "OUT" 32 w, (ConText.pad "TPO" 4 w).isSome || (ConText.pad "ENC" 3 w).isSome ||
        (ConText.pad "DOOR" 2 w).isSome with
    | some n, _, _ =>
      let age := match s.aud.thrAt with
        | some t => [(s.till - t) / 200000000]
        | none => []
      let th := match s.aud.thr[n]? with
        | some p => [p.1, p.2]
        | none => []
      s.conText "METER IN" (n :: vs ++ [at1 0 (s.inLevel n)] ++ th ++ age)
    | none, some n, _ => s.conText "METER OUT" (n :: vs ++ [s.currentOf [n], at1 0 (s.outOn n)])
    | none, none, true => s.conText "METER" (w.map (·.toNat) ++ vs)
    | none, none, false => s.conErr "SYNTAX"
  | _ => s.conErr "SYNTAX"

/-- LEDGER (R542): partitions and intake, or the newest records. -/
def conLedger (ws : List (List Byte)) (s : State) : State :=
  match ws with
  | [_] =>
    s.conText "LEDGER" (((List.range 2).flatMap fun p => (List.range 7).map fun i => (s.partWord p (0x20 + 4 * i)).toNat) ++
      (List.range 7).map fun i => (s.intakeWord (0x20 + 4 * i)).toNat)
  | [_, w] =>
    match (ConText.number w).filter fun n => decide (1 ≤ n) && decide (n ≤ 100) with
    | some n =>
      let l := s.bySeq (s.heldRecords 0 ++ s.heldRecords 1)
      s.conText "LEDGER n" ((l.drop (l.length - n)).flatMap fun r => r.2.map (·.toNat))
    | none => s.conErr "SYNTAX"
  | _ => s.conErr "SYNTAX"

def bytesNat (bs : List Byte) : List Nat := bs.map (·.toNat)

def conPair (s : State) : State :=
  s.conText "PAIR" (bytesNat idDigest ++ (match s.pairRec with
    | some p => bytesNat p.peer ++ [1 + at1 1 p.active]
    | none => [0]) ++ [s.lstate])

/-- LIFE (R542): the changes that LIFE_SET would accept on this interface now. -/
def conLife (s : State) : State :=
  let may := (List.range 5).filter fun t =>
    lifeMay s.life t && ((s.life == 1 && t == 2) || s.conLogin) && s.stationary && !s.tripGroupOn && !s.lifeBusy &&
      (t != 2 || (s.setValid && (s.role == .solo || s.pairActive.isSome)))
  s.conText "LIFE" ([s.life, (s.r Reg.lifeState).toNat] ++ may)

def conAudit (s : State) : State :=
  s.conText "AUDIT" ((List.range 10).flatMap fun i => [i + 1, (s.audAge (i + 1)).getD 0xFFFFFFFF, at1 0 (s.rb Reg.audLate (i + 1))])

def conBanks (s : State) : State :=
  s.conText "AUDIT BANKS" ((List.range 27).flatMap fun k =>
    (s.headWord (Acct.bank k) 0xC).toNat :: (List.range 6).map fun i => (s.peek (Reg.bankUse k + 4 * i)).toNat)

def conSc (s : State) : State :=
  s.conText "AUDIT SC" ((List.range 11).map fun i => (s.peek (Reg.scStat + 4 * i)).toNat)

/-! The console login (R545). -/

/-- A lockout answers with the seconds left. -/
def conLocked (s : State) (f : State → State) : State :=
  if s.vault.lockSecs = 0 then f s
  else s.conLine (ascii "ERR LOCKED " ++ Config.consoleText "LOCKED" [s.vault.lockSecs])

/-- Not in RETURN, and under an intact seal (R496, R502). -/
def conMayLogin (s : State) : Bool := ([0, 1, 2, 3] : List Nat).contains s.life && s.vault.sealValid

def conChallenge (s : State) : State :=
  if !s.conMayLogin then s.conErr "DENIED"
  else s.conLocked fun s =>
    let s := (s.newChallenge 1).updCon fun c => { c with cert := [] }
    s.conText "LOGIN" (bytesNat ((s.mint.chal.map fun p => p.2.1).getD []) ++ bytesNat idDigest)

/-- A refusal of R545: ERR SYNTAX, counted. -/
def conRefuse (s : State) : State := ((s.updCon fun c => { c with cert := [] }).loginRefuse).conErr "SYNTAX"

/-- LOGIN +: up to 240 hex digits a line, 2 400 bytes in all. -/
def conPlus (ws : List (List Byte)) (s : State) : State :=
  match ws with
  | [_, w] =>
    if 241 < w.length then s.conErr "SYNTAX"
    else match ConText.hexBytes (w.drop 1) with
      | some bs =>
        if 2400 < s.con.cert.length + bs.length then s.conRefuse else s.updCon fun c => { c with cert := c.cert ++ bs }
      | none => s.conErr "SYNTAX"
  | _ => s.conErr "SYNTAX"

/-- A challenge of the console stands (R545); LOGIN_CHALLENGE_EXPIRY takes it away after 5 minutes. -/
def conChal (s : State) : Bool :=
  match s.mint.chal with
  | some (i, _, _) => i == 1
  | none => false

/-- LOGIN END: the data that the lines brought, signature first, as SERVICE_LOGIN carries it (R545, log 79). -/
def conLoginEnd (ws : List (List Byte)) (s : State) : State :=
  match ws with
  | [_, _, w] =>
    match ConText.number w with
    | some min =>
      if !s.conMayLogin then s.conErr "DENIED"
      else s.conLocked fun s =>
        if !s.conChal then s.conRefuse
        else
          let t := s.con.cert
          let r := (s.updCon fun c => { c with cert := [] }).loginTry 1 min (t.take 96) (t.drop 96)
          if r.2 then r.1
          else if 0 < r.1.vault.lockSecs then r.1.conLocked id
          else r.1.conErr "DENIED"
    | none => s.conErr "SYNTAX"
  | _ => s.conErr "SYNTAX"

/-! LOAD in BOOT_HOLD (R546). -/

def conLoad (ws : List (List Byte)) (s : State) : State :=
  match ws with
  | [_, w] =>
    if w = ascii "A" ∨ w = ascii "B" then
      (s.updCon fun c => { c with load := some (w == ascii "B", 0) }).conLine (ascii "READY")
    else s.conErr "SYNTAX"
  | _ => s.conErr "SYNTAX"

/-- The bytes that a slot holds behind the transfer so far. -/
def loadedBytes (s : State) (b : Bool) (n : Nat) : List Byte :=
  if n = 0 then []
  else match s.slotOf b with
    | .bytes bs => bs.take n
    | _ => []

/-- A D line: its CRC, then its offset, then the write; the first line erases the slot, and what was staged there. -/
def conData (ws : List (List Byte)) (s : State) : State :=
  match ws, s.con.load with
  | [_, o, d, c], some (b, n) =>
    match ConText.digits 16 o, ConText.hexBytes d, ConText.hexBytes c with
    | some o', some bs, some crc =>
      if o.length ≠ 8 ∨ c.length ≠ 8 ∨ bs.isEmpty ∨ 64 < bs.length then s.conErr "SYNTAX"
      else if crc ≠ beBytes 4 (crc32c bs).toNat then s.conErr "CRC"
      else if o' ≠ n ∨ slotSize' < n + bs.length then s.conErr "OFFSET"
      else
        let s := (s.setSlotOf b (.bytes (s.loadedBytes b n ++ bs))).updMint fun m =>
          { m with stage := m.stage.filter fun x => x.1 != b }
        let s := (s.updCon fun c => { c with load := some (b, n + bs.length) }).showStage
        s.conLine (ascii "OK " ++ Config.consoleText "D" [n + bs.length])
    | _, _, _ => s.conErr "SYNTAX"
  | _, _ => s.conErr "SYNTAX"

/-- The E line: PASS and a SOFT reset, or FAIL with the reason. -/
def conEndLoad (readErr : Bool) (ws : List (List Byte)) (s : State) : State :=
  match ws, s.con.load with
  | [_], some (b, _) =>
    let s := s.updCon fun c => { c with load := none }
    let r := s.slotReason (s.slotOf b) readErr
    if r = 0 then ({ s with rst := { s.rst with softDue := true } }).conLine (ascii "PASS")
    else s.conLine (ascii "FAIL " ++ Config.consoleText "E" [r])
  | _, _ => s.conErr "SYNTAX"

/-- A display's line, once per second: what a unit's display shows is a free value (log 79). It is printed when Q15 has
room for all of it, and otherwise the dots, where they fit. -/
def conDisplay (s : State) : State :=
  if s.con.display.isNone then s
  else
    let room := s.qdepth 15 - s.con.output.length - s.con.waiting.length
    let line := Config.consoleText "STAT unit" [s.free] ++ Config.eol
    let dots := ascii "..." ++ Config.eol
    let s := s.takeFree
    if line.length ≤ room then s.conPut line else if dots.length ≤ room then s.conPut dots else s

end State

/-- CONSOLE_BYTE (R540, R541). -/
def execConsoleByte (b : Byte) (s : State) : Host.Outcome State Fault Refusal :=
  .next (if (s.rst.phase == .running || s.conRom) && s.pwr != .vault then s.conByte b else s)

/-- HELP (R542). -/
def execHelp (s : State) : Host.Outcome State Fault Refusal := .next (s.conRun .help fun ws => State.conBare ws 1 State.conHelp)

/-- WHO (R542). -/
def execWho (s : State) : Host.Outcome State Fault Refusal := .next (s.conRun .who fun ws => State.conBare ws 1 State.conWho)

/-- STAT (R542). -/
def execStat (s : State) : Host.Outcome State Fault Refusal := .next (s.conRun .stat fun _ s => s.conStat)

/-- STAT with a unit (R542): the display starts. -/
def execStatDisplay (s : State) : Host.Outcome State Fault Refusal :=
  .next (s.conRun .display fun ws s =>
    match ws with
    | [_, w] =>
      (match ConText.unit w with
      | some u => (s.updCon fun c => { c with display := some u }).conDisplay
      | none => s.conErr "SYNTAX")
    | _ => s.conErr "SYNTAX")

/-- CONSOLE_DISPLAY_LINE (R541). -/
def execConsoleDisplayLine (s : State) : Host.Outcome State Fault Refusal :=
  .next (if s.rst.phase = .running ∧ s.pwr ≠ .hush ∧ s.pwr ≠ .vault then s.conDisplay else s)

/-- IO (R542). -/
def execIo (s : State) : Host.Outcome State Fault Refusal := .next (s.conRun .io State.conIo)

/-- OUT (R543). -/
def execOut (s : State) : Host.Outcome State Fault Refusal := .next (s.conRun .out State.conOut)

/-- METER (R544): what the module measures at the pads that the line asks for. -/
def execMeter (values : List Int) (s : State) : Host.Outcome State Fault Refusal :=
  .next (s.conRun .meter (State.conMeter values))

/-- LEDGER (R542). -/
def execLedger (s : State) : Host.Outcome State Fault Refusal := .next (s.conRun .ledger State.conLedger)

/-- PAIR on the console (R542). -/
def execConsolePair (s : State) : Host.Outcome State Fault Refusal :=
  .next (s.conRun .pair fun ws => State.conBare ws 1 State.conPair)

/-- LIFE (R542). -/
def execLife (s : State) : Host.Outcome State Fault Refusal := .next (s.conRun .life fun ws => State.conBare ws 1 State.conLife)

/-- AUDIT (R542). -/
def execAudit (s : State) : Host.Outcome State Fault Refusal := .next (s.conRun .audit fun ws => State.conBare ws 1 State.conAudit)

/-- AUDIT BANKS (R542). -/
def execAuditBanks (s : State) : Host.Outcome State Fault Refusal :=
  .next (s.conRun .auditBanks fun ws => State.conBare ws 2 State.conBanks)

/-- AUDIT SC (R542). -/
def execAuditSc (s : State) : Host.Outcome State Fault Refusal := .next (s.conRun .auditSc fun ws => State.conBare ws 2 State.conSc)

/-- LOGIN on the console (R545). -/
def execConsoleLogin (s : State) : Host.Outcome State Fault Refusal :=
  .next (s.conRun .login fun ws => State.conBare ws 1 State.conChallenge)

/-- LOGIN + (R545). -/
def execLoginPlus (s : State) : Host.Outcome State Fault Refusal := .next (s.conRun .loginPlus State.conPlus)

/-- LOGIN END (R545). -/
def execLoginEnd (s : State) : Host.Outcome State Fault Refusal := .next (s.conRun .loginEnd State.conLoginEnd)

/-- LOGIN OFF (R545): the console's own login ends. -/
def execLoginOff (s : State) : Host.Outcome State Fault Refusal :=
  .next (s.conRun .loginOff fun ws => State.conBare ws 2 fun s => if s.conLogin then s.loginEnd else s)

/-- LOAD (R546). -/
def execLoad (s : State) : Host.Outcome State Fault Refusal := .next (s.conRun .load State.conLoad)

/-- LOAD_DATA_LINE (R546). -/
def execLoadDataLine (s : State) : Host.Outcome State Fault Refusal := .next (s.conRun .dataLine State.conData)

/-- LOAD_END_LINE (R546): `readErr`, a flash read error while the slot is verified. -/
def execLoadEndLine (readErr : Bool) (s : State) : Host.Outcome State Fault Refusal :=
  .next (s.conRun .endLine (State.conEndLoad readErr))

/-- CONSOLE_OUTPUT_SENT (R541): a byte leaves on SVC_TX. -/
def execConsoleOutputSent (s : State) : Host.Outcome State Fault Refusal :=
  .next (if s.con.output.isEmpty then s
    else State.conDrain 256 (s.updCon fun c => { c with output := c.output.drop 1 }).conFlush)

end Sys2Proof.Machine
end

