-- ==== Sys2Proof/Machine/HostPort.lean ====
section
/-! DEFINITION. The host port: reads and writes over PAR16 and QSPI, the access codes, the header and class
registers as the host writes them, doorbells, QCONS, the mirror window and the atomic apertures (00_scope.md R9;
01_accounts.md R17 to R37; 02_teller.md R40 to R60, R75; 12_banks.md R431 to R434). Every row of a host access runs
the one read or the one write of this file on its address (log 80). -/

namespace Sys2Proof.Machine

/-- What the outside brings to a write beside its data: a counted event in the cycle of cnt_clr (R26), the faults
whose cause is still present (R23), an atomic in progress and a double-bit error in its word (R433). -/
structure WriteEnv where
  sameCycle : Bool := false
  still : Word := 0
  busy : Bool := false
  dbl : Bool := false
deriving DecidableEq, Repr

namespace State

/-! Counters of the port. -/

/-- DEV_BAD_ADDR counts (R35). -/
def countBad (s : State) : State := s.addF Reg.devBadAddr 0 32 1

/-- DEV_WR_IGNORED counts (R19, R31, R36). -/
def countIgnored (s : State) : State := s.addF Reg.devWrIgnored 0 32 1

/-- A field of HOST_PORT_STAT counts, and port_error sets (R43, R51, R52, R60). -/
def portCount (s : State) (lo k : Nat) : State := if k = 0 then s else (s.addF Reg.hostPortStat lo 8 k).setFlt Acct.host 1

/-- Discarded writes (R43, R47). -/
def halfLost (s : State) (k : Nat) : State := s.portCount 8 k

/-- MBUSY asserted under R53. -/
def countBusy (s : State) : State := s.addF Reg.hostMbusyCnt 0 32 1

def updPort (s : State) (f : Port → Port) : State := { s with port := f s.port }

/-- ACC_ID is readable: the port serves accesses (R44). -/
def portLive (s : State) : Bool := (s.rst.phase == .running || s.rst.phase == .bootHold) && s.pwr != .vault

/-- A held low half is discarded by another access (R43). -/
def dropHeld (s : State) : State :=
  if s.port.wrLatch.isSome then (s.updPort fun p => { p with wrLatch := none }).halfLost 1 else s

/-! Reads. -/

/-- The RC fields of the word at `a` clear, back to their reset bits (R9, log 74). -/
def rcClear (s : State) (a : Nat) : State :=
  match Reg.find a with
  | none => s
  | some r =>
    if r.rc = 0 then s
    else if 0x1100 ≤ a ∧ a < 0x1500 then s.updQ ((a - 0x1100) / 0x40) fun q => { q with lost := 0 }
    else if a = 0xF220 then s.updLdg fun l => { l with peak := l.intake.length }
    else if 0xF224 ≤ a ∧ a < 0xF234 then
      let k := (a - 0xF224) / 4
      s.updLdg fun l =>
        { l with
          drops := updAt (updAt l.drops (2 * k) fun _ => 0) (2 * k + 1) fun _ => 0
          coalesced := if k = 3 then 0 else l.coalesced }
    else if a = 0xF238 then s.updLdg fun l => { l with waits := 0 }
    else if a = 0xF138 ∨ a = 0xF1B8 then
      let p := (a - 0xF138) / 0x80
      s.updLdg fun l =>
        { l with tornCnt := updAt l.tornCnt p fun _ => 0, progFail := updAt l.progFail p fun _ => 0 }
    else s.w a (merge r.rc (s.r a) (Reg.resetOf a))

/-- A register word read with its side effects: the snapshot of R94 and the clear of R9. -/
def readReg (s : State) (a : Nat) : State × Word :=
  let t := s.resolve a
  if !occupied t then (s.countBad, 0)
  else
    let v := s.hostView t
    let s := if isLead t then s.takeSnap t else s
    (s.rcClear t, v)

/-- The mirror groups: address of the sequence word, and the words after it (R48, R195). -/
def mbGroups : List (Nat × Nat) :=
  [(0x20000, 2), (0x20010, 4), (0x20030, 2), (0x20040, 3), (0x20050, 2), (0x20060, 6)]

/-- The mirror word at `a` belongs to a group (R48). -/
def inGroup (a : Nat) : Bool := mbGroups.any fun g => decide (g.1 ≤ a) && decide (a ≤ g.1 + 4 * g.2)

/-- A word of MB by its host address; the two apertures show the same words (R432). -/
def mbPlace (a : Nat) : Nat := if 0x26000 ≤ a then a - 0x2000 else a

def mbWord (s : State) (a : Nat) : Word := Sparse.get (fun _ => 0) s.mb (mbPlace a)

/-- A word of MB read by the host: a double-bit error or an internal write in the same sample asserts MBUSY, and over
PAR16 the data are undefined (R53, R54, R434). -/
def readMb (s : State) (a : Nat) (par same dbl : Bool) : State × Word × Bool :=
  if a < 0x24000 ∧ !inGroup a then (s.countBad, 0, false)
  else
    let w := s.mbWord a
    let s := if dbl then s.eccFlag 26 ((mbPlace a - 0x20000) / 4) 1 else s
    if par && (same || dbl) then (s.countBusy.takeFree, Config.freeWord s.free, true)
    else (if dbl then s.countBusy else s, w, false)

/-- A word of the Teller windows as it stands; one with a double-bit error reads 0 (R421). -/
def ringWord (s : State) (a : Nat) : Word :=
  if s.ringHas a && !s.tel.bad.contains a then wordAt (s.ringBytes a 4) 0 else 0

/-- A word read with its side effects; the flag is MBUSY. -/
def readWord (s : State) (a : Nat) (par same dbl : Bool) : State × Word × Bool :=
  if a < 0x20000 then let (s, v) := s.readReg a; (s, v, false)
  else if a < 0x28000 then s.readMb a par same dbl
  else if a < 0x40000 ∧ s.ringHas a then (if s.tel.bad.contains a then s.eccReads [a] else s, s.ringWord a, false)
  else (s.countBad, 0, false)

/-- The word at `a` without side effects: what a high half shows that no latch holds (R42). -/
def liveWord (s : State) (a : Nat) : Word :=
  if a < 0x20000 then (if occupied (s.resolve a) then s.hostView (s.resolve a) else 0)
  else if a < 0x28000 then s.mbWord a
  else s.ringWord a

def loHalf (v : Word) : Half := v.setWidth 16
def hiHalf (v : Word) : Half := (v >>> 16).setWidth 16

/-- What PAR16 drives: data and MBUSY, with the read latch as it then stands. -/
def drive (s : State) (d : Half) (busy : Bool) (latch : Option (Nat × Half)) : State :=
  s.updPort fun p => { p with dout := d, mbusy := busy, rdLatch := latch }

/-- The high half is in the read latch (R42). -/
def latched (s : State) (a : Nat) : Option Half :=
  match s.port.rdLatch with
  | some (b, h) => if b = a then some h else none
  | none => none

/-- A PAR16 read of one half (R41, R42, R44, R54). -/
def par16Read (s : State) (a : Nat) (hi same dbl : Bool) : State :=
  if !s.portLive then s.drive 0 true none
  else
    let s := s.dropHeld
    if hi then
      match s.latched a with
      | some h => s.drive h false none
      | none =>
        if decide (0x20000 ≤ a) && decide (a < 0x28000) && !(decide (a < 0x24000) && !inGroup a) then
          let (s, v, busy) := s.readMb a true same dbl
          s.drive (hiHalf v) busy none
        else s.drive (hiHalf (s.liveWord a)) false none
    else
      let (s, v, busy) := s.readWord a true same dbl
      s.drive (loHalf v) busy (if busy then none else some (a, hiHalf v))

/-- A word over QSPI: the address wraps its low bits away (R45). -/
def qspiWord (s : State) (a : Nat) (dbl : Bool) : State × Word :=
  if !s.portLive then (s, 0)
  else
    let (s, v, _) := s.readWord (a / 4 * 4) false false dbl
    (s, v)

/-- A QSPI transaction other than STATUS ends HUSH (R401). -/
def qspiWake (s : State) : State := if s.portLive then s.wake 1 else s

/-- `n` consecutive words from `a` (R46). -/
def qspiWords (s : State) (a : Nat) : Nat → State × List Word
  | 0 => (s, [])
  | n + 1 =>
    let (s, v) := s.qspiWord a false
    let (s, l) := s.qspiWords (a + 4) n
    (s, v :: l)

/-- One host read (R42, R46); the port that HOSTSEL does not select ignores its pads (R40). -/
def hostRead (s : State) (a : Nat) (acc : RAcc) (same dbl : Bool) : State :=
  match acc with
  | .par16 hi => if s.port.hostsel then s else (s.par16Read a hi same dbl).irqStep
  | .qspi =>
    if !s.port.hostsel then s
    else
      let (s, v) := s.qspiWake.qspiWord a dbl
      (s.updPort fun p => { p with qout := [v] }).irqStep

/-! Header writes. -/

/-- ACC_CNT clears; a counted event in the same cycle leaves 1 (R25, R26). -/
def clearCnt (s : State) (b : Nat) (same : Bool) : State :=
  let v := if same then 1 else 0
  if b = 0 then { s with tel := { s.tel with devCnt := v } }
  else if isQueue b then s.updQ ((b - 0x1100) / 0x40) fun q => { q with cnt := v }
  else if b = Acct.ledgerIntake then s.updLdg fun l => { l with cnt := v }
  else s.w (b + 0x14) (wOf v)

/-- The extra head field that a write of ACC_CTL carries: quad, fifo_len, or none (R29). -/
def extOf (b : Nat) (v : Word) : Nat :=
  if Acct.gp 0 ≤ b ∧ b < Acct.gp 16 then (if (b - Acct.gp 0) / 0x60 % 2 = 0 then fld v 16 1 else 0)
  else if Acct.obj 0 ≤ b ∧ b < Acct.obj 512 then fld v 16 5
  else 0

/-- The extra head field is stored with a group that does not form. -/
def storeExt (s : State) (b ext : Nat) : State :=
  if Acct.gp 0 ≤ b ∧ b < Acct.gp 16 then s.wf (b + 8) 16 1 ext
  else if Acct.obj 0 ≤ b ∧ b < Acct.obj 512 then s.wf (b + 8) 16 5 ext
  else s

/-- The grouping fields of a write of ACC_CTL, judged on the values before it; refused, cons_reject (R30). -/
def writeGroup (s : State) (b : Nat) (v : Word) : State :=
  let want := bit v 1 && mayHead b
  let ext := extOf b v
  if want == s.consolidated b && ext == s.groupExt b then s
  else if s.groupOk b want ext then
    let s := s.setGroup b want ext
    if want then s else s.storeExt b ext
  else s.setFlt b 30

/-- A write of ACC_CTL (R14, R17 to R19, R30, R31). -/
def writeCtl (s : State) (b : Nat) (r : AcctRow) (v : Word) (x : WriteEnv) : State :=
  if !s.runs b then s
  else if (s.headOf b).isSome then s.countIgnored
  else
    let s := if bit v 4 then s.clearCnt b x.sameCycle else s
    if b = 0 || isQueue b then s
    else if s.lockOf b != Lock.none then s.countIgnored
    else
      let s := if mayHead b then s.writeGroup b v else s
      let s := if r.hold then s.wb (b + 8) 3 (bit v 3) else s
      s.applyEn b (bit v 0)

/-- OUTn and its gang hold no latching fault (R302). -/
def unlatchOuts (s : State) (n : Nat) : State :=
  let id := s.unitOf n
  let ns := s.unitOuts id
  let held := ns.any fun m => ([1, 2, 3, 4, 6] : List Nat).any (s.hasFlt (outBase m))
  let gang := decide (0x20 ≤ id) && s.hasFlt (Acct.gp (id - 0x20)) 0
  if held || gang then s else ns.foldl (fun s m => s.wb Reg.outLatch m false) s

/-- TPOn after a clear: with no overload and no lost coupler it sources again, and its inputs show (R283, R286). -/
def tpoCleared (s : State) (n : Nat) : State :=
  let b := Acct.tpc n
  let s := if s.hasFlt b 1 || s.hasFlt b 3 || !s.en b then s
    else if s.hasGrant (0x30 + n) then s.startUnit (0x30 + n)
    else s.enableTpo n
  (List.range 48).foldl (fun s m => if s.tpSrc m = some n then s.showIn m else s) s

/-- What an account does once software has cleared fault bits of it; `gone` holds those that cleared. -/
def afterClear (s : State) (b : Nat) (gone : Word) : State :=
  let i := acctIdx b
  let c := acctCls b
  if gone = 0 then s
  else if c = 0x100 then (if s.en b && s.code b != 1 then s.encCode i else s)
  else if c = 0x102 then (if bit gone 5 then s.updAbs i fun a => { a with seed := true } else s)
  else if c = 0x104 then (if bit gone 1 && s.code b == 5 then s.setCode b 2 else s)
  else if c = 0x105 then
    (if !s.hasFlt b 1 && !s.hasFlt b 4 && s.code b == 5 && s.en b then s.enableEmu else s)
  else if c = 0x145 then s.showIn (inNum b)
  else if c = 0x147 then (if bit gone 1 || bit gone 3 then s.tpoCleared i else s)
  else if c = 0x146 then s.unlatchOuts (outNum b)
  else if c = 0x144 then (if s.consolidated b then s.unlatchOuts (2 * i) else s)
  else if c = 0x172 then
    let s := if (bit gone 0 || bit gone 1) && s.supplyGone then s.setDev .supply false else s
    let s := if bit gone 4 then s.sensFollow 0 else s
    if bit gone 5 then s.sensFollow 1 else s
  else if c = 0x1B0 then (if bit gone 2 then s.updAud fun x => { x with bad := [] } else s)
  else s

/-- A write of ACC_FLT: 1 clears a bit unless its cause is still present (R22, R23). -/
def writeFlt (s : State) (b : Nat) (r : AcctRow) (v : Word) (x : WriteEnv) : State :=
  let clr := masked (r.fault % 2 ^ 31) v &&& ~~~x.still
  let gone := s.flt b &&& clr
  let s' := if isQueue b then s.updQ ((b - 0x1100) / 0x40) fun q => { q with flt := q.flt &&& ~~~clr }
    else if b = Acct.ledgerIntake then s.updLdg fun l => { l with flt := l.flt &&& ~~~clr }
    else s.w (b + 0x10) (s.r (b + 0x10) &&& ~~~clr)
  s'.afterClear b gone

/-- A write of a header word (R12 to R28). -/
def writeHeader (s : State) (b o : Nat) (v : Word) (x : WriteEnv) : State :=
  match Acct.find b with
  | none => s
  | some (r, _) =>
    if o = 8 then s.writeCtl b r v x
    else if o = 0x10 then s.writeFlt b r v x
    else if o = 0x1C then s.w (b + 0x1C) v
    else s

/-! Class registers. -/

/-- A doorbell of Q0 or Q1 (R44, R58, R399, R401). -/
def doorbell (s : State) (q : Nat) (v : Word) : State :=
  if !s.tel.noticed then s.addF Reg.tellerErr 16 16 1
  else
    let s := (s.wake 1).leaveDoze
    let p := fld v 0 16
    let x := s.queue q
    let step := (p + 65536 - x.prod) % 65536
    if s.qdepth q < (p + 65536 - x.cons) % 65536 ∨ s.qdepth q < step then
      s.updQ q fun x => { x with flt := putBit x.flt 1 true }
    else (s.updQ q fun x => { x with prod := p, cnt := satN 0xFFFFFFFF (x.cnt + step) }).drain

/-- A write of QCONS: the device-produced rings free entries up to the value (R57, R58); the others are RO. -/
def writeQcons (s : State) (q : Nat) (v : Word) : State :=
  if !([2, 3, 4, 10, 11, 12, 13] : List Nat).contains q then s
  else if s.qfill q < (fld v 0 16 + 65536 - (s.queue q).cons) % 65536 then
    s.updQ q fun x => { x with flt := putBit x.flt 1 true }
  else (s.updQ q fun x => { x with cons := fld v 0 16 }).drain

/-- The account that owns a configuration word is enabled for R81, R319: itself, or through its head. -/
def cfgEn (s : State) (b : Nat) : Bool :=
  s.en b || (match s.headOf b with
    | some h => s.en h
    | none => false)

/-- The entry of a consolidated Field channel keeps its value (R278). -/
def cfgFrozen (s : State) (a b : Nat) : Bool := decide (0x7000 ≤ a) && decide (a < 0x8000) && (s.headOf b).isSome

/-- What follows an accepted configuration write: the learned mark of a door port (R201), the sensor feeds (R396). -/
def cfgWritten (s : State) (a : Nat) (old : State) : State :=
  if a = Reg.sensCfg then (s.sensFollow 0).sensFollow 1
  else match joinIdx (Acct.doorPort 0) 0x200 2 0x20 0x58 a with
    | some n => if old.unlearns n fun i => s.r (Reg.doorCfg n + 4 * i) then s.wb (Reg.doorLearned n) 16 false else s
    | none => s

/-- A configuration register under R81: written while its account is disabled, with values in range. -/
def writeCfg (s : State) (a b : Nat) (new : Word) : State :=
  let t := s.w a new
  if s.cfgEn b || s.cfgFrozen a b || !Ranges.ok a new || !t.jointOk a then s.setFlt b 0
  else t.cfgWritten a s

/-- Data words and OBJ_ID of a message object as the host writes them: only a TX object's, the data only while no
request is pending (R337; OBJ_ID). -/
def objKeeps (s : State) (a : Nat) : Bool :=
  decide (Acct.obj 0 ≤ a) && decide (a < Acct.fe 0) &&
    (let j := (a - Acct.obj 0) / 0x80
     let o := (a - Acct.obj 0) % 0x80
     s.objEngine j || (o == 0x24 && !s.objTx j) || (decide (0x40 ≤ o) && (!s.objTx j || s.objIs j 5)))

/-- A write of a class register by its access codes (R9, R19). -/
def writeClass (s : State) (a : Nat) (r : RegRow) (v : Word) : State :=
  let b := Acct.ofWord a
  if a = Reg.tellerDbCmd then s.doorbell 0 v
  else if a = Reg.tellerDbUrg then s.doorbell 1 v
  else if 0x1100 ≤ a ∧ a < 0x1500 ∧ a % 0x40 = 0x2C then s.writeQcons ((a - 0x1100) / 0x40) v
  else if a = Reg.tellerIrqStat then s.w a (s.r a &&& ~~~(masked r.w1c v))
  else if 0x8000 ≤ a ∧ a < 0xC000 ∧ a % 0x1000 = 0x80 then s.canSelect ((a - 0x8000) / 0x1000) v
  else if 0x8000 ≤ a ∧ a < 0xC000 ∧ a % 0x1000 = 0x84 then s.canApControl ((a - 0x8000) / 0x1000) v
  else if r.rw = 0 ∨ s.objKeeps a then s
  else if (r.cfg || r.rwl) && s.lockOf b != Lock.none then s.countIgnored
  else
    let new := merge r.rw (s.r a) v
    if r.cfg || a == Reg.tellerCfg then s.writeCfg a b new
    else if !Ranges.ok a new then s
    else if a = Reg.tampCfg then { s.w a new with vault := { s.vault with tampCfg := fld new 0 2 } }
    else s.w a new

/-- A register word commits (R35, R36, R43). -/
def writeReg (s : State) (a : Nat) (v : Word) (x : WriteEnv) : State :=
  if 0x6000 ≤ a ∧ a < 0x7000 then s.countIgnored
  else
    let t := s.resolve a
    match headerAt t with
    | some (b, o) => if s.objKeeps b && o != 0x1C then s else s.writeHeader b o v x
    | none =>
      match Reg.find t with
      | some r => s.writeClass t r v
      | none => s.countBad

/-- Bytes of the Teller windows: written as they stand, ignored before RESET_NOTICE (R43, R44, R56). -/
def writeWindow (s : State) (a : Nat) (bs : List Byte) : State :=
  if !s.tel.noticed then s
  else if s.ringHas a then s.setRingBytes a bs
  else s.countBad

/-- A committed atomic of word `w` (R432, R433); its read of a word with a double-bit error is flagged (R421). -/
def atomicWrite (s : State) (w : Nat) (swap : Bool) (v : Word) (x : WriteEnv) : State :=
  let s := s.hostAtomic w swap v x.busy x.dbl
  if x.dbl && !x.busy then s.eccFlag 26 (0x1000 + w) 1 else s

/-- A whole word commits. -/
def commitWord (s : State) (a : Nat) (v : Word) (x : WriteEnv) : State :=
  if a < 0x20000 then s.writeReg a v x
  else if a < 0x24000 then s.portCount 16 1
  else if a < 0x26000 then s.atomicWrite ((a - 0x24000) / 4) false v x
  else if a < 0x28000 then s.atomicWrite ((a - 0x26000) / 4) true v x
  else if a < 0x40000 then s.writeWindow a (leBytes 4 v.toNat)
  else s.countBad

/-- A PAR16 half into the Teller windows, byte lane by byte lane (R43). -/
def windowHalf (s : State) (a : Nat) (hi : Bool) (d : Half) (ble bhe : Bool) : State :=
  let o := if hi then a + 2 else a
  let lo := BitVec.ofNat 8 d.toNat
  let up := BitVec.ofNat 8 (d.toNat / 256)
  if ble && bhe then s.writeWindow o [lo, up]
  else if ble then s.writeWindow o [lo]
  else if bhe then s.writeWindow (o + 1) [up]
  else s

/-- A PAR16 write of one half (R43, R44, R52, R432). -/
def par16Write (s : State) (a : Nat) (hi : Bool) (d : Half) (ble bhe : Bool) (x : WriteEnv) : State :=
  if !s.portLive then s
  else
    let s := s.updPort fun p => { p with rdLatch := none }
    if 0x28000 ≤ a then s.dropHeld.windowHalf a hi d ble bhe
    else if 0x20000 ≤ a ∧ a < 0x24000 then s.dropHeld.portCount 16 1
    else if !(ble && bhe) then s.dropHeld.halfLost 1
    else if !hi then s.dropHeld.updPort fun p => { p with wrLatch := some (a, d) }
    else match s.port.wrLatch with
      | some (b, l) =>
        let s := s.updPort fun p => { p with wrLatch := none }
        if b = a then s.commitWord a (d ++ l) x else s.halfLost 2
      | none => s.halfLost 1

/-- One host write (R43, R46); the port that HOSTSEL does not select ignores its pads (R40). -/
def hostWrite (s : State) (a : Nat) (acc : WAcc) (x : WriteEnv) : State :=
  match acc with
  | .par16 hi d ble bhe => if s.port.hostsel then s else (s.par16Write a hi d ble bhe x).irqStep
  | .qspi v =>
    if !s.port.hostsel || !s.portLive then s
    else (s.qspiWake.commitWord (a / 4 * 4) v x).irqStep

/-- Consecutive words of a QSPI WRITE (R46). -/
def qspiWrites (s : State) (a : Nat) : List Word → State
  | [] => s
  | v :: t => (s.commitWord a v {}).qspiWrites (a + 4) t

/-! The mirror window (R48, R49, R402). -/

/-- A group is rewritten: its sequence word counts up by 2, and its words follow. -/
def putGroup (s : State) (a : Nat) (ws : List Word) : State :=
  let q := Sparse.get (fun _ => 0) s.mb a + 2
  { s with mb := Sparse.setList (fun _ => 0) s.mb a 4 (q :: ws) }

/-- MOTION: while no fused value is available the other words keep their last values (R48). -/
def motionWords (s : State) : List Word :=
  (if s.mstatValid then [s.r Reg.carpos, s.r Reg.carspd, s.r Reg.caracc]
   else [s.mbWord 0x20014, s.mbWord 0x20018, s.mbWord 0x2001C]) ++ [s.r Reg.fusMstat]

/-- SAFETY: the state code with the active safety functions, and the latched ones (R48, R259). -/
def safetyWords (s : State) : List Word :=
  [wOf (safeCode s.cpt.st + 256 * (s.activeCauses % 256)), wOf (s.latchedCauses % 256)]

/-- ORDERS (R195). -/
def orderWords (s : State) : List Word :=
  [s.peek Reg.prfStat, s.peek Reg.prfSref, s.peek Reg.prfStopdist, s.peek Reg.prfTarget,
    wOf (maskOf ((List.range 32).filter fun n => s.slotState n != 0)),
    wOf (maskOf ((List.range 32).filter fun n => s.slotState (32 + n) != 0))]

def mirrorUpdate (s : State) : State :=
  if s.rst.phase = .running ∧ s.pwr ≠ .vault then
    let s := s.putGroup 0x20000 [wOf s.till, wOf (s.till / 2 ^ 32)]
    let s := s.putGroup 0x20010 s.motionWords
    let s := s.putGroup 0x20030 [s.doorWord 0, s.doorWord 1]
    let s := s.putGroup 0x20040 [s.r Reg.inStateL, masked 0xFFFFFF (s.r Reg.inStateH), s.r Reg.outCmd]
    let s := s.putGroup 0x20050 s.safetyWords
    s.putGroup 0x20060 s.orderWords
  else if s.cptRuns then s.putGroup 0x20050 s.safetyWords
  else s

/-- SNAP at a group's sequence word streams the copy, then the words that follow live; elsewhere it is a READ that
counts in snap_miss (R51). -/
def qspiSnap (s : State) (a n : Nat) : State × List Word :=
  let a := a / 4 * 4
  match mbGroups.find? fun g => g.1 == a with
  | some g =>
    let k := min n (g.2 + 1)
    let copy := Sparse.getList (fun _ => 0) s.mb a 4 k
    let (s, rest) := s.qspiWords (a + 4 * k) (n - k)
    (s, copy ++ rest)
  | none => (s.portCount 24 1).qspiWords a n

end State

/-- A host read at an address the port can carry. -/
def readAt (a : Nat) (acc : RAcc) (same dbl : Bool) (s : State) : Host.Outcome State Fault Refusal :=
  if readAddrOk a acc then .next (s.hostRead a acc same dbl) else .fault .illFormed

/-- A host write at an address the port can carry. -/
def writeAt (a : Nat) (acc : WAcc) (x : WriteEnv) (s : State) : Host.Outcome State Fault Refusal :=
  if writeAddrOk a acc then .next (s.hostWrite a acc x) else .fault .illFormed

/-- REGISTER_WRITE (R9, R19, R43, R81). -/
def execRegisterWrite (addr : Nat) (a : WAcc) (s : State) : Host.Outcome State Fault Refusal := writeAt addr a {} s

/-- PAR16_LOW_HALF_WRITE (R43). -/
def execPar16LowHalfWrite (addr : Nat) (data : Half) (ble bhe : Bool) (s : State) : Host.Outcome State Fault Refusal :=
  writeAt addr (.par16 false data ble bhe) {} s

/-- PAR16_READ_WRITE_CONFLICT (R583): nOE and nWE both low. -/
def execPar16ReadWriteConflict (s : State) : Host.Outcome State Fault Refusal :=
  .next (if s.port.hostsel || !s.portLive then s else (s.halfLost 1).irqStep)

/-- RC_REGISTER_READ (R9, R42). -/
def execRcRegisterRead (addr : Nat) (a : RAcc) (s : State) : Host.Outcome State Fault Refusal := readAt addr a false false s

/-- SNAPSHOT_READ (R94). -/
def execSnapshotRead (addr : Nat) (a : RAcc) (s : State) : Host.Outcome State Fault Refusal := readAt addr a false false s

/-- MIRROR_WINDOW_READ (R50, R53, R54, R434). -/
def execMirrorWindowRead (addr : Nat) (a : RAcc) (sameSample doubleBit : Bool) (s : State) :
    Host.Outcome State Fault Refusal := readAt addr a sameSample doubleBit s

/-- MIRROR_WINDOW_WRITE (R52). -/
def execMirrorWindowWrite (addr : Nat) (a : WAcc) (s : State) : Host.Outcome State Fault Refusal := writeAt addr a {} s

/-- BAD_ADDRESS_ACCESS (R35, R45). -/
def execBadAddressAccess (addr : Nat) (a : Acc) (s : State) : Host.Outcome State Fault Refusal :=
  match a with
  | .read r => readAt addr r false false s
  | .write w => writeAt addr w {} s

/-- COMPTROLLER_RANGE_WRITE (R36). -/
def execComptrollerRangeWrite (addr : Nat) (a : WAcc) (s : State) : Host.Outcome State Fault Refusal := writeAt addr a {} s

/-- QSPI_READ (R45, R46). -/
def execQspiRead (addr count : Nat) (s : State) : Host.Outcome State Fault Refusal :=
  if !qspiAddr addr then .fault .illFormed
  else if !s.port.hostsel then .next s
  else
    let (s, ws) := s.qspiWake.qspiWords addr count
    .next (s.updPort fun p => { p with qout := ws }).irqStep

/-- QSPI_SNAP (R51). -/
def execQspiSnap (addr count : Nat) (s : State) : Host.Outcome State Fault Refusal :=
  if !qspiAddr addr then .fault .illFormed
  else if !s.port.hostsel then .next s
  else if !s.portLive then .next (s.updPort fun p => { p with qout := List.replicate count 0 })
  else
    let (s, ws) := s.qspiWake.qspiSnap addr count
    .next (s.updPort fun p => { p with qout := ws }).irqStep

/-- QSPI_WRITE (R46, R47); `part`: the transaction ends part-way through a further word. -/
def execQspiWrite (addr : Nat) (words : List Word) (part : Bool) (s : State) : Host.Outcome State Fault Refusal :=
  if !qspiAddr addr then .fault .illFormed
  else if !s.port.hostsel || !s.portLive then .next s
  else
    let s := s.qspiWake.qspiWrites (addr / 4 * 4) words
    let s := if part then (s.updPort fun p => { p with partWord := true }).halfLost 1 else s
    .next s.irqStep

/-- QSPI_STATUS (R46). -/
def execQspiStatus (s : State) : Host.Outcome State Fault Refusal :=
  if !s.port.hostsel then .next s
  else
    let p := s.port
    .next (s.updPort fun q =>
      { q with
        qstatus := BitVec.ofNat 8 ((if s.portLive then 1 else 0) + (if p.irqLow then 2 else 0) + (if p.partWord then 4 else 0))
        partWord := false })

/-- QSPI_UNKNOWN_COMMAND (R46): the rest of the transaction is ignored. -/
def execQspiUnknownCommand (cmd : Byte) (s : State) : Host.Outcome State Fault Refusal :=
  if qspiKnown cmd then .fault .illFormed
  else if !s.port.hostsel then .next s
  else .next (s.qspiWake.updPort fun p => { p with qout := [] })

/-- ACC_CTL_EN_WRITE (R17, R19, R59). -/
def execAccCtlEnWrite (base : Nat) (a : WAcc) (s : State) : Host.Outcome State Fault Refusal := writeAt (base + 8) a {} s

/-- ACC_CTL_CONSOLIDATE_WRITE (R29 to R32). -/
def execAccCtlConsolidateWrite (base : Nat) (a : WAcc) (s : State) : Host.Outcome State Fault Refusal :=
  writeAt (base + 8) a {} s

/-- ACC_CTL_HOLD_WRITE (R18). -/
def execAccCtlHoldWrite (base : Nat) (a : WAcc) (s : State) : Host.Outcome State Fault Refusal := writeAt (base + 8) a {} s

/-- ACC_CTL_CNT_CLR (R25, R26). -/
def execAccCtlCntClr (base : Nat) (a : WAcc) (sameCycle : Bool) (s : State) : Host.Outcome State Fault Refusal :=
  writeAt (base + 8) a { sameCycle := sameCycle } s

/-- ACC_FLT_W1C (R23). -/
def execAccFltW1c (base : Nat) (a : WAcc) (stillPresent : Word) (s : State) : Host.Outcome State Fault Refusal :=
  writeAt (base + 0x10) a { still := stillPresent } s

/-- TELLER_CFG_WRITE (R59). -/
def execTellerCfgWrite (a : WAcc) (s : State) : Host.Outcome State Fault Refusal := writeAt Reg.tellerCfg a {} s

/-- TELLER_DB_CMD (R44, R58). -/
def execTellerDbCmd (a : WAcc) (s : State) : Host.Outcome State Fault Refusal := writeAt Reg.tellerDbCmd a {} s

/-- TELLER_DB_URG (R44, R58). -/
def execTellerDbUrg (a : WAcc) (s : State) : Host.Outcome State Fault Refusal := writeAt Reg.tellerDbUrg a {} s

/-- QCONS_WRITE (R57, R58). -/
def execQconsWrite (q : Fin 16) (a : WAcc) (s : State) : Host.Outcome State Fault Refusal := writeAt (Reg.qcons q.val) a {} s

/-- IRQ_HOLDOFF_EXPIRY (R75). -/
def execIrqHoldoffExpiry (s : State) : Host.Outcome State Fault Refusal :=
  .next (if s.port.holdoff then (s.updPort fun p => { p with holdoff := false }).irqStep else s)

/-- MIRROR_UPDATE (R48, R49, R195, R402). -/
def execMirrorUpdate (s : State) : Host.Outcome State Fault Refusal := .next s.mirrorUpdate

/-- ATOMIC_ADD (R432, R433). -/
def execAtomicAdd (w : Fin 2048) (a : WAcc) (busy doubleBit : Bool) (s : State) : Host.Outcome State Fault Refusal :=
  writeAt (0x24000 + 4 * w.val) a { busy := busy, dbl := doubleBit } s

/-- ATOMIC_SWAP (R432, R433). -/
def execAtomicSwap (w : Fin 2048) (a : WAcc) (busy doubleBit : Bool) (s : State) : Host.Outcome State Fault Refusal :=
  writeAt (0x26000 + 4 * w.val) a { busy := busy, dbl := doubleBit } s

/-- CAN_AP_SEL_WRITE (R333). -/
def execCanApSelWrite (n : Fin 4) (a : WAcc) (s : State) : Host.Outcome State Fault Refusal := writeAt (Reg.canApSel n.val) a {} s

/-- CAN_AP_RELEASE (R333). -/
def execCanApRelease (n : Fin 4) (a : WAcc) (s : State) : Host.Outcome State Fault Refusal := writeAt (Reg.canApCtl n.val) a {} s

/-- CAN_AP_TXREQ (R337). -/
def execCanApTxreq (n : Fin 4) (a : WAcc) (s : State) : Host.Outcome State Fault Refusal := writeAt (Reg.canApCtl n.val) a {} s

/-- CAN_AP_ABORT (R339). -/
def execCanApAbort (n : Fin 4) (a : WAcc) (s : State) : Host.Outcome State Fault Refusal := writeAt (Reg.canApCtl n.val) a {} s

end Sys2Proof.Machine
end

