-- ==== Sys2Proof/Machine/Dispatch.lean ====
section
/-! DEFINITION. The meaning of every command: one arm per constructor of Instr, one direct call each. -/

namespace Sys2Proof.Machine

def exec (i : Instr) (s : State) : Host.Outcome State Fault Refusal :=
  match i with
  | .registerWrite addr a => Sys2Proof.Machine.execRegisterWrite addr a s
  | .par16LowHalfWrite addr data ble bhe => Sys2Proof.Machine.execPar16LowHalfWrite addr data ble bhe s
  | .par16ReadWriteConflict => Sys2Proof.Machine.execPar16ReadWriteConflict s
  | .rcRegisterRead addr a => Sys2Proof.Machine.execRcRegisterRead addr a s
  | .snapshotRead addr a => Sys2Proof.Machine.execSnapshotRead addr a s
  | .mirrorWindowRead addr a sameSample doubleBit => Sys2Proof.Machine.execMirrorWindowRead addr a sameSample doubleBit s
  | .mirrorWindowWrite addr a => Sys2Proof.Machine.execMirrorWindowWrite addr a s
  | .badAddressAccess addr a => Sys2Proof.Machine.execBadAddressAccess addr a s
  | .comptrollerRangeWrite addr a => Sys2Proof.Machine.execComptrollerRangeWrite addr a s
  | .qspiRead addr count => Sys2Proof.Machine.execQspiRead addr count s
  | .qspiSnap addr count => Sys2Proof.Machine.execQspiSnap addr count s
  | .qspiWrite addr words part => Sys2Proof.Machine.execQspiWrite addr words part s
  | .qspiStatus => Sys2Proof.Machine.execQspiStatus s
  | .qspiUnknownCommand cmd => Sys2Proof.Machine.execQspiUnknownCommand cmd s
  | .accCtlEnWrite base a => Sys2Proof.Machine.execAccCtlEnWrite base a s
  | .accCtlConsolidateWrite base a => Sys2Proof.Machine.execAccCtlConsolidateWrite base a s
  | .accCtlHoldWrite base a => Sys2Proof.Machine.execAccCtlHoldWrite base a s
  | .accCtlCntClr base a sameCycle => Sys2Proof.Machine.execAccCtlCntClr base a sameCycle s
  | .accFltW1c base a stillPresent => Sys2Proof.Machine.execAccFltW1c base a stillPresent s
  | .tellerCfgWrite a => Sys2Proof.Machine.execTellerCfgWrite a s
  | .tellerDbCmd a => Sys2Proof.Machine.execTellerDbCmd a s
  | .tellerDbUrg a => Sys2Proof.Machine.execTellerDbUrg a s
  | .qconsWrite q a => Sys2Proof.Machine.execQconsWrite q a s
  | .irqHoldoffExpiry => Sys2Proof.Machine.execIrqHoldoffExpiry s
  | .completionPost => Sys2Proof.Machine.execCompletionPost s
  | .resetNotice => Sys2Proof.Machine.execResetNotice s
  | .mirrorUpdate => Sys2Proof.Machine.execMirrorUpdate s
  | .nop src => Sys2Proof.Machine.execNop src s
  | .getInfo src => Sys2Proof.Machine.execGetInfo src s
  | .getStatus src => Sys2Proof.Machine.execGetStatus src s
  | .softReset src => Sys2Proof.Machine.execSoftReset src s
  | .setPowerStateRun src => Sys2Proof.Machine.execSetPowerStateRun src s
  | .setPowerStateDoze src => Sys2Proof.Machine.execSetPowerStateDoze src s
  | .setPowerStateHush src => Sys2Proof.Machine.execSetPowerStateHush src s
  | .getTelemetry src => Sys2Proof.Machine.execGetTelemetry src s
  | .accWalk src => Sys2Proof.Machine.execAccWalk src s
  | .paramRead src => Sys2Proof.Machine.execParamRead src s
  | .paramWrite src => Sys2Proof.Machine.execParamWrite src s
  | .paramCommit src programOk => Sys2Proof.Machine.execParamCommit src programOk s
  | .paramDigest src => Sys2Proof.Machine.execParamDigest src s
  | .paramDefaults src programOk => Sys2Proof.Machine.execParamDefaults src programOk s
  | .encConfig src => Sys2Proof.Machine.execEncConfig src s
  | .hallConfig src => Sys2Proof.Machine.execHallConfig src s
  | .absConfig src => Sys2Proof.Machine.execAbsConfig src s
  | .obsConfig src => Sys2Proof.Machine.execObsConfig src s
  | .fusionConfig src => Sys2Proof.Machine.execFusionConfig src s
  | .emuConfig src => Sys2Proof.Machine.execEmuConfig src s
  | .capConfig src => Sys2Proof.Machine.execCapConfig src s
  | .landingLearn src => Sys2Proof.Machine.execLandingLearn src s
  | .learnRunEnd programOk => Sys2Proof.Machine.execLearnRunEnd programOk s
  | .landingTableWrite src => Sys2Proof.Machine.execLandingTableWrite src s
  | .profileSet src => Sys2Proof.Machine.execProfileSet src s
  | .orderAdd src => Sys2Proof.Machine.execOrderAdd src s
  | .orderCancel src => Sys2Proof.Machine.execOrderCancel src s
  | .orderList src => Sys2Proof.Machine.execOrderList src s
  | .driveBind src => Sys2Proof.Machine.execDriveBind src s
  | .relevelConfig src => Sys2Proof.Machine.execRelevelConfig src s
  | .doorConfig src => Sys2Proof.Machine.execDoorConfig src s
  | .doorLearn src => Sys2Proof.Machine.execDoorLearn src s
  | .doorLearnEnd n m => Sys2Proof.Machine.execDoorLearnEnd n m s
  | .doorOpen src => Sys2Proof.Machine.execDoorOpen src s
  | .doorClose src => Sys2Proof.Machine.execDoorClose src s
  | .doorReverse src => Sys2Proof.Machine.execDoorReverse src s
  | .doorNudge src => Sys2Proof.Machine.execDoorNudge src s
  | .doorHold src => Sys2Proof.Machine.execDoorHold src s
  | .ioConfig src => Sys2Proof.Machine.execIoConfig src s
  | .outSet src => Sys2Proof.Machine.execOutSet src s
  | .gangSetForm2 src => Sys2Proof.Machine.execGangSetForm2 src s
  | .gangSetForm4 src => Sys2Proof.Machine.execGangSetForm4 src s
  | .gangSetDissolve src => Sys2Proof.Machine.execGangSetDissolve src s
  | .gangSetOn src => Sys2Proof.Machine.execGangSetOn src s
  | .gangSetOff src => Sys2Proof.Machine.execGangSetOff src s
  | .pairConfig src => Sys2Proof.Machine.execPairConfig src s
  | .testpulseConfig src => Sys2Proof.Machine.execTestpulseConfig src s
  | .safeStatus src => Sys2Proof.Machine.execSafeStatus src s
  | .safeRestart src => Sys2Proof.Machine.execSafeRestart src s
  | .safeParamLoad src => Sys2Proof.Machine.execSafeParamLoad src s
  | .safeAckLockout src => Sys2Proof.Machine.execSafeAckLockout src s
  | .safeProofTest src outcomes => Sys2Proof.Machine.execSafeProofTest src outcomes s
  | .canConfig src => Sys2Proof.Machine.execCanConfig src s
  | .canAutobaud src => Sys2Proof.Machine.execCanAutobaud src s
  | .canRate n => Sys2Proof.Machine.execCanRate n s
  | .canObjConfig src => Sys2Proof.Machine.execCanObjConfig src s
  | .canFilterSet src => Sys2Proof.Machine.execCanFilterSet src s
  | .canTx src => Sys2Proof.Machine.execCanTx src s
  | .canRearm src => Sys2Proof.Machine.execCanRearm src s
  | .canLoopback src => Sys2Proof.Machine.execCanLoopback src s
  | .linkConfig src => Sys2Proof.Machine.execLinkConfig src s
  | .linkStatus src => Sys2Proof.Machine.execLinkStatus src s
  | .csConnOpen src => Sys2Proof.Machine.execCsConnOpen src s
  | .csConnClose src => Sys2Proof.Machine.execCsConnClose src s
  | .tunnelSend src => Sys2Proof.Machine.execTunnelSend src s
  | .purseSet src => Sys2Proof.Machine.execPurseSet src s
  | .purseStatus src => Sys2Proof.Machine.execPurseStatus src s
  | .bankState src => Sys2Proof.Machine.execBankState src s
  | .hushKeep src => Sys2Proof.Machine.execHushKeep src s
  | .marchRun src => Sys2Proof.Machine.execMarchRun src s
  | .marchDone words => Sys2Proof.Machine.execMarchDone words s
  | .marchResult src => Sys2Proof.Machine.execMarchResult src s
  | .repairStatus src => Sys2Proof.Machine.execRepairStatus src s
  | .ledgerRead src => Sys2Proof.Machine.execLedgerRead src s
  | .ledgerFreeze src => Sys2Proof.Machine.execLedgerFreeze src s
  | .ledgerThaw src => Sys2Proof.Machine.execLedgerThaw src s
  | .ledgerArchive src => Sys2Proof.Machine.execLedgerArchive src s
  | .ledgerReleaseSealed src => Sys2Proof.Machine.execLedgerReleaseSealed src s
  | .attest src => Sys2Proof.Machine.execAttest src s
  | .attestRead src => Sys2Proof.Machine.execAttestRead src s
  | .pair src x => Sys2Proof.Machine.execPair src x s
  | .pairCheck src peerKey sig => Sys2Proof.Machine.execPairCheck src peerKey sig s
  | .lifeSet src wipe => Sys2Proof.Machine.execLifeSet src wipe s
  | .fwStage src readErr => Sys2Proof.Machine.execFwStage src readErr s
  | .fwActivateSwitch src => Sys2Proof.Machine.execFwActivateSwitch src s
  | .fwActivateConfirm src => Sys2Proof.Machine.execFwActivateConfirm src s
  | .fwActivateBurn src => Sys2Proof.Machine.execFwActivateBurn src s
  | .serviceLoginChallenge src => Sys2Proof.Machine.execServiceLoginChallenge src s
  | .serviceLoginResponse src => Sys2Proof.Machine.execServiceLoginResponse src s
  | .serviceLoginLogout src => Sys2Proof.Machine.execServiceLoginLogout src s
  | .auditConfig src => Sys2Proof.Machine.execAuditConfig src s
  | .auditStatus src => Sys2Proof.Machine.execAuditStatus src s
  | .scArm src => Sys2Proof.Machine.execScArm src s
  | .scDisarm src => Sys2Proof.Machine.execScDisarm src s
  | .longCommandTimeout u => Sys2Proof.Machine.execLongCommandTimeout u s
  | .atomicAdd w a busy doubleBit => Sys2Proof.Machine.execAtomicAdd w a busy doubleBit s
  | .atomicSwap w a busy doubleBit => Sys2Proof.Machine.execAtomicSwap w a busy doubleBit s
  | .canApSelWrite n a => Sys2Proof.Machine.execCanApSelWrite n a s
  | .canApRelease n a => Sys2Proof.Machine.execCanApRelease n a s
  | .canApTxreq n a => Sys2Proof.Machine.execCanApTxreq n a s
  | .canApAbort n a => Sys2Proof.Machine.execCanApAbort n a s
  | .encEdge n a b => Sys2Proof.Machine.execEncEdge n a b s
  | .untrustedClear n => Sys2Proof.Machine.execUntrustedClear n s
  | .encIndexEdge n z => Sys2Proof.Machine.execEncIndexEdge n z s
  | .encLine n lines => Sys2Proof.Machine.execEncLine n lines s
  | .hallChange n lines => Sys2Proof.Machine.execHallChange n lines s
  | .absRead n dataHigh => Sys2Proof.Machine.execAbsRead n dataHigh s
  | .absFrameEnd n frame => Sys2Proof.Machine.execAbsFrameEnd n frame s
  | .absStale n => Sys2Proof.Machine.execAbsStale n s
  | .capture n rising => Sys2Proof.Machine.execCapture n rising s
  | .accSample idByte bytes => Sys2Proof.Machine.execAccSample idByte bytes s
  | .accLate => Sys2Proof.Machine.execAccLate s
  | .emuRepeatEdge a b z => Sys2Proof.Machine.execEmuRepeatEdge a b z s
  | .emuDriveFault => Sys2Proof.Machine.execEmuDriveFault s
  | .obsUpdate => Sys2Proof.Machine.execObsUpdate s
  | .gateTZeroExpiry ch => Sys2Proof.Machine.execGateTZeroExpiry ch s
  | .fusionUpdate missed => Sys2Proof.Machine.execFusionUpdate missed s
  | .planTick missed => Sys2Proof.Machine.execPlanTick missed s
  | .planMissAbort => Sys2Proof.Machine.execPlanMissAbort s
  | .referenceSample => Sys2Proof.Machine.execReferenceSample s
  | .startFail => Sys2Proof.Machine.execStartFail s
  | .startDelayExpiry => Sys2Proof.Machine.execStartDelayExpiry s
  | .brakeHoldExpiry => Sys2Proof.Machine.execBrakeHoldExpiry s
  | .relevelBypassTimeout => Sys2Proof.Machine.execRelevelBypassTimeout s
  | .driveRef => Sys2Proof.Machine.execDriveRef s
  | .driveStat => Sys2Proof.Machine.execDriveStat s
  | .driveLost => Sys2Proof.Machine.execDriveLost s
  | .doorControlPeriod n iu iv iw vbus => Sys2Proof.Machine.execDoorControlPeriod n iu iv iw vbus s
  | .doorOvercurrent n iu iv iw => Sys2Proof.Machine.execDoorOvercurrent n iu iv iw s
  | .doorPowerStageFault n samples => Sys2Proof.Machine.execDoorPowerStageFault n samples s
  | .doorVbusFault n => Sys2Proof.Machine.execDoorVbusFault n s
  | .doorCoastEnd n => Sys2Proof.Machine.execDoorCoastEnd n s
  | .doorEnableSettle n => Sys2Proof.Machine.execDoorEnableSettle n s
  | .dwellExpiry n => Sys2Proof.Machine.execDwellExpiry n s
  | .holdTimeExpiry n => Sys2Proof.Machine.execHoldTimeExpiry n s
  | .doorStall n => Sys2Proof.Machine.execDoorStall n s
  | .doorEnergy n => Sys2Proof.Machine.execDoorEnergy n s
  | .contactTimeout n => Sys2Proof.Machine.execContactTimeout n s
  | .doorLockFail n => Sys2Proof.Machine.execDoorLockFail n s
  | .nudgePauseExpiry n => Sys2Proof.Machine.execNudgePauseExpiry n s
  | .obstructionTimeExpiry n => Sys2Proof.Machine.execObstructionTimeExpiry n s
  | .safeCycle path => Sys2Proof.Machine.execSafeCycle path s
  | .sequenceOverrun => Sys2Proof.Machine.execSequenceOverrun s
  | .lockstepMismatch doubleBit => Sys2Proof.Machine.execLockstepMismatch doubleBit s
  | .edmTimeout k => Sys2Proof.Machine.execEdmTimeout k s
  | .reqLost => Sys2Proof.Machine.execReqLost s
  | .parkDelayExpiry => Sys2Proof.Machine.execParkDelayExpiry s
  | .paramCrcCheck => Sys2Proof.Machine.execParamCrcCheck s
  | .proofTestDue => Sys2Proof.Machine.execProofTestDue s
  | .supplyCauseClear => Sys2Proof.Machine.execSupplyCauseClear s
  | .inputTick raw => Sys2Proof.Machine.execInputTick raw s
  | .pairDisc k => Sys2Proof.Machine.execPairDisc k s
  | .pairRecover k => Sys2Proof.Machine.execPairRecover k s
  | .hushInputSample raw => Sys2Proof.Machine.execHushInputSample raw s
  | .tpoPulse n start => Sys2Proof.Machine.execTpoPulse n start s
  | .tpoFault n kind => Sys2Proof.Machine.execTpoFault n kind s
  | .darkPulseSlot n rb before atCheck => Sys2Proof.Machine.execDarkPulseSlot n rb before atCheck s
  | .outOverload n => Sys2Proof.Machine.execOutOverload n s
  | .outThermal n => Sys2Proof.Machine.execOutThermal n s
  | .outOpenLoad n => Sys2Proof.Machine.execOutOpenLoad n s
  | .gangShare k member => Sys2Proof.Machine.execGangShare k member s
  | .couplerLoss ch => Sys2Proof.Machine.execCouplerLoss ch s
  | .inrushEnd id => Sys2Proof.Machine.execInrushEnd id s
  | .purseDecision measField measV5 => Sys2Proof.Machine.execPurseDecision measField measV5 s
  | .purseRestore => Sys2Proof.Machine.execPurseRestore s
  | .overMeasure k => Sys2Proof.Machine.execOverMeasure k s
  | .vfSample v => Sys2Proof.Machine.execVfSample v s
  | .supplyFault kind v => Sys2Proof.Machine.execSupplyFault kind v s
  | .sensOvercurrent k => Sys2Proof.Machine.execSensOvercurrent k s
  | .clockWindow counts => Sys2Proof.Machine.execClockWindow counts s
  | .vaultXtalStop => Sys2Proof.Machine.execVaultXtalStop s
  | .pllLoss => Sys2Proof.Machine.execPllLoss s
  | .dozeWake => Sys2Proof.Machine.execDozeWake s
  | .hushWake cause => Sys2Proof.Machine.execHushWake cause s
  | .powerOn vaultLost => Sys2Proof.Machine.execPowerOn vaultLost s
  | .brownOut => Sys2Proof.Machine.execBrownOut s
  | .borRelease => Sys2Proof.Machine.execBorRelease s
  | .vaultEntry vbatOk => Sys2Proof.Machine.execVaultEntry vbatOk s
  | .nrstLow => Sys2Proof.Machine.execNrstLow s
  | .tellerWatchdogExpiry => Sys2Proof.Machine.execTellerWatchdogExpiry s
  | .delayedSoftReset => Sys2Proof.Machine.execDelayedSoftReset s
  | .lifeReset => Sys2Proof.Machine.execLifeReset s
  | .resetRelease env => Sys2Proof.Machine.execResetRelease env s
  | .canRxFrame n f late => Sys2Proof.Machine.execCanRxFrame n f late s
  | .canTxAttemptEnd n e => Sys2Proof.Machine.execCanTxAttemptEnd n e s
  | .canError n e => Sys2Proof.Machine.execCanError n e s
  | .canRecover n => Sys2Proof.Machine.execCanRecover n s
  | .protocolException n => Sys2Proof.Machine.execProtocolException n s
  | .canLockExpired n => Sys2Proof.Machine.execCanLockExpired n s
  | .canWake n => Sys2Proof.Machine.execCanWake n s
  | .linkFrameTx => Sys2Proof.Machine.execLinkFrameTx s
  | .linkFrameRx frame => Sys2Proof.Machine.execLinkFrameRx frame s
  | .linkFrameMissing => Sys2Proof.Machine.execLinkFrameMissing s
  | .linkDown => Sys2Proof.Machine.execLinkDown s
  | .linkLossOfSignal => Sys2Proof.Machine.execLinkLossOfSignal s
  | .linkRateSwitch => Sys2Proof.Machine.execLinkRateSwitch s
  | .pairingCheckEnd peerKey sig => Sys2Proof.Machine.execPairingCheckEnd peerKey sig s
  | .tunnelResend => Sys2Proof.Machine.execTunnelResend s
  | .csPdu k pdu => Sys2Proof.Machine.execCsPdu k pdu s
  | .csWatchdog k => Sys2Proof.Machine.execCsWatchdog k s
  | .csSafeReopen k => Sys2Proof.Machine.execCsSafeReopen k s
  | .csProduce k => Sys2Proof.Machine.execCsProduce k s
  | .bankStall bank prio cycles => Sys2Proof.Machine.execBankStall bank prio cycles s
  | .srAccessRefused k => Sys2Proof.Machine.execSrAccessRefused k s
  | .ledgerIntakeArrival code inst detail => Sys2Proof.Machine.execLedgerIntakeArrival code inst detail s
  | .ledgerCommit readbackOk => Sys2Proof.Machine.execLedgerCommit readbackOk s
  | .ledgerErase => Sys2Proof.Machine.execLedgerErase s
  | .ledgerEraseDone ok => Sys2Proof.Machine.execLedgerEraseDone ok s
  | .ledgerDrop => Sys2Proof.Machine.execLedgerDrop s
  | .freezeTimeout => Sys2Proof.Machine.execFreezeTimeout s
  | .tamperInput n wipe => Sys2Proof.Machine.execTamperInput n wipe s
  | .tamperMonitor kind wipe => Sys2Proof.Machine.execTamperMonitor kind wipe s
  | .loginExpiry => Sys2Proof.Machine.execLoginExpiry s
  | .loginLockoutExpiry => Sys2Proof.Machine.execLoginLockoutExpiry s
  | .loginChallengeExpiry => Sys2Proof.Machine.execLoginChallengeExpiry s
  | .safeParamStagingExpiry => Sys2Proof.Machine.execSafeParamStagingExpiry s
  | .clockCrossCheck devs => Sys2Proof.Machine.execClockCrossCheck devs s
  | .preservingMarchB04 words => Sys2Proof.Machine.execPreservingMarchB04 words s
  | .b04MarchOverdue => Sys2Proof.Machine.execB04MarchOverdue s
  | .preservingMarchRound words => Sys2Proof.Machine.execPreservingMarchRound words s
  | .eccScrub singles doubles => Sys2Proof.Machine.execEccScrub singles doubles s
  | .doorAdcCalibration n offsets gains => Sys2Proof.Machine.execDoorAdcCalibration n offsets gains s
  | .thresholdSelfCheck onOff => Sys2Proof.Machine.execThresholdSelfCheck onOff s
  | .telemetrySample temps => Sys2Proof.Machine.execTelemetrySample temps s
  | .auditHour => Sys2Proof.Machine.execAuditHour s
  | .flashPatrol failures => Sys2Proof.Machine.execFlashPatrol failures s
  | .paramWearManagement => Sys2Proof.Machine.execParamWearManagement s
  | .auditLate act => Sys2Proof.Machine.execAuditLate act s
  | .scDurationExpiry => Sys2Proof.Machine.execScDurationExpiry s
  | .scCanLockHold => Sys2Proof.Machine.execScCanLockHold s
  | .scBankStall => Sys2Proof.Machine.execScBankStall s
  | .consoleByte b => Sys2Proof.Machine.execConsoleByte b s
  | .help => Sys2Proof.Machine.execHelp s
  | .who => Sys2Proof.Machine.execWho s
  | .stat => Sys2Proof.Machine.execStat s
  | .statDisplay => Sys2Proof.Machine.execStatDisplay s
  | .consoleDisplayLine => Sys2Proof.Machine.execConsoleDisplayLine s
  | .io => Sys2Proof.Machine.execIo s
  | .out => Sys2Proof.Machine.execOut s
  | .meter values => Sys2Proof.Machine.execMeter values s
  | .ledger => Sys2Proof.Machine.execLedger s
  | .consolePair => Sys2Proof.Machine.execConsolePair s
  | .life => Sys2Proof.Machine.execLife s
  | .audit => Sys2Proof.Machine.execAudit s
  | .auditBanks => Sys2Proof.Machine.execAuditBanks s
  | .auditSc => Sys2Proof.Machine.execAuditSc s
  | .consoleLogin => Sys2Proof.Machine.execConsoleLogin s
  | .loginPlus => Sys2Proof.Machine.execLoginPlus s
  | .loginEnd => Sys2Proof.Machine.execLoginEnd s
  | .loginOff => Sys2Proof.Machine.execLoginOff s
  | .load => Sys2Proof.Machine.execLoad s
  | .loadDataLine => Sys2Proof.Machine.execLoadDataLine s
  | .loadEndLine readErr => Sys2Proof.Machine.execLoadEndLine readErr s
  | .commaAlignment => Sys2Proof.Machine.execCommaAlignment s
  | .canBusIdle n => Sys2Proof.Machine.execCanBusIdle n s
  | .canTxAttemptStart n => Sys2Proof.Machine.execCanTxAttemptStart n s
  | .vaultXtalResumed => Sys2Proof.Machine.execVaultXtalResumed s
  | .boundaryScan code shift pads => Sys2Proof.Machine.execBoundaryScan code shift pads s
  | .scCanHoldEnd => Sys2Proof.Machine.execScCanHoldEnd s
  | .consoleOutputSent => Sys2Proof.Machine.execConsoleOutputSent s
  | .encReceiverSettle n => Sys2Proof.Machine.execEncReceiverSettle n s
  | .slotEraseDone ok => Sys2Proof.Machine.execSlotEraseDone ok s

end Sys2Proof.Machine
end

