-- ==== Sys2Proof/Machine/Tick.lean ====
section
/-! DEFINITION. The passing of time with nothing commanded: one Till count (log 1). The Till and the vault clock
advance, and what a register shows in seconds, minutes, hours or days ages with them. What a deadline does is a command
of the table. -/

namespace Sys2Proof.Machine

namespace State

/-- The Till counts: CLK_TILL runs (R391, R515). -/
def tillRuns (s : State) : Bool := s.pwr != .vault && (s.portLive || (s.rst.phase == .inReset && !s.rst.full))

/-- One count of the Till, with the trim of R364 in a CAR. -/
def tillTick (s : State) : State :=
  { s with till := ((s.till + 1 + s.link.trim) % 2 ^ 64).toNat, link := { s.link with trim := 0 } }

/-- The vault clock: 32 768 ticks in 200 000 000 counts. -/
def vaultTick (s : State) : State :=
  let f := s.vault.frac + 32768
  if f < 200000000 then { s with vault := { s.vault with frac := f } }
  else { s with vault := { s.vault with frac := f - 200000000, rtc := (s.vault.rtc + 1) % 2 ^ 48 } }

/-- Whole seconds of the vault clock. -/
def vaultSecs (s : State) : Nat := s.vault.rtc / 32768

/-- One second of vault time: the login lockout runs down (R499), and a day counts for the proof test (SAFE_PROOF). -/
def vaultSecond (s : State) : State :=
  { s with vault := { s.vault with
      lockSecs := s.vault.lockSecs - 1
      proofDays := s.vault.proofDays + (if s.vaultSecs % 86400 = 0 then 1 else 0) } }

/-- Minutes that an armed Shortchange has left (SC_STAT). -/
def showScLeft (s : State) : State :=
  if s.rb Reg.scStat 0 then s.wf Reg.scStat 16 16 ((s.aud.scEnds - s.till + 11999999999) / 12000000000) else s

/-- What the registers of a running module show ages by a second, and by an hour. -/
def liveSecond (s : State) : State :=
  let s := (s.addF Reg.telUptime 0 32 1).addF Reg.marchRound 16 16 1
  let s := (List.range 27).foldl (fun s k => s.addF (Reg.bankScrub k) 0 16 1) s
  let s := if s.vaultSecs % 3600 = 0 then
      ({ s with vault := { s.vault with hours := satN 0xFFFFFFFF (s.vault.hours + 1) } }).addF Reg.audPatrol 0 16 1
    else s
  s.showLogin.showProof.showScLeft

/-- The remaining freeze in units of 100 ms (R463, R472). -/
def freezeTick (s : State) : State :=
  if s.till % 20000000 = 0 then s.updLdg fun l => { l with frozen := l.frozen.map (· - 1) } else s

end State

/-- One Till count passes. -/
def tick (s : State) : State :=
  let t := s.vaultTick
  let sec := t.vaultSecs != s.vaultSecs
  let t := if sec then t.vaultSecond else t
  if !t.tillRuns then t
  else
    let t := t.tillTick.freezeTick
    let t := if sec && t.rst.phase == .running then t.liveSecond else t
    t.irqStep

end Sys2Proof.Machine
end

