-- ==== Sys2Proof/Safety.lean ====
section
/-! DEFINITION. The terms that claims use: a command that completes, a Teller command that its checks let run, the
completion it leaves, the canonical memories, and the trip group held off. -/

namespace Sys2Proof.Machine

/-- The command answers a next state, of which `P` holds. -/
def Answers (i : Instr) (s : State) (P : State → Prop) : Prop := ∃ t, exec i s = .next t ∧ P t

/-- The row of the command tables that a Teller command is, with the source that the command is fetched from. -/
def rowOf : Instr → Option (Src × CmdRow)
  | .nop src => some (src, State.nopRow)
  | .getInfo src => some (src, State.getInfoRow)
  | .getStatus src => some (src, State.getStatusRow)
  | .softReset src => some (src, State.softResetRow)
  | .setPowerStateRun src => some (src, State.setRunRow)
  | .setPowerStateDoze src => some (src, State.setDozeRow)
  | .setPowerStateHush src => some (src, State.setHushRow)
  | .getTelemetry src => some (src, State.getTelemetryRow)
  | .accWalk src => some (src, State.accWalkRow)
  | .paramRead src => some (src, State.paramReadRow)
  | .paramWrite src => some (src, State.paramWriteRow)
  | .paramCommit src programOk => some (src, State.paramCommitRow programOk)
  | .paramDigest src => some (src, State.paramDigestRow)
  | .paramDefaults src programOk => some (src, State.paramDefaultsRow programOk)
  | .encConfig src => some (src, State.encConfigRow)
  | .hallConfig src => some (src, State.hallConfigRow)
  | .absConfig src => some (src, State.absConfigRow)
  | .obsConfig src => some (src, State.obsConfigRow)
  | .fusionConfig src => some (src, State.fusionConfigRow)
  | .emuConfig src => some (src, State.emuConfigRow)
  | .capConfig src => some (src, State.capConfigRow)
  | .landingLearn src => some (src, State.landingLearnRow)
  | .landingTableWrite src => some (src, State.landingTableWriteRow)
  | .profileSet src => some (src, State.profileSetRow)
  | .orderAdd src => some (src, State.orderAddRow)
  | .orderCancel src => some (src, State.orderCancelRow)
  | .orderList src => some (src, State.orderListRow)
  | .driveBind src => some (src, State.driveBindRow)
  | .relevelConfig src => some (src, State.relevelConfigRow)
  | .doorConfig src => some (src, State.doorConfigRow)
  | .doorLearn src => some (src, State.doorLearnRow)
  | .doorOpen src => some (src, State.doorCmdRow 0x0403 false)
  | .doorClose src => some (src, State.doorCmdRow 0x0404 false)
  | .doorReverse src => some (src, State.doorCmdRow 0x0405 true)
  | .doorNudge src => some (src, State.doorCmdRow 0x0406 false)
  | .doorHold src => some (src, State.doorCmdRow 0x0407 true)
  | .ioConfig src => some (src, State.ioConfigRow)
  | .outSet src => some (src, State.outSetRow)
  | .gangSetForm2 src => some (src, State.gangRow 0)
  | .gangSetForm4 src => some (src, State.gangRow 1)
  | .gangSetDissolve src => some (src, State.gangRow 2)
  | .gangSetOn src => some (src, State.gangRow 3)
  | .gangSetOff src => some (src, State.gangRow 4)
  | .pairConfig src => some (src, State.pairConfigRow)
  | .testpulseConfig src => some (src, State.testpulseConfigRow)
  | .safeStatus src => some (src, State.safeStatusRow)
  | .safeRestart src => some (src, State.safeRestartRow)
  | .safeParamLoad src => some (src, State.safeParamLoadRow)
  | .safeAckLockout src => some (src, State.safeAckLockoutRow)
  | .safeProofTest src outcomes => some (src, State.safeProofTestRow outcomes)
  | .canConfig src => some (src, State.canConfigRow)
  | .canAutobaud src => some (src, State.canAutobaudRow)
  | .canObjConfig src => some (src, State.canObjConfigRow)
  | .canFilterSet src => some (src, State.canFilterSetRow)
  | .canTx src => some (src, State.canTxRow)
  | .canRearm src => some (src, State.canRearmRow)
  | .canLoopback src => some (src, State.canLoopbackRow)
  | .linkConfig src => some (src, State.linkConfigRow)
  | .linkStatus src => some (src, State.linkStatusRow)
  | .csConnOpen src => some (src, State.csConnOpenRow)
  | .csConnClose src => some (src, State.csConnCloseRow)
  | .tunnelSend src => some (src, State.tunnelSendRow)
  | .purseSet src => some (src, State.purseSetRow)
  | .purseStatus src => some (src, State.purseStatusRow)
  | .bankState src => some (src, State.bankStateRow)
  | .hushKeep src => some (src, State.hushKeepRow)
  | .marchRun src => some (src, State.marchRunRow)
  | .marchResult src => some (src, State.marchResultRow)
  | .repairStatus src => some (src, State.repairStatusRow)
  | .ledgerRead src => some (src, State.ledgerReadRow)
  | .ledgerFreeze src => some (src, State.ledgerFreezeRow)
  | .ledgerThaw src => some (src, State.ledgerThawRow)
  | .ledgerArchive src => some (src, State.ledgerArchiveRow)
  | .ledgerReleaseSealed src => some (src, State.ledgerReleaseRow)
  | .attest src => some (src, State.attestRow true)
  | .attestRead src => some (src, State.attestRow false)
  | .pair src x => some (src, State.pairRow x)
  | .pairCheck src peerKey sig => some (src, State.pairCheckRow peerKey sig)
  | .lifeSet src wipe => some (src, State.lifeSetRow wipe)
  | .fwStage src readErr => some (src, State.fwStageRow readErr)
  | .fwActivateSwitch src => some (src, State.fwActivateRow 0 State.switchPre State.switchRun)
  | .fwActivateConfirm src => some (src, State.fwActivateRow 1 (fun s => State.failIf (!s.inTrial) .badState) State.confirmRun)
  | .fwActivateBurn src => some (src, State.fwActivateRow 2 (fun s => State.failIf (s.inTrial || decide (State.slotSvn (s.slotOf s.mint.runB) ≤ s.mint.steps)) .badState) State.burnRun)
  | .serviceLoginChallenge src => some (src, State.challengeRow)
  | .serviceLoginResponse src => some (src, State.responseRow)
  | .serviceLoginLogout src => some (src, State.logoutRow)
  | .auditConfig src => some (src, State.auditConfigRow)
  | .auditStatus src => some (src, State.auditStatusRow)
  | .scArm src => some (src, State.scArmRow)
  | .scDisarm src => some (src, State.scDisarmRow)
  | _ => none

namespace State

/-- The command that the Teller takes next from `src`, when it is row `row`'s, holds no double-bit error (R421), keeps the
slot and header rules, passes checks 1 to 3 of R552 and is not addressed to the peer, with the state in which it runs: out
of DOZE, its slots released (R57, R62 to R64, R74, R371, R399). -/
def front (s : State) (src : Src) (row : CmdRow) : Option (Cmd × State) :=
  let fits (c : Cmd) (s1 : State) : Option (Cmd × State) :=
    if c.opcode == row.opcode && row.form c && s1.check1 c.opcode == none then some (c, s1) else none
  if src = .peer then
    match s.peerFront with
    | some (c, rest) =>
      if s.rst.phase == .running && s.pwr != .hush && check3 c 0 true [] row.len == none then
        fits c { s.leaveDoze with tun := { s.leaveDoze.tun with q9 := rest } }
      else none
    | none => none
  else if s.mayFetch && !(src == .cmd && s.qfill 1 != 0) && !(src == .urg && !row.urg) then
    match s.ringFront src with
    | some (c, n, good, tail) =>
      if good && !c.peer && (s.badSlots (srcRing src) n).isEmpty && check3 c n true tail row.len == none then
        fits c (s.leaveDoze.release (srcRing src) n)
      else none
    | none => none
  else none

/-- What follows a command from a ring: the commands behind it whose opcode no row has are answered (R552). -/
def afterRow (src : Src) (s : State) : State := if src = .peer then s else s.drain

/-- The Teller command that `i` runs, with the state in which it runs: it is next at its source and passes every check of
R552. -/
def goes (s : State) (i : Instr) : Option (Cmd × State) :=
  match rowOf i with
  | none => none
  | some (src, row) =>
    match s.front src row with
    | none => none
    | some (c, s1) => if row.pre c s1 == none && s1.check11 row c == none then some (c, s1) else none

/-- The completion record of `c` with `rp` (R66). -/
def doneOf (t : State) (c : Cmd) (rp : Reply) : Done :=
  { opcode := c.opcode, tag := c.tag, status := rp.status, result := rp.result, resp := rp.resp, peer := c.peer,
    loc := false, gen := t.vault.gen }

/-- The completion of `c` with `rp` waits to be posted, or is on its way to the peer (R66, R67, R371). -/
def Completed (t : State) (c : Cmd) (rp : Reply) : Prop :=
  if c.src = .peer then tunMsg 2 (cplBytes (t.doneOf c rp) 0) ∈ t.tun.q8 else t.doneOf c rp ∈ t.tel.done

/-- Whenever the checks let `i` run a command `c`, in the state `s1`, it answers a next state of which `P c s1` holds. -/
def Runs (s : State) (i : Instr) (P : Cmd → State → State → Prop) : Prop :=
  ∀ c s1, s.goes i = some (c, s1) → Answers i s (P c s1)

/-- The long command `c` is in progress (R65). -/
def Underway (t : State) (c : Cmd) : Prop := ∃ l ∈ t.tel.longs, l.cmd = c

/-- From `s` to `t` only what fetching and completing a command may change did: the power state with its event, the ring
counters, the Teller's and the tunnel's memory, EVT and the Ledger's intake. -/
def Fetched (s t : State) : Prop :=
  t = { s with regs := t.regs, ring := t.ring, queues := t.queues, tel := t.tel, ldg := t.ldg, pwr := t.pwr, tun := t.tun } ∧
    (∀ a, a ≠ Reg.pwrStat → a ≠ Reg.tellerIrqStat → a ≠ Reg.tellerErr → t.r a = s.r a) ∧
    (∀ a, a < 0x30C00 ∨ 0x31400 ≤ a → t.ringByte a = s.ringByte a)

/-- The word that a host write lets commit at `a` (the high half of a PAR16 pair whose low half is held, or a QSPI word), and
the state in which it commits (R42, R43, R46). -/
def commits (s : State) (a : Nat) : WAcc → Option (Word × State)
  | .par16 true d true true =>
    match s.port.wrLatch with
    | some (b, l) =>
      if !s.port.hostsel && s.portLive && b == a && a % 4 == 0 && decide (a < 0x20000 ∨ 0x24000 ≤ a ∧ a < 0x28000) then
        some (d ++ l, s.updPort fun p => { p with rdLatch := none, wrLatch := none })
      else none
    | none => none
  | .par16 .. => none
  | .qspi v => if s.port.hostsel && s.portLive && s.pwr != .hush && a % 4 == 0 && decide (a < 0x40000) then some (v, s) else none

/-- The port that serves the host now is PAR16, or with `q` QSPI, and nothing wakes for the access (R40, R44, R401). -/
def serves (s : State) (q : Bool) : Bool := s.port.hostsel == q && s.portLive && (!q || s.pwr != .hush)

/-- A class register that only stores: neither a doorbell, a QCONS, an aperture nor another word with an effect of its own. -/
def plainReg (s : State) (a : Nat) : Bool :=
  !([Reg.tellerCfg, Reg.tampCfg, Reg.tellerIrqStat, Reg.tellerDbCmd, Reg.tellerDbUrg].contains a) &&
    (decide (a < 0x1100) || decide (0x1500 ≤ a)) && (decide (a < 0x6000) || decide (0x7000 ≤ a)) &&
    !(decide (0x8000 ≤ a) && decide (a < 0xC000) && (a % 0x1000 == 0x80 || a % 0x1000 == 0x84)) &&
    (s.apertureAt a).isNone && (headerAt a).isNone

/-- Object j's place in arbitration: the lower wins (R338). -/
def arbOf (s : State) (j : Nat) : Nat := arbKey (busId (s.r (Reg.objId j))).1 (busId (s.r (Reg.objId j))).2 (s.rb (Reg.objCfg j) 7)

/-- A class register whose RC bits are bits of its own stored word: no queue's, no Ledger counter. -/
def plainRead (a : Nat) : Bool :=
  (headerAt a).isNone && (decide (a < 0x1100) || decide (0x1500 ≤ a)) && (decide (a < 0xF120) || decide (0xF23C ≤ a))

/-- An event is told: with the Teller running, the class taken and the intake well below the fill at which R460 joins or
drops events, the Ledger's intake then holds it (R70, R459, R460). -/
def Raised (s t : State) (k : EvKind) (src detail : Nat) : Prop :=
  s.rst.phase = .running → s.pwr ≠ .hush → s.classTaken k.cls = true → s.scRing 5 = false → s.ldg.intake.length < 100 →
    ∃ e ∈ t.ldg.intake, e.ev.code = k.code ∧ e.ev.src = src ∧ e.ev.detail = detail ∧ e.ev.till = s.till

/-- From `s` to `t` register words changed only at `l`, ring bytes only in the EVT ring, and of the rest only what an
event's posting may change: queue counters, the Teller's memory and the Ledger. -/
def Touches (s t : State) (l : List Nat) : Prop :=
  t = { s with regs := t.regs, ring := t.ring, queues := t.queues, tel := t.tel, ldg := t.ldg } ∧
    (∀ a, a ∉ l → t.r a = s.r a) ∧ (∀ a, a < 0x30C00 ∨ 0x31400 ≤ a → t.ringByte a = s.ringByte a)

/-- From `s` to `t` register words changed only at `l`, and nothing else changed. -/
def OnlyRegs (s t : State) (l : List Nat) : Prop := t = { s with regs := t.regs } ∧ ∀ a, a ∉ l → t.r a = s.r a

/-- From `s` to `t` the registers at `l` may differ and no other register does. -/
def RegsBut (s t : State) (l : List Nat) : Prop := ∀ a, a ∉ l → t.r a = s.r a

/-- The registers that fetching and completing a command may change: the power state, slot_free and the orphan count. -/
def fetchRegs : List Nat := [Reg.pwrStat, Reg.tellerIrqStat, Reg.tellerErr]

/-- From `s` to `t` register words changed only from `lo` to below `hi`, and as fetching a command changes them. -/
def RegsIn (s t : State) (lo hi : Nat) : Prop := ∀ a, a < lo ∨ hi ≤ a → a ∉ fetchRegs → t.r a = s.r a

/-- What a reset by `k` leaves, whatever state it comes in: in VAULT nothing changes; otherwise the reset is in force with its
cause; a full reset ends the trip group, the Till, MB and every register but ACC_TAG after a PIN reset; a partial one leaves
the Comptroller, the Till, MB and the vault alone; flash and the commands that wait outlive each (R509, R514, R515, R521,
R522). -/
def ResetBy (s t : State) (k : ResetKind) : Prop :=
  (s.pwr = .vault → t = s) ∧
    (s.pwr ≠ .vault → t.rst.phase = .inReset ∧ t.pending = s.pending ∧ t.ldg.sectors = s.ldg.sectors ∧
      t.par.a = s.par.a ∧ t.par.b = s.par.b ∧ t.par.set = s.par.set ∧ t.mint.slotA = s.mint.slotA ∧ t.mint.slotB = s.mint.slotB ∧
      t.mint.pairRec = s.mint.pairRec ∧ t.mint.lifeRec = s.mint.lifeRec ∧ t.mint.returned = s.mint.returned ∧
      t.vault = { s.vault with gen := t.vault.gen, causes := t.vault.causes } ∧
      (s.rst.phase ≠ .inReset → t.rst.kind = k ∧ t.vault.gen = (s.vault.gen + 1) % 65536 ∧ t.pwr = .run ∧
        t.vault.causes = (s.vault.causes * 16 + resetCode k) % 65536) ∧
      (s.rst.phase = .inReset → t.rst.kind = (if resetRank k < resetRank s.rst.kind then k else s.rst.kind) ∧
        t.vault.gen = s.vault.gen ∧ t.vault.causes % 16 = resetCode t.rst.kind) ∧
      (resetFull k = true → t.rst.full = true ∧ t.cpt = Cpt.init ∧ t.till = 0 ∧ t.mb = [] ∧ t.port.mbusy = true ∧
        ∀ a, t.r a = if isTag a && k == .pin then s.r a else Reg.resetOf a) ∧
      (resetFull k = false → s.rst.phase = .running → t.rst.full = false ∧ t.cpt = s.cpt ∧ t.till = s.till ∧ t.mb = s.mb ∧
        (∀ a, 0x6000 ≤ a → a < 0x7000 → t.r a = s.r a) ∧ ∀ a, isTag a = true → t.r a = s.r a))

/-- The words of the console's next line, when it is a line of `k` that the console takes now. -/
def conWords (s : State) (k : ConCmd) : Option (List (List Byte)) :=
  if !s.conReady then none
  else match s.conFront with
    | some l => if s.conCmd (ConText.words l) = some k then some (ConText.words l) else none
    | none => none

/-- From `s` to `t` the console printed `bs`, and then perhaps more. -/
def Printed (s t : State) (bs : List Byte) : Prop :=
  ∃ more, t.con.output ++ t.con.waiting = s.con.output ++ s.con.waiting ++ bs ++ more

/-- A line with its end and the prompt that follows (R540). -/
def conSays (s : State) (line : List Byte) : List Byte :=
  line ++ Config.eol ++ if s.conLogin then ascii "# " else ascii "> "

/-- Nothing but the console and the nHIRQ pin changed. -/
def ConsoleOnly (s t : State) : Prop := t = { s with con := t.con, queues := t.queues, port := t.port }

/-- The register words, the snapshot words, the ring bytes, the words of MB, the stored parameters, the Ledger's sectors and
the message objects are in their canonical form. -/
def Canon (s : State) : Prop :=
  Sparse.wf Reg.resetOf s.regs = true ∧ Sparse.wf Reg.resetOf s.snap = true ∧ Sparse.wf (fun _ => 0#8) s.ring = true ∧
    Sparse.wf (fun _ => 0#32) s.mb = true ∧ Sparse.wf Param.factory s.par.image = true ∧
    Sparse.wf Param.factory s.par.a.words = true ∧ Sparse.wf Param.factory s.par.b.words = true ∧
    Sparse.wf (fun _ => Sector.blank) s.ldg.sectors = true ∧ ∀ c ∈ s.can, Sparse.wf (fun _ => CanObj.init) c.objs = true

/-- Every table has one entry for each of its units. -/
def Shaped (s : State) : Prop :=
  s.queues.length = 16 ∧ s.doors.length = 2 ∧ s.can.length = 4 ∧ s.purse.length = 3 ∧ s.cs.length = 16 ∧ s.obs.length = 5 ∧
    s.fb.enc.length = 3 ∧ s.fb.hallLast.length = 2 ∧ s.fb.abs.length = 2 ∧ s.fb.capHold.length = 4

/-- While the trip net or the safety state holds the trip group off, none of its outputs is on (R243, R246). -/
def TripOff (s : State) : Prop := s.tripHeld = true → s.cpt.on = 0

/-- The invariant that every step keeps. -/
def Inv (s : State) : Prop := s.Canon ∧ s.Shaped ∧ s.TripOff

end State

end Sys2Proof.Machine
end

