-- ==== Sys2Proof/Certificates/Slice0/Obligations.lean ====
section
/-! DEFINITION. The statements for the provers. -/

open Sys2Proof Sys2Proof.Machine

/-- With a command waiting, one step runs the command at the front on the queue's rest (log 1). -/
def Obligations.StepRunsFront : Prop :=
  ∀ (c : Instr) (rest : List Instr) (s : State), s.pending = c :: rest → step s = exec c { s with pending := rest }

/-- The model's choice of log 1: with nothing waiting a step lets one Till count pass, 5 ns in which the Till of a running
module without a trim of the link advances by 1; rings, memories and the Comptroller do not change. -/
def Obligations.IdleStepIsOneTillCount : Prop :=
  ∀ s : State, s.pending = [] →
    ∃ t, step s = .next t ∧ t.pending = [] ∧ t.ring = s.ring ∧ t.mb = s.mb ∧ t.cpt = s.cpt ∧ t.queues = s.queues ∧
      (s.tillRuns = true → s.link.trim = 0 → t.till = (s.till + 1) % 2 ^ 64) ∧ (s.tillRuns = false → t.till = s.till)

/-- The state after the power-on reset: the power-on reset is asserted, START_PENDING with no output of the trip group on,
every ring and queue empty, the Till at 0, nothing waiting, and every register word at its reset value, TELLER_IRQ_EN at
0x22 and DEV_PART's part at 0x4832 among them. The factory's parameter values and the role SOLO are the model's (log 3).
The invariant holds right after reset. -/
def Obligations.ResetLeavesItsValues : Prop :=
  (let s := State.reset
   s.rst.phase = .inReset ∧ s.rst.kind = .por ∧ s.rst.full = true ∧ s.till = 0 ∧ s.pending = [] ∧ s.pwr = .run ∧
     s.cpt.st = .startPending ∧ s.cpt.on = 0 ∧ (∀ n, s.queue n = Queue.empty) ∧ (∀ a, s.ringByte a = 0#8) ∧
     (∀ a, s.mbWord a = 0#32) ∧ (∀ a, s.r a = Reg.resetOf a) ∧ s.r Reg.tellerIrqEn = 0x22#32 ∧
     s.rf Reg.devPart 0 16 = 0x4832) ∧
  (State.reset.Inv)

/-- Every step keeps the invariant: the register words, the ring bytes and the words of MB stay in canonical form, and
while the trip net or the safety state holds the trip group off, none of its outputs is on (R243, R246). -/
def Obligations.EveryStepKeepsInvariant : Prop :=
  ∀ s t : State, s.Inv → step s = .next t → t.Inv

/-- A command's effect is on everything but the queue of waiting commands. -/
def Obligations.ExecKeepsTheQueue : Prop :=
  ∀ (c : Instr) (s t : State), exec c s = .next t → t.pending = s.pending

/-- A command whose operands can occur never faults, and only the scan of a debug code is refused; operands that cannot
occur give the fault illFormed. -/
def Obligations.OnlyIllFormedOperandsStop : Prop :=
  ∀ (c : Instr) (s : State),
    (c.wellFormed = false → exec c s = .fault .illFormed) ∧
      (c.wellFormed = true → (∃ t, exec c s = .next t) ∨
        (exec c s = .refused .debugUnit ∧ ∃ code shift pads, c = .boundaryScan code shift pads ∧
          code ≠ 0#4 ∧ code ≠ 1#4 ∧ code ≠ 2#4 ∧ code ≠ 15#4))

/-- A Teller command that its checks let run has its row's effect and its completion, or stays in progress, and then the
commands behind it whose opcode no row has are answered (R62 to R66, R74, R552). -/
def Obligations.CommandHasItsRowsEffect : Prop :=
  ∀ (i : Instr) (src : Src) (row : CmdRow) (c : Cmd) (s s1 s2 : State), rowOf i = some (src, row) → s.goes i = some (c, s1) →
    (∀ rp, row.run c s1 = (s2, some rp) → Answers i s fun t => t = (s2.complete c rp).afterRow src ∧ t.Completed c rp) ∧
    (row.run c s1 = (s2, none) → Answers i s fun t => t = s2.afterRow src)

/-- A Teller command that its row's checks refuse completes with the refusal and changes nothing but what its fetch
changed; one whose unit a long command holds completes with BUSY (R65, R552). A command for the peer of a SOLO module, or
while the link is down, completes with PEER_ABSENT, PEER and LOCAL set, and nothing is forwarded (R79). The checks that
come first, in their order: in BOOT_HOLD every command but GET_INFO completes with BAD_STATE and result 4, with no valid
role with result 6, and a command in URG that is not URG-eligible with BAD_OPCODE and result 1 (R74, R552). A command with
a double-bit error in its slots completes with HW_FAULT (R421); that its result is 0 is the model's (log 77). -/
def Obligations.CommandsAreChecked : Prop :=
  (∀ (i : Instr) (src : Src) (row : CmdRow) (c : Cmd) (s s1 : State),
     rowOf i = some (src, row) → s.front src row = some (c, s1) →
     (∀ rp, row.pre c s1 = some rp → Answers i s fun t => t.Completed c rp ∧ s.Fetched t) ∧
     (row.pre c s1 = none → s1.unitHeld (row.units c) = true → Answers i s fun t => t.Completed c .busy ∧ s.Fetched t)) ∧
  (∀ (i : Instr) (src : Src) (row : CmdRow) (c : Cmd) (n : Nat) (tail : List Byte) (s : State),
     rowOf i = some (src, row) → src ≠ .peer → s.mayFetch = true → (src = .cmd → s.qfill 1 = 0) →
     (src = .urg → row.urg = true) → s.ringFront src = some (c, n, true, tail) → c.opcode = row.opcode →
     row.form c = true → c.peer = true → s.badSlots (State.srcRing src) n = [] →
     (s.leaveDoze.release (State.srcRing src) n).check1 c.opcode = none →
     State.check3 c n true tail row.len = none → s.role = .solo ∨ s.linkOpen = false →
       Answers i s fun t => t.tun = s.tun ∧
         ({ opcode := c.opcode, tag := c.tag, status := 10, result := 0, resp := [], peer := true, loc := true,
            gen := s.vault.gen } : Done) ∈ t.tel.done) ∧
  (∀ (i : Instr) (src : Src) (row : CmdRow) (c : Cmd) (n : Nat) (good : Bool) (tail : List Byte) (s : State),
     rowOf i = some (src, row) → src ≠ .peer → s.mayFetch = true → (src = .cmd → s.qfill 1 = 0) →
     s.ringFront src = some (c, n, good, tail) → c.opcode = row.opcode → row.form c = true → c.peer = false →
     (s.badSlots (State.srcRing src) n ≠ [] → Answers i s fun t => t.Completed c (.hwFault 0)) ∧
     (s.badSlots (State.srcRing src) n = [] →
       (c.opcode ≠ 2 → s.rst.phase = .bootHold → Answers i s fun t => t.Completed c (.badState 4)) ∧
       (c.opcode ≠ 2 → s.rst.phase = .running → s.role = .none → Answers i s fun t => t.Completed c (.badState 6)) ∧
       (s.rst.phase = .running → s.role ≠ .none → src = .urg → row.urg = false →
         Answers i s fun t => t.Completed c ⟨2, 1, []⟩)))

/-- Each query completes OK with the response that its row gives, and changes nothing but what its fetch and its completion
change (R535, R556 to R558, R560, R563 to R568). -/
def Obligations.QueriesAnswerAndChangeNothing : Prop :=
  ∀ (src : Src) (s : State),
    s.Runs (.nop src) (fun c _ t => t.Completed c (.ok c.arg) ∧ s.Fetched t) ∧
    s.Runs (.getInfo src) (fun c s1 t => s.Fetched t ∧ ∃ resp, t.Completed c (.ok 0 resp) ∧ resp.length = 32 ∧
      wordAt resp 0 = s1.peek Reg.devPart ∧ leAt resp 8 1 = s1.roleCode ∧ leAt resp 9 1 = s1.life % 256) ∧
    s.Runs (.getStatus src) (fun c s1 t => s.Fetched t ∧ ∃ resp, t.Completed c (.ok 0 resp) ∧ resp.length = 32 ∧
      wordAt resp 0 = s1.headWord 0 0x10 ∧ wordAt resp 4 = s1.headWord 0 0xC ∧ leAt resp 9 1 = safeCode s1.cpt.st ∧
      wordAt resp 16 = s1.r Reg.fusMstat ∧ wordAt resp 20 = s1.r Reg.carpos ∧ wordAt resp 24 = s1.r Reg.carspd) ∧
    s.Runs (.getTelemetry src) (fun c s1 t => s.Fetched t ∧ ∃ resp, t.Completed c (.ok 0 resp) ∧ resp.length = 40 ∧
      (∀ k < 6, wordAt resp (4 * k) = s1.peek (Reg.telTemp 0 + 4 * k)) ∧
      ∀ k < 4, wordAt resp (24 + 4 * k) = s1.peek (Reg.supVf k)) ∧
    s.Runs (.accWalk src) (fun c _ t => s.Fetched t ∧ ∃ n next resp, t.Completed c (.ok (wOf (n + 2 ^ 16 * next)) resp) ∧
      n ≤ 7 ∧ resp.length = 32 * n) ∧
    s.Runs (.paramRead src) (fun c _ t => s.Fetched t ∧
      t.Completed c (.ok 0 (wordsBytes ((List.range (c.argF 16 7)).map fun k =>
        if c.argF 24 1 = 1 then s.committedAt (c.argF 0 16 + k) else s.imageAt (c.argF 0 16 + k))))) ∧
    s.Runs (.paramDigest src) (fun c _ t => s.Fetched t ∧ ∃ resp, t.Completed c (.ok 0 resp) ∧ resp.length = 44 ∧
      resp.take 32 = s.parDigest ∧ (leAt resp 40 4 = 0 ↔ s.par.image = s.parNewest.words)) ∧
    s.Runs (.orderList src) (fun c _ t => s.Fetched t ∧ ∃ n next resp,
      t.Completed c (.ok (wOf (n + next * 2 ^ 16)) resp) ∧ n ≤ 30 ∧ resp.length = 8 * n) ∧
    s.Runs (.safeStatus src) (fun c _ t => s.Fetched t ∧ ∃ resp, t.Completed c (.ok 0 resp) ∧ resp.length = 60 ∧
      wordAt resp 0 = s.r Reg.safeState ∧ wordAt resp 4 = s.r Reg.safeCause) ∧
    s.Runs (.linkStatus src) (fun c _ t => ∃ resp, t.Completed c (.ok (wOf s.tun.held.length) resp) ∧
      wordAt resp 0 = s.r Reg.linkStat ∧ (c.argF 0 1 = 0 → resp.length = 16 ∧ s.Fetched t)) ∧
    s.Runs (.attestRead src) (fun c _ t => s.Fetched t ∧ ∃ r resp, s.mint.report = some r ∧
      t.Completed c (.ok (wOf r.length) resp) ∧ resp = (r.drop (c.argF 0 16)).take 240) ∧
    s.Runs (.purseStatus src) (fun c _ t => s.Fetched t ∧ ∃ n resp, t.Completed c (.ok (wOf n) resp) ∧ n ≤ 32 ∧
      resp.length = 36 + 2 * n) ∧
    s.Runs (.marchResult src) (fun c _ t => s.Fetched t ∧ ∃ n resp, t.Completed c (.ok (wOf n) resp) ∧ n ≤ 16 ∧
      resp.length = 12 + 2 * n ∧ wordAt resp 0 = s.r Reg.marchLast ∧ wordAt resp 4 = s.r Reg.marchFailaddr) ∧
    s.Runs (.repairStatus src) (fun c _ t => s.Fetched t ∧ ∃ resp, t.Completed c (.ok 0 resp) ∧ resp.length = 220 ∧
      ∀ k < 27, wordAt resp (4 + 8 * k) = s.r (Reg.bankRepair k)) ∧
    s.Runs (.ledgerRead src) (fun c _ t => s.Fetched t ∧ ∃ n resp, t.Completed c (.ok (wOf n) resp) ∧
      n ≤ leAt c.pay 4 1) ∧
    s.Runs (.auditStatus src) (fun c s1 t => s.Fetched t ∧ ∃ resp, t.Completed c (.ok 0 resp) ∧ resp.length = 80 ∧
      wordAt resp 0 = s1.peek Reg.audStat ∧ wordAt resp 4 = s1.peek Reg.audLate)

/-- SOFT_RESET only arms the delayed reset; SET_POWER_STATE completes before the state is entered, which PWR_STAT shows:
RUN, DOZE, or HUSH, which also ends a freeze of the Ledger (R398, R400, R463, R511). -/
def Obligations.PowerCommandsEnterTheirState : Prop :=
  ∀ (src : Src) (s : State), s.Inv →
    s.Runs (.softReset src) (fun c _ t => t.Completed c (.ok 0) ∧ t.rst = { s.rst with softDue := true } ∧ s.RegsBut t State.fetchRegs ∧
      t.till = s.till ∧ t.mb = s.mb ∧ t.cpt = s.cpt) ∧
    s.Runs (.setPowerStateRun src) (fun _ _ t => (s.pwr ≠ .vault → t.pwr = .run) ∧ t.rst = s.rst ∧ t.cpt = s.cpt) ∧
    s.Runs (.setPowerStateDoze src) (fun _ _ t => t.pwr = .doze ∧ t.rf Reg.pwrStat 0 2 = 1 ∧ t.rst = s.rst ∧ t.cpt = s.cpt) ∧
    s.Runs (.setPowerStateHush src) (fun _ _ t => t.pwr = .hush ∧ t.rf Reg.pwrStat 0 2 = 2 ∧ t.ldg.frozen = none ∧
      t.rst = s.rst ∧ t.cpt = s.cpt)

/-- PARAM_WRITE changes the working image alone, each named word to the payload's value, or to the live one with capture; a
commit that programs makes the image the newer copy and counts, and one that fails leaves the newer copy; PARAM_DEFAULTS
makes the image the factory's, but for what keep_learned keeps (R523, R534, R557, R558). -/
def Obligations.ParameterCommandsKeepTheStore : Prop :=
  ∀ (src : Src) (s : State), s.Inv →
    s.Runs (.paramWrite src) (fun c s1 t =>
      let i := leAt c.pay 0 2
      let n := leAt c.pay 2 2
      t.Completed c (.ok (wOf n)) ∧ s.RegsBut t State.fetchRegs ∧
        (∀ k < n, t.imageAt (i + k) = if c.argF 0 1 = 1 then s1.liveParam (i + k)
          else masked (Param.mask (Param.addr (i + k))) (c.img (1 + k))) ∧
        (∀ j, j < i ∨ i + n ≤ j → t.imageAt j = s.imageAt j) ∧ t.par.a = s.par.a ∧ t.par.b = s.par.b) ∧
    s.Runs (.paramCommit src true) (fun c _ t =>
      t.parNewest = ⟨true, s.parNewest.count + 1, s.par.image⟩ ∧ t.par.image = s.par.image ∧
        t.Completed c (.ok (wOf (s.parNewest.count + 1)) t.parDigest) ∧ s.RegsBut t State.fetchRegs) ∧
    s.Runs (.paramCommit src false) (fun c _ t =>
      t.parNewest = s.parNewest ∧ t.par.image = s.par.image ∧ t.Completed c (.hwFault 0) ∧ s.RegsBut t State.fetchRegs) ∧
    s.Runs (.paramDefaults src true) (fun c _ t =>
      t.parNewest = ⟨true, s.parNewest.count + 1, t.par.image⟩ ∧ s.RegsBut t State.fetchRegs ∧
        t.Completed c (.ok (wOf (s.parNewest.count + 1)) t.parDigest) ∧
        (c.argF 0 1 = 0 → ∀ j, t.imageAt j = Param.factory j) ∧
        (c.argF 0 1 = 1 → ∀ j, t.imageAt j = if Param.learned (Param.addr j) then s.imageAt j else Param.factory j)) ∧
    s.Runs (.paramDefaults src false) (fun c _ t => t.parNewest = s.parNewest ∧ t.Completed c (.hwFault 0))

/-- A configuration command of the Reckoner stores its register images and enables the account, as an enable by the host
would, and no register outside the account's own changes but those that FUSION_CONFIG names (R82, R93, R107, R130, R152,
R559). -/
def Obligations.FeedbackConfigStoresAndEnables : Prop :=
  ∀ (src : Src) (s : State), s.Inv →
    s.Runs (.encConfig src) (fun c _ t =>
      let n := c.argF 0 2
      t.Completed c (.ok 0) ∧ t.en (Acct.enc n) = true ∧ (∀ k < 4, t.r (Reg.encCfg n + 4 * k) = c.img k) ∧
        t.r (Reg.encPos n) = 0 ∧ t.r (Reg.encRev n) = 0 ∧ t.r (Reg.encRaw n) = 0 ∧ t.r (Reg.encQerr n) = 0 ∧
        t.r (Reg.encIdxCap n) = 0 ∧ t.rf (Acct.enc n + 0xC) 4 4 = 1 ∧ t.obsAt n = Obs.init ∧
        s.RegsIn t (Acct.enc n) (Acct.enc n + 0x100)) ∧
    s.Runs (.hallConfig src) (fun c _ t =>
      let n := c.argF 0 1
      t.Completed c (.ok 0) ∧ t.en (Acct.hall n) = true ∧ t.r (Reg.hallCfg n) = c.img 0 ∧
        s.RegsIn t (Acct.hall n) (Acct.hall n + 0x80)) ∧
    s.Runs (.absConfig src) (fun c _ t =>
      let n := c.argF 0 1
      t.Completed c (.ok 0) ∧ t.en (Acct.abs n) = true ∧ (∀ k < 4, t.r (Reg.absCfg n + 4 * k) = c.img k) ∧
        (t.absAt n).seed = true ∧ t.obsAt (n + 3) = Obs.init ∧ s.RegsIn t (Acct.abs n) (Acct.abs n + 0x100)) ∧
    s.Runs (.obsConfig src) (fun c _ t =>
      let k := c.argF 0 3
      let b := State.obsBase (if k < 3 then k else k - 1)
      t.Completed c (.ok 0) ∧ t.en b = true ∧ t.r (b + 0x80) = c.img 0 ∧ t.r (b + 0x84) = c.img 1 ∧ s.RegsIn t b (b + 0x100)) ∧
    s.Runs (.fusionConfig src) (fun c _ t =>
      t.Completed c (.ok 0) ∧ t.en Acct.fusion = true ∧ (∀ k < 8, t.r (Reg.fusCfg + 4 * k) = c.img k) ∧
        t.r Reg.accCfg = c.img 9 ∧ t.r (Reg.accCfg + 4) = c.img 10 ∧ t.rf (Reg.obsGateEnc 0) 0 16 = leAt c.pay 32 2 ∧
        t.rf (Reg.obsGateAbs 0) 0 16 = leAt c.pay 32 2 ∧ t.r Reg.fusMstat = 4) ∧
    s.Runs (.emuConfig src) (fun c _ t =>
      t.Completed c (.ok 0) ∧ t.en Acct.emu = true ∧ (∀ k < 4, t.r (Reg.emuCfg + 4 * k) = c.img k) ∧
        s.RegsIn t Acct.emu (Acct.emu + 0x100)) ∧
    s.Runs (.capConfig src) (fun c _ t =>
      let n := c.argF 0 2
      t.Completed c (.ok 0) ∧ t.en (Acct.cap n) = true ∧ t.r (Reg.capCfg n) = c.img 0 ∧
        s.RegsIn t (Acct.cap n) (Acct.cap n + 0x80))

/-- The landing-table, profile, order and drive commands do what their rows give: LANDING_LEARN starts the learn run and
stays in progress; LANDING_TABLE_WRITE stages, refuses or applies a copy and reports the digest of the table; PROFILE_SET
and RELEVEL_CONFIG store their images; ORDER_ADD joins an order that stands or takes a free slot with the next number;
ORDER_CANCEL marks its slot; DRIVE_BIND takes its objects (R148, R161 to R170, R176, R184, R560). -/
def Obligations.OrderCommandsTakeEffect : Prop :=
  ∀ (src : Src) (s : State), s.Inv →
    s.Runs (.landingLearn src) (fun c _ t => t.Underway c ∧ t.runState = 8 ∧ t.r Reg.zcorr = 0 ∧
      t.learn = some ⟨c.argF 0 2, c.argF 8 1 == 1, if leAt c.pay 0 2 = 0 then 250 else leAt c.pay 0 2, leAt c.pay 2 2, [],
        false, false⟩) ∧
    s.Runs (.landingTableWrite src) (fun c s1 t =>
      (c.argF 0 1 = 1 → t.Completed c (.ok (s.r Reg.ltDigest)) ∧ t.prf.staging = s1.stagePart c ∧ s.RegsBut t State.fetchRegs) ∧
        (c.argF 0 1 = 0 → t.prf.staging = [] ∧
          (∀ o, s1.stageBad c (s1.stagePart c) = some o → t.Completed c (.badParam o) ∧ s.RegsBut t State.fetchRegs) ∧
          (s1.stageBad c (s1.stagePart c) = none → t.r Reg.ltDigest = crc32c (wordsBytes t.tableWords) ∧
            t.Completed c (.ok (t.r Reg.ltDigest))))) ∧
    s.Runs (.profileSet src) (fun c _ t => t.Completed c (.ok 0) ∧ t.en Acct.profileEngine = true ∧ t.prf.staging = [] ∧
      (∀ k < 6, t.r (Reg.prfVmax + 4 * k) = c.img k) ∧ s.RegsIn t Acct.profileEngine (Acct.profileEngine + 0x60)) ∧
    s.Runs (.relevelConfig src) (fun c _ t => t.Completed c (.ok 0) ∧ t.en Acct.profileEngine = true ∧
      t.r Reg.prfRelevel = c.img 0 ∧ t.r Reg.prfRelevel2 = c.img 1 ∧
      s.RegsIn t Acct.profileEngine (Acct.profileEngine + 0x60)) ∧
    s.Runs (.orderAdd src) (fun c s1 t =>
      (∀ n, s1.duplicateOf (c.argF 0 8) (c.argF 8 1) (c.argF 9 2) = some n →
        t.Completed c (.ok (wOf (3 + n * 2 ^ 8 + s.slotNumber n * 2 ^ 16))) ∧
          t.slotDoors n = s.slotDoors n ||| c.argF 11 2 ∧ s.RegsBut t (Reg.ordSlot n :: State.fetchRegs)) ∧
        (s1.duplicateOf (c.argF 0 8) (c.argF 8 1) (c.argF 9 2) = none → ∃ o n,
          t.Completed c (.ok (wOf (o + n * 2 ^ 8 + t.prf.nextNumber * 2 ^ 16))) ∧ n < 64 ∧ s.slotState n = 0 ∧
            t.prf.nextNumber = (s.prf.nextNumber + 1) % 65536 ∧ t.slotState n = State.outcomeState o (c.argF 11 2) ∧
            t.slotLanding n = c.argF 0 8 ∧ t.slotDeck n = c.argF 8 1 ∧ t.slotDir n = c.argF 9 2 ∧
            t.slotDoors n = c.argF 11 2 ∧ t.slotNumber n = t.prf.nextNumber ∧
            s.RegsBut t (Reg.ordSlot n :: State.fetchRegs))) ∧
    s.Runs (.orderCancel src) (fun c _ t => t.Completed c (.ok 0) ∧ t.prf.marks = s.prf.marks ++ [c.argF 0 6] ∧
      s.RegsBut t State.fetchRegs) ∧
    s.Runs (.driveBind src) (fun c _ t => t.Completed c (.ok 0) ∧ t.prf.txObj = some (State.driveTx (c.img 0)) ∧
      t.prf.rxObj = State.driveRx (c.img 0) ∧ t.rb Reg.prfDrive 31 = true ∧ t.en (Acct.obj (State.driveTx (c.img 0))) = true ∧
      t.r (Reg.objId (State.driveTx (c.img 0))) = c.img 1)

/-- DOOR_CONFIG stores its images and enables the port in STARTING; DOOR_LEARN takes the port to its learn state and stays
in progress; the door commands queue one request to each port named and report the states at acceptance, and the state of
the port does not change yet (R201, R213, R216, R230, R561). -/
def Obligations.DoorCommandsTakeEffect : Prop :=
  ∀ (src : Src) (s : State), s.Inv →
    s.Runs (.doorConfig src) (fun c _ t =>
      let n := c.argF 0 1
      t.Completed c (.ok 0) ∧ t.en (Acct.doorPort n) = true ∧ (∀ k < 14, t.r (Reg.doorCfg n + 4 * k) = c.img k) ∧
        t.doorCode n = 0xF ∧ t.rf (Acct.doorPort n + 0xC) 4 4 = 1 ∧ (t.doorAt n).stage = .idle ∧
        s.RegsIn t (Acct.doorPort n) (Acct.doorPort n + 0x200)) ∧
    s.Runs (.doorLearn src) (fun c _ t =>
      t.Underway c ∧ t.doorCode (c.argF 0 1) = 0xA ∧ (t.doorAt (c.argF 0 1)).stage = .drive) ∧
    ∀ i op, (i, op) ∈ [(Instr.doorOpen src, 0x0403), (.doorClose src, 0x0404), (.doorReverse src, 0x0405),
        (.doorNudge src, 0x0406), (.doorHold src, 0x0407)] →
      s.Runs i (fun c _ t => t.Completed c (.ok (s.doorResult (c.argF 0 2))) ∧ s.RegsBut t State.fetchRegs ∧
        ∀ n < 2, (t.doorAt n).reqs = (s.doorAt n).reqs ++ (if nbit (c.argF 0 2) n then [⟨op, c.argF 16 16⟩] else []))

/-- The Field commands do what their rows give: IO_CONFIG stores the words and enables the channels; OUT_SET sets the
commanded state of the outputs named and reports those whose grant is awaited; GANG_SET forms, dissolves and switches;
PAIR_CONFIG stores, groups and starts the pair in AGREED with value 0; TESTPULSE_CONFIG stores its words (R288, R290, R294,
R296, R305 to R309, R562). -/
def Obligations.FieldCommandsTakeEffect : Prop :=
  ∀ (src : Src) (s : State), s.Inv →
    s.Runs (.ioConfig src) (fun c _ t =>
      let m := State.ioImage c
      t.Completed c (.ok 0) ∧
        (∀ i < m.inN, t.r (Reg.inCfg (m.inF + i)) = State.ioWord c i ∧ t.en (State.inBase (m.inF + i)) = true) ∧
        (∀ i < m.outN, t.r (Reg.outCfg (m.outF + i)) = State.ioWord c (m.inN + i) ∧ t.en (State.outBase (m.outF + i)) = true) ∧
        (m.func = true → t.r Reg.fldFunc = State.ioWord c (m.inN + m.outN + m.tpos.length))) ∧
    s.Runs (.outSet src) (fun c _ t =>
      t.Completed c (.ok (wOf t.askMask &&& c.img 0)) ∧
        ∀ n < 32, if bit (c.img 0) n then
            t.rb Reg.outCmd n = bit (c.img 1) n ∧ (bit (c.img 1) n = false → t.outOn n = false) ∧
              (bit (c.img 1) n = true → t.outOn n = true ∨ t.hasGrant n = true ∨ t.hasRequest n = true)
          else t.rb Reg.outCmd n = s.rb Reg.outCmd n) ∧
    (∀ i ext, (i, ext) ∈ [(Instr.gangSetForm2 src, 0), (.gangSetForm4 src, 1)] → s.Runs i (fun c s1 t =>
      let b := Acct.gp (c.argF 0 4)
      (s1.groupOkButEn b true ext = true →
        t.Completed c (.ok 0) ∧ t.consolidated b = true ∧ t.groupExt b = ext ∧ t.en b = true) ∧
        (s1.groupOkButEn b true ext = false → t.Completed c .badState ∧ t.hasFlt b 30 = true))) ∧
    s.Runs (.gangSetDissolve src) (fun c s1 t =>
      let b := Acct.gp (c.argF 0 4)
      (s1.groupOkButEn b false 0 = true → t.Completed c (.ok 0) ∧ t.consolidated b = false ∧ t.en b = true) ∧
        (s1.groupOkButEn b false 0 = false → t.Completed c .badState ∧ t.hasFlt b 30 = true)) ∧
    s.Runs (.gangSetOn src) (fun c _ t =>
      t.Completed c (.ok (wOf t.askMask &&& wOf (maskOf (s.gangMembers (c.argF 0 4))))) ∧
        ∀ n ∈ s.gangMembers (c.argF 0 4), t.rb Reg.outCmd n = true) ∧
    s.Runs (.gangSetOff src) (fun c _ t =>
      t.Completed c (.ok 0) ∧ ∀ n ∈ s.gangMembers (c.argF 0 4), t.rb Reg.outCmd n = false ∧ t.outOn n = false) ∧
    s.Runs (.pairConfig src) (fun c _ t =>
      let k := c.argF 0 3
      t.Completed c (.ok 0) ∧ t.r (Reg.pairCfg k) = c.img 0 ∧ t.r (Reg.inCfg (32 + 2 * k)) = c.img 1 ∧
        t.r (Reg.inCfg (33 + 2 * k)) = c.img 2 ∧ t.consolidated (Acct.sp k) = (c.argF 8 1 == 1) ∧
        t.en (Acct.sp k) = true ∧ t.pairState k = 0 ∧ t.pairVal k = false) ∧
    s.Runs (.testpulseConfig src) (fun c _ t =>
      t.Completed c (.ok 0) ∧ t.r Reg.tpTiming = c.img 0 ∧ (∀ j < 4, t.r (Reg.tpoCfg j) = c.img (1 + j)) ∧
        s.RegsBut t (Reg.tpTiming :: Reg.tpoCfg 0 :: Reg.tpoCfg 1 :: Reg.tpoCfg 2 :: Reg.tpoCfg 3 :: State.fetchRegs))

/-- SAFE_RESTART leads from TRIPPED to READY with no cause latched; SAFE_PARAM_LOAD stages its parts, and a complete set is
refused with its reason, or comes into force in START_PENDING with the trip group off; SAFE_ACK_LOCKOUT ends LOCKOUT and
stays in progress; SAFE_PROOF_TEST records a pass, or a failure that trips or locks out (R258, R260, R262, R263, R267,
R269, R596). -/
def Obligations.SafetyCommandsTakeEffect : Prop :=
  ∀ (src : Src) (s : State), s.Inv →
    s.Runs (.safeRestart src) (fun c _ t => t.Completed c (.ok 0) ∧ t.cpt.st = .ready ∧ t.cpt.forced = false ∧
      t.cpt.on = s.cpt.on ∧ t.latchedCauses = 0 ∧ t.rf Reg.safeState 0 4 = 1) ∧
    s.Runs (.safeParamLoad src) (fun c s1 t =>
      let part := (if State.partOfs c = 0 then [] else s.cpt.staged) ++ c.pay.drop 4
      (part.length < State.partTotal c → t.Completed c (.ok (wOf part.length)) ∧ t.cpt.staged = part ∧ t.cpt.set = s.cpt.set ∧
          s.RegsBut t State.fetchRegs) ∧
        (State.partTotal c ≤ part.length →
          let s2 := s1.updCpt fun x => { x with staged := [], stagedTotal := 0 }
          (∀ w, s2.setRefused part = some w →
            t.Completed c ⟨4, w, []⟩ ∧ t.cpt.staged = [] ∧ t.cpt.set = s.cpt.set ∧ s.RegsBut t State.fetchRegs) ∧
          (s2.setRefused part = none → t.Completed c (.ok 0 t.setDigest) ∧ t.cpt.set = part ∧ t.par.set = part ∧
            t.cpt.st = .startPending ∧ t.cpt.on = 0))) ∧
    s.Runs (.safeAckLockout src) (fun c _ t => t.Underway c ∧ t.vault.lockout = false ∧ t.cpt.st = .startPending ∧
      t.cpt.forced = false ∧ t.cpt.on = 0) ∧
    ∀ os, s.Runs (.safeProofTest src os) (fun c s1 t =>
      ((s1.proofRun (s.setOuts.zip os)).2 = none → t.Completed c (.ok (wOf (maskOf s.setOuts)) (State.proofBytes s.setOuts os)) ∧
          t.vault.proofPass = true ∧ t.vault.proofDays = 0 ∧ t.cpt.st = .parked) ∧
        (∀ j, (s1.proofRun (s.setOuts.zip os)).2 = some (j, false) → t.Completed c (.hwFault (wOf j)) ∧
          t.vault.proofPass = false ∧ t.rb Reg.safeCause 14 = true ∧
          (nbit s.latchedCauses 14 = false → t.cpt.st = .tripped ∧ t.cpt.on = 0)) ∧
        (∀ j, (s1.proofRun (s.setOuts.zip os)).2 = some (j, true) → t.Completed c (.hwFault (wOf (j + 256))) ∧
          t.vault.proofPass = false ∧ t.vault.lockout = true ∧ t.cpt.st = .lockout ∧ t.cpt.on = 0))

/-- What a committed host write of a register word does by its access codes: a storing register takes the written bits and
nothing else changes; a configuration register takes them while its account is disabled, and otherwise keeps its value and
sets cfg_reject; a value out of range and a write of a locked account change nothing but the counter; TELLER_CFG is written
while the Host domain is disabled only (R9, R19, R59, R81). Host writes that the module does not take: in the Comptroller's
range they are ignored and counted; of a word that nothing occupies they count in DEV_BAD_ADDR; in the mirror window they
are ignored, count in mirror_wr and set port_error; a low half waits in the write latch; a high half without its low half,
a write with one byte enable and a read-write conflict count in half_lost (R35, R36, R43, R52, R583). What host writes of a
header do: en and hold take the written bits of an account that the role runs, that is no member and is not locked;
consolidate changes where R30 allows it and otherwise sets cons_reject; cnt_clr clears ACC_CNT, to 1 with an event in the
same cycle; a 1 written to a fault bit clears it unless its cause is still present (R17, R18, R23, R25, R26, R30). -/
def Obligations.HostWrites : Prop :=
  (∀ (s s1 : State) (a : Nat) (acc : WAcc) (v : Word) (r : RegRow), s.Inv → s.commits a acc = some (v, s1) → a < 0x20000 →
     Reg.find a = some r →
     (s.plainReg a = true → Answers (.registerWrite a acc) s fun t =>
       let b := Acct.ofWord a
       let new := merge r.rw (s.r a) v
       let locked := (r.cfg || r.rwl) = true ∧ s.lockOf b ≠ State.Lock.none
       (r.rw = 0 → t.regs = s.regs) ∧
         (r.rw ≠ 0 → locked → s.RegsBut t [Reg.devWrIgnored] ∧
           t.rf Reg.devWrIgnored 0 32 = satN 0xFFFFFFFF (s.rf Reg.devWrIgnored 0 32 + 1)) ∧
         (r.rw ≠ 0 → ¬locked → r.cfg = false → t.r a = (if Ranges.ok a new then new else s.r a) ∧ s.RegsBut t [a]) ∧
         (r.rw ≠ 0 → ¬locked → r.cfg = true → s.en b = true → t.r a = s.r a ∧ t.hasFlt b 0 = true ∧ s.RegsBut t [b + 0x10]) ∧
         (r.rw ≠ 0 → ¬locked → r.cfg = true → s.cfgEn b = false → s.cfgFrozen a b = false → Ranges.ok a new = true →
           (s.w a new).jointOk a = true → t.r a = new)) ∧
     (a = Reg.tellerCfg → Answers (.tellerCfgWrite acc) s fun t =>
       (s.en Acct.host = true → t.r a = s.r a ∧ t.hasFlt Acct.host 0 = true ∧ s.RegsBut t [Acct.host + 0x10]) ∧
         (s.en Acct.host = false → Ranges.ok a (merge r.rw (s.r a) v) = true →
           t.r a = merge r.rw (s.r a) v ∧ s.RegsBut t [a]))) ∧
  (∀ (s s1 : State) (a : Nat) (acc : WAcc) (v : Word), s.Inv →
     (s.commits a acc = some (v, s1) → 0x6000 ≤ a → a < 0x7000 → Answers (.comptrollerRangeWrite a acc) s fun t =>
       s.RegsBut t [Reg.devWrIgnored] ∧ t.cpt = s.cpt ∧
         t.rf Reg.devWrIgnored 0 32 = satN 0xFFFFFFFF (s.rf Reg.devWrIgnored 0 32 + 1)) ∧
     (s.commits a acc = some (v, s1) → a < 0x20000 → (a < 0x6000 ∨ 0x7000 ≤ a) → State.occupied (s.resolve a) = false →
       Answers (.badAddressAccess a (.write acc)) s fun t => s.RegsBut t [Reg.devBadAddr] ∧
         t.rf Reg.devBadAddr 0 32 = satN 0xFFFFFFFF (s.rf Reg.devBadAddr 0 32 + 1)) ∧
     (writeAddrOk a acc = true → a % 4 = 0 → 0x20000 ≤ a → a < 0x24000 →
       s.serves (match acc with | .qspi _ => true | .par16 .. => false) = true →
       Answers (.mirrorWindowWrite a acc) s fun t => t.mb = s.mb ∧ s.RegsBut t [Reg.hostPortStat, Acct.host + 0x10] ∧
         t.rf Reg.hostPortStat 16 8 = satN 255 (s.rf Reg.hostPortStat 16 8 + 1) ∧ t.hasFlt Acct.host 1 = true) ∧
     (∀ d ble bhe, par16Addr a = true → a < 0x20000 → s.serves false = true →
       Answers (.par16LowHalfWrite a d ble bhe) s fun t =>
         let lost := (if s.port.wrLatch.isSome then 1 else 0) + if ble && bhe then 0 else 1
         t.port.wrLatch = (if ble && bhe then some (a, d) else none) ∧ s.RegsBut t [Reg.hostPortStat, Acct.host + 0x10] ∧
           t.rf Reg.hostPortStat 8 8 = satN 255 (s.rf Reg.hostPortStat 8 8 + lost) ∧
           (lost = 0 → t.regs = s.regs)) ∧
     (∀ d, par16Addr a = true → a < 0x20000 → s.serves false = true →
       (∀ l, s.port.wrLatch ≠ some (a, l)) → Answers (.registerWrite a (.par16 true d true true)) s fun t =>
         t.port.wrLatch = none ∧ s.RegsBut t [Reg.hostPortStat, Acct.host + 0x10] ∧
           t.rf Reg.hostPortStat 8 8 = satN 255 (s.rf Reg.hostPortStat 8 8 + if s.port.wrLatch.isSome then 2 else 1)) ∧
     (s.serves false = true → Answers .par16ReadWriteConflict s fun t =>
       s.RegsBut t [Reg.hostPortStat, Acct.host + 0x10] ∧
         t.rf Reg.hostPortStat 8 8 = satN 255 (s.rf Reg.hostPortStat 8 8 + 1))) ∧
  (∀ (s s1 : State) (b i : Nat) (r : AcctRow) (acc : WAcc) (v : Word), s.Inv → Acct.find b = some (r, i) → b < 0x20000 →
     (s.commits (b + 8) acc = some (v, s1) → (b < 0x6000 ∨ 0x7000 ≤ b) → s.runs b = true → s.headOf b = none →
       (b ≠ 0 → State.isQueue b = false → s.lockOf b = State.Lock.none →
         Answers (.accCtlEnWrite b acc) s (fun t => t.en b = bit v 0) ∧
         (r.hold = true → Answers (.accCtlHoldWrite b acc) s fun t => bit (t.ctl b) 3 = bit v 3) ∧
         (State.mayHead b = true → (bit v 1 ≠ s.consolidated b ∨ State.extOf b v ≠ s.groupExt b) →
           Answers (.accCtlConsolidateWrite b acc) s fun t =>
             (s.groupOk b (bit v 1) (State.extOf b v) = true → t.consolidated b = bit v 1) ∧
               (s.groupOk b (bit v 1) (State.extOf b v) = false → t.consolidated b = s.consolidated b ∧ t.hasFlt b 30 = true))) ∧
       (∀ same, bit v 4 = true → (b = 0 ∨ State.isQueue b = true ∨ s.lockOf b ≠ State.Lock.none ∨
           (bit v 0 = s.en b ∧ State.mayHead b = false)) →
         Answers (.accCtlCntClr b acc same) s fun t => t.cntWord b = if same then 1 else 0)) ∧
     (s.commits (b + 0x10) acc = some (v, s1) → (b < 0x6000 ∨ 0x7000 ≤ b) →
       ∀ still, Answers (.accFltW1c b acc still) s fun t =>
         t.flt b = s.flt b &&& ~~~(masked (r.fault % 2 ^ 31) v &&& ~~~still)))

/-- Host reads: a register word shows its value, a leading register copies its companions, which then show the copy, and
the RC bits read return to their reset values; a latched high half is shown without side effect; an unoccupied word reads 0
and counts; before the port serves, reads show 0 with MBUSY (R9, R35, R42, R44, R94). Reads of the mirror window and of the
atomic words show the words as they stand; a collision or a double-bit error asserts MBUSY over PAR16 and counts, and the
data are then a free value; QSPI never shows undefined data; a word of no group reads 0 and counts (R48, R53, R54, R434).
The QSPI transactions: READ clocks out its words, SNAP the copy of a group, and elsewhere a READ that counts in snap_miss;
WRITE commits its whole words and discards a word cut short; STATUS shows ready, interrupt and part word, and clears the
last; an unknown command is ignored; on a PAR16 module none of them does anything (R40, R45 to R47, R51). -/
def Obligations.HostReads : Prop :=
  (∀ (s : State) (a : Nat), s.Inv → a < 0x20000 → a % 4 = 0 → s.port.wrLatch = none →
     let shows (acc : RAcc) (v : Word) (t : State) : Prop := match acc with
       | .par16 _ => t.port.dout = State.loHalf v ∧ t.port.rdLatch = some (a, State.hiHalf v) ∧ t.port.mbusy = false
       | .qspi => t.port.qout = [v]
     (∀ acc, acc ≠ .par16 true → s.serves (acc == .qspi) = true →
       (State.occupied (s.resolve a) = true →
         Answers (.rcRegisterRead a acc) s (fun t =>
           shows acc (s.hostView (s.resolve a)) t ∧
             (∀ r, Reg.find (s.resolve a) = some r → State.plainRead (s.resolve a) = true →
               t.r (s.resolve a) = merge r.rc (s.r (s.resolve a)) (Reg.resetOf (s.resolve a)) ∧ s.RegsBut t [s.resolve a]) ∧
             (∀ n < 16, s.resolve a = Reg.qfill n → (t.queue n).lost = 0)) ∧
         (State.isLead a = true → Answers (.snapshotRead a acc) s fun t =>
           shows acc (s.peek a) t ∧ ∀ x ∈ State.companionsOf a, t.hostView x = s.peek x)) ∧
       (State.occupied (s.resolve a) = false → Answers (.badAddressAccess a (.read acc)) s fun t =>
         shows acc 0 t ∧ s.RegsBut t [Reg.devBadAddr] ∧
           t.rf Reg.devBadAddr 0 32 = satN 0xFFFFFFFF (s.rf Reg.devBadAddr 0 32 + 1))) ∧
     (∀ h, s.serves false = true → s.port.rdLatch = some (a, h) → Answers (.rcRegisterRead a (.par16 true)) s fun t =>
       t.port.dout = h ∧ t.port.mbusy = false ∧ t.regs = s.regs ∧ t.snap = s.snap) ∧
     (∀ hi, s.port.hostsel = false → s.portLive = false → Answers (.rcRegisterRead a (.par16 hi)) s fun t =>
       t.port.dout = 0 ∧ t.port.mbusy = true ∧ t.regs = s.regs)) ∧
  (∀ (s : State) (a : Nat) (same dbl : Bool), s.Inv → 0x20000 ≤ a → a < 0x28000 → a % 4 = 0 → s.port.wrLatch = none →
     let present : Prop := State.inGroup a = true ∨ 0x24000 ≤ a
     (s.serves false = true → Answers (.mirrorWindowRead a (.par16 false) same dbl) s fun t =>
       t.mb = s.mb ∧
         (present → same = false → dbl = false →
           t.port.dout = State.loHalf (s.mbWord a) ∧ t.port.mbusy = false ∧
             t.port.rdLatch = some (a, State.hiHalf (s.mbWord a)) ∧ t.regs = s.regs) ∧
         (present → same = true ∨ dbl = true → t.port.mbusy = true ∧ t.port.rdLatch = none ∧
           t.rf Reg.hostMbusyCnt 0 32 = satN 0xFFFFFFFF (s.rf Reg.hostMbusyCnt 0 32 + 1)) ∧
         (¬present → t.port.dout = 0 ∧ t.port.mbusy = false ∧
           t.rf Reg.devBadAddr 0 32 = satN 0xFFFFFFFF (s.rf Reg.devBadAddr 0 32 + 1))) ∧
     (s.serves true = true → Answers (.mirrorWindowRead a .qspi same dbl) s fun t =>
       t.mb = s.mb ∧ (present → t.port.qout = [s.mbWord a]) ∧ (¬present → t.port.qout = [0#32]))) ∧
  (∀ (s : State) (a n : Nat), s.Inv →
     (qspiAddr a = true → s.serves true = true →
       Answers (.qspiRead a n) s (fun t => t.port.qout.length = n ∧
         (a % 4 = 0 → 0x24000 ≤ a → a + 4 * n ≤ 0x28000 →
           t.port.qout = (List.range n).map (fun k => s.mbWord (a + 4 * k)) ∧ t.regs = s.regs ∧ t.mb = s.mb)) ∧
       Answers (.qspiSnap a n) s (fun t =>
         (∀ g ∈ State.mbGroups, a = g.1 → n ≤ g.2 + 1 →
           t.port.qout = (List.range n).map (fun k => s.mbWord (a + 4 * k)) ∧ t.regs = s.regs) ∧
         ((State.mbGroups.any fun g => g.1 == a / 4 * 4) = false → n = 0 →
           t.rf Reg.hostPortStat 24 8 = satN 255 (s.rf Reg.hostPortStat 24 8 + 1) ∧
             s.RegsBut t [Reg.hostPortStat, Acct.host + 0x10])) ∧
       ∀ ws part, Answers (.qspiWrite a ws part) s (fun t =>
         (part = true → t.port.partWord = true) ∧
           (ws = [] → part = true → t.rf Reg.hostPortStat 8 8 = satN 255 (s.rf Reg.hostPortStat 8 8 + 1)) ∧
           (s.tel.noticed = true → a % 4 = 0 → 0x28000 ≤ a → a + 4 * ws.length ≤ 0x40000 →
             (∀ k < ws.length, s.ringHas (a + 4 * k) = true) → t.ringBytes a (4 * ws.length) = wordsBytes ws))) ∧
     (s.port.hostsel = true →
       Answers .qspiStatus s (fun t => bit (t.port.qstatus.setWidth 32) 0 = s.portLive ∧
         bit (t.port.qstatus.setWidth 32) 1 = s.port.irqLow ∧ bit (t.port.qstatus.setWidth 32) 2 = s.port.partWord ∧
         t.port.partWord = false ∧ t.regs = s.regs) ∧
       ∀ cmd, qspiKnown cmd = false → Answers (.qspiUnknownCommand cmd) s fun t =>
         t.port.qout = [] ∧ (s.pwr ≠ .hush → t = { s with port := t.port })) ∧
     (s.port.hostsel = false →
       Answers .qspiStatus s (· = s) ∧
       (qspiAddr a = true → Answers (.qspiRead a n) s (· = s) ∧ Answers (.qspiSnap a n) s (· = s) ∧
         ∀ ws part, Answers (.qspiWrite a ws part) s (· = s)) ∧
       ∀ cmd, qspiKnown cmd = false → Answers (.qspiUnknownCommand cmd) s (· = s)))

/-- Doorbells and QCONS: a doorbell within the depth advances QPROD, one beyond it sets bad_index and changes nothing, and
one before RESET_NOTICE counts in early_db; a QCONS write that frees posted entries advances QCONS, another sets bad_index;
the host may not move the other consumers; bytes written to a ring lie there (R43, R44, R57, R58). The Teller's posts to
the host: RESET_NOTICE is the first entry of EVT and ends the silence; a completion whose response fits is posted with its
slots; the mirror groups are rewritten with their sequence words up by 2; the pad nHIRQ follows when its holdoff ends (R48,
R49, R66 to R68, R75, R77). A committed atomic of the host adds or swaps as one: the word takes the sum or the written
value and its old value lies in the result register, with the operation's count; a busy unit ignores it; a word with a
double-bit error keeps its value (R432, R433). -/
def Obligations.RingsPostsAndAtomics : Prop :=
  (∀ (s s1 : State) (acc : WAcc) (v : Word), s.Inv →
     (∀ i q a, (i, q, a) ∈ [(Instr.tellerDbCmd acc, 0, Reg.tellerDbCmd), (.tellerDbUrg acc, 1, Reg.tellerDbUrg)] →
       s.commits a acc = some (v, s1) → Answers i s fun t =>
         let p := fld v 0 16
         let far := s.qdepth q < (p + 65536 - (s.queue q).cons) % 65536 ∨
           s.qdepth q < (p + 65536 - (s.queue q).prod) % 65536
         (s.tel.noticed = false → t.queues = s.queues ∧ s.RegsBut t [Reg.tellerErr] ∧
           t.rf Reg.tellerErr 16 16 = satN 65535 (s.rf Reg.tellerErr 16 16 + 1)) ∧
           (s.tel.noticed = true → s.pwr = .run → far →
             (t.queue q).prod = (s.queue q).prod ∧ bit (t.queue q).flt 1 = true) ∧
           (s.tel.noticed = true → s.pwr = .run → ¬far → (t.queue q).prod = p) ∧
           (s.tel.noticed = true → s.pwr = .doze → t.pwr = .run)) ∧
     (∀ q : Fin 16, s.commits (Reg.qcons q.val) acc = some (v, s1) → Answers (.qconsWrite q acc) s fun t =>
       let host := q.val ∈ [2, 3, 4, 10, 11, 12, 13]
       let past := s.qfill q.val < (fld v 0 16 + 65536 - (s.queue q.val).cons) % 65536
       (¬host → t.queues = s.queues) ∧
         (host → past → (t.queue q.val).cons = (s.queue q.val).cons ∧ bit (t.queue q.val).flt 1 = true) ∧
         (host → ¬past → (t.queue q.val).cons = fld v 0 16)) ∧
     (∀ a hi d, par16Addr a = true → 0x28000 ≤ a → s.serves false = true → s.tel.noticed = true →
       let o := if hi then a + 2 else a
       s.ringHas o = true → Answers (.registerWrite a (.par16 hi d true true)) s fun t =>
         t.ringBytes o 2 = leBytes 2 d.toNat ∧ ∀ x, x < o ∨ o + 2 ≤ x → t.ringByte x = s.ringByte x)) ∧
  (∀ s : State, s.Inv →
     (s.noticeDue = true → Answers .resetNotice s fun t =>
       t.tel.noticed = true ∧ (s.pwr ≠ .hush → t.tel.held = []) ∧ t.cpt.held = [] ∧ t.rb Reg.tellerIrqStat 5 = true ∧
         ((s.queue 4).prod = 0 → s.tel.held = [] → s.cpt.held = [] → s.tel.lostSince = 0 →
           leAt (t.ringBytes 0x30C00 16) 0 2 = 1 ∧ leAt (t.ringBytes 0x30C00 16) 4 2 = s.vault.gen % 65536 ∧
             leAt (t.ringBytes 0x30C00 16) 7 1 = s.vault.causes % 16 ∧ (t.queue 4).prod = 1)) ∧
     (s.noticeDue = false → Answers .resetNotice s (· = s)) ∧
     (∀ d, s.mayPost = true → s.nextDone = some d → Answers .completionPost s fun t =>
       t.tel.done = s.tel.done.erase d ∧
         t.ringBytes (s.ringSlot 2 (s.queue 2).prod) 16 = State.cplBytes d (if d.resp.isEmpty then 0 else (s.queue 3).prod) ∧
         (t.queue 2).prod = ((s.queue 2).prod + 1) % 65536 ∧
         (s.pwr = .run → d.resp.isEmpty = true → s.scOn 1 = false → t.regs = s.regs)) ∧
     (s.mayPost = false ∨ s.nextDone = none → Answers .completionPost s (· = s)) ∧
     (s.rst.phase = .running → s.pwr ≠ .vault → Answers .mirrorUpdate s fun t =>
       (∀ g ∈ State.mbGroups, t.mbWord g.1 = s.mbWord g.1 + 2) ∧ t.mbWord 0x20004 = wOf s.till ∧
         t.mbWord 0x20008 = wOf (s.till / 2 ^ 32) ∧ t.mbWord 0x20020 = s.r Reg.fusMstat ∧
         (s.mstatValid = true → t.mbWord 0x20014 = s.r Reg.carpos ∧ t.mbWord 0x20018 = s.r Reg.carspd) ∧
         t.mbWord 0x2004C = s.r Reg.outCmd ∧ t = { s with mb := t.mb } ∧
         ∀ w < 2048, t.mbWord (0x24000 + 4 * w) = s.mbWord (0x24000 + 4 * w)) ∧
     (s.port.holdoff = true → s.port.irqLow = false → Answers .irqHoldoffExpiry s fun t =>
       t.port.holdoff = false ∧ t.port.irqLow = (s.irqWant != 0) ∧ t.regs = s.regs) ∧
     (s.port.holdoff = false → Answers .irqHoldoffExpiry s (· = s))) ∧
  (∀ (s s1 : State) (w : Fin 2048) (acc : WAcc) (v : Word), s.Inv →
     ∀ swap busy dbl : Bool, s.commits ((if swap then 0x26000 else 0x24000) + 4 * w.val) acc = some (v, s1) →
       Answers (if swap then .atomicSwap w acc busy dbl else .atomicAdd w acc busy dbl) s fun t =>
         (busy = true → t.mb = s.mb ∧ t.rb Reg.atomicStat 1 = true ∧ s.RegsBut t [Reg.atomicStat]) ∧
           (busy = false → dbl = true → t.mb = s.mb ∧ t.rb Reg.atomicStat 2 = true) ∧
           (busy = false → dbl = false →
             t.atomicWord w.val = (if swap then v else s.atomicWord w.val + v) ∧
               (∀ x : Fin 2048, x ≠ w → t.atomicWord x.val = s.atomicWord x.val) ∧
               t.r Reg.atomicResultH = s.atomicWord w.val ∧ t.rf Reg.atomicStat 16 11 = w.val ∧
               t.rf Reg.atomicStat 3 2 = (if swap then 2 else 1) ∧
               t.rf Reg.atomicStat 8 8 = (s.rf Reg.atomicStat 8 8 + 1) % 256 ∧
               s.RegsBut t [Reg.atomicResultH, Reg.atomicStat]))

/-- The CAN commands: CAN_CONFIG stores its images and restarts the controller with clear error counters; CAN_AUTOBAUD
starts the search at its first entry and stays in progress; CAN_OBJ_CONFIG and CAN_FILTER_SET store their entries and
enable them; CAN_TX sets its request with its data, or replaces one in transmission and waits; CAN_REARM ends one-shot;
CAN_LOOPBACK sets its mode (R323, R324, R337, R339, R344, R345, R348, R564). -/
def Obligations.CanCommandsTakeEffect : Prop :=
  ∀ (src : Src) (s : State), s.Inv →
    s.Runs (.canConfig src) (fun c _ t =>
      let n := c.argF 0 2
      t.Completed c (.ok 0) ∧ t.en (Acct.canc n) = true ∧ (∀ k < 4, t.r (Reg.canCfg n + 4 * k) = c.img k) ∧
        (t.canAt n).waitIdle = true ∧ (t.canAt n).off = false ∧ (t.canAt n).txErr = 0 ∧ (t.canAt n).rxErr = 0 ∧
        (t.canAt n).attempt = none) ∧
    s.Runs (.canAutobaud src) (fun c _ t =>
      let n := c.argF 0 2
      t.Underway c ∧ t.rb (Reg.canStat n) 2 = true ∧ (t.canAt n).search = some ⟨false, 0⟩ ∧
        t.rf (Reg.canStat n) 4 4 = (s.rateEntries n false).headD 0 ∧ (t.canAt n).attempt = none) ∧
    s.Runs (.canObjConfig src) (fun c _ t =>
      let j := 128 * c.argF 0 2 + leAt c.pay 0 1
      t.Completed c (.ok 0) ∧ ∀ i < leAt c.pay 1 1,
        t.r (Reg.objCfg (j + i)) = (State.objEntry c i).1 ∧ t.r (Reg.objStat (j + i)) = 0 ∧
          (bit (State.objEntry c i).1 0 = true → t.r (Reg.objId (j + i)) = (State.objEntry c i).2) ∧
          t.objEn (j + i) = true) ∧
    s.Runs (.canFilterSet src) (fun c _ t =>
      let n := c.argF 0 2
      t.Completed c (.ok 0) ∧
        (∀ i < leAt c.pay 1 1, let e := 128 * n + leAt c.pay 0 1 + i
          t.r (Reg.feA e) = wordAt c.pay (4 + 12 * i) ∧ t.r (Reg.feB e) = wordAt c.pay (8 + 12 * i) ∧
            t.r (Reg.feC e) = wordAt c.pay (12 + 12 * i) ∧ t.en (Acct.fe e) = true) ∧
        (nbit (leAt c.pay 2 1) 0 = true → t.rb (Reg.canCfg n) 2 = nbit (leAt c.pay 2 1) 1 ∧
          t.rf (Reg.canCfg n) 4 7 = leAt c.pay 3 1)) ∧
    s.Runs (.canTx src) (fun c _ t =>
      let j := 128 * c.argF 0 2 + c.argF 2 7
      let wait := s.objIs j 5 && s.inAttempt j
      (wait = false → t.Completed c (.ok 0) ∧ t.objIs j 5 = true ∧ t.objIs j 6 = false ∧
        (t.canObj j).tag = leAt c.pay 0 2 ∧ (t.canObj j).len = leAt c.pay 2 1 ∧
        t.dataBytes j (c.len - 4) = (c.pay.drop 4).take (c.len - 4)) ∧
        (wait = true → (j, c) ∈ t.tel.replaceWait ∧
          (t.canObj j).next = some (leAt c.pay 0 2, leAt c.pay 2 1, c.pay.drop 4) ∧ s.RegsBut t State.fetchRegs)) ∧
    s.Runs (.canRearm src) (fun c _ t =>
      let n := c.argF 0 2
      t.Completed c (.ok 0) ∧ ∀ k < 128, (c.argF 9 1 = 1 → s.objTx (128 * n + k) = true) → (c.argF 9 1 = 0 → k = c.argF 2 7) →
        if s.inAttempt (128 * n + k) then (t.canObj (128 * n + k)).rearm = true
        else (t.canObj (128 * n + k)).clash = 0 ∧ t.objIs (128 * n + k) 8 = false) ∧
    s.Runs (.canLoopback src) (fun c _ t =>
      let n := c.argF 0 2
      t.Completed c (.ok 0) ∧ t.rf (Reg.canStat n) 0 2 = c.argF 8 2 ∧ t.en (Acct.canc n) = true ∧
        (t.canAt n).waitIdle = true ∧ (t.canAt n).attempt = none)

/-- A correctly received frame: a controller that does not listen takes no notice; in a search it counts; a frame that no
element and no binding matches is dropped and counted, unless the catch-all takes it; the first enabled element that
matches decides, and its empty object then shows the frame with its stamp, and RXCNT counts (R323, R329, R332, R336, R349,
R351). The host's CAN aperture: a selection shows in CAN_AP_SEL and with lock starts a read session on an RX object;
release ends the session; txreq sets the request of an enabled TX object; abort ends a request that is not in transmission
(R333, R337, R339). -/
def Obligations.CanFramesAreReceived : Prop :=
  (∀ (n : Fin 4) (f : CanFrame) (late : Bool) (s : State), s.Inv → f.wellFormed = true →
     Answers (.canRxFrame n f late) s fun t =>
       let takes := s.canListens n.val && s.rf (Reg.canStat n.val) 0 2 != 1 && (!f.fdf || s.rb (Reg.canCfg n.val) 0)
       let bound := (s.canAt n.val).binds.any fun p =>
         busId p.2 == (f.xtd, f.id.toNat) && s.en (Acct.obj (128 * n.val + p.1))
       let hit := (List.range 128).find? fun k => s.matches' (128 * n.val + k) f.xtd f.id.toNat
       (takes = false → t = s) ∧
         (∀ v, takes = true → (s.canAt n.val).search = some v →
           (t.canAt n.val).search = some ⟨v.data, if v.data && !f.brs then v.clean else v.clean + 1⟩ ∧ t.regs = s.regs) ∧
         (takes = true → (s.canAt n.val).search = none → bound = false → hit = none →
           s.rb (Reg.canCfg n.val) 2 = false →
             t.rf (Reg.canDrop n.val) 0 16 = satN 65535 (s.rf (Reg.canDrop n.val) 0 16 + 1) ∧
               t.r (Reg.canRxcnt n.val) = s.r (Reg.canRxcnt n.val)) ∧
         (∀ k, takes = true → (s.canAt n.val).search = none → bound = false → hit = some k →
           let j := 128 * n.val + s.rf (Reg.feC (128 * n.val + k)) 0 7
           s.rf (Reg.feC (128 * n.val + k)) 8 2 < 2 → late = false → s.en (Acct.obj j) = true → s.objTx j = false →
             s.consolidated (Acct.obj j) = false → s.objIs j 0 = false → s.objIs j 3 = false →
             t.objIs j 0 = true ∧ fld (t.r (Reg.objId j)) 0 29 = f.id.toNat ∧ t.rb (Reg.objId j) 29 = f.xtd ∧
               t.rf (Reg.objStat j) 18 7 = k ∧ t.rf (Reg.objStat j) 9 4 = f.dlc.toNat ∧
               t.dataBytes j (min f.data.length (s.objBytes j)) = f.data.take (s.objBytes j) ∧
               t.rTill (Reg.objTillL j) (Reg.objTillH j) = s.till % 2 ^ 64 ∧
               t.rf (Reg.canRxcnt n.val) 0 32 = satN 0xFFFFFFFF (s.rf (Reg.canRxcnt n.val) 0 32 + 1))) ∧
  (∀ (n : Fin 4) (s s1 : State) (acc : WAcc) (v : Word), s.Inv →
     (s.commits (Reg.canApSel n.val) acc = some (v, s1) → (s.canAt n.val).session = none →
       Answers (.canApSelWrite n acc) s fun t =>
         let j := 128 * n.val + fld v 0 7
         let locks := bit v 9 && !bit v 8 && s.maySession j
         t.rf (Reg.canApSel n.val) 0 9 = fld (masked 0x17F v) 0 9 ∧ t.rb (Reg.canApSel n.val) 9 = locks ∧
           (t.canAt n.val).session = (if locks then some ⟨j, s.till, false⟩ else none) ∧
           (locks = true → t.objIs j 3 = true)) ∧
     (s.commits (Reg.canApCtl n.val) acc = some (v, s1) →
       let j := 128 * n.val + s.rf (Reg.canApSel n.val) 0 7
       let mayTx := !s.rb (Reg.canApSel n.val) 8 && s.objTx j && !s.objEngine j
       (∀ x, v = 1 → (s.canAt n.val).session = some x → x.held = false → x.obj / 128 = n.val →
         Answers (.canApRelease n acc) s fun t =>
           (t.canAt n.val).session = none ∧ t.rb (Reg.canApSel n.val) 9 = false ∧ t.objIs x.obj 3 = false) ∧
       (masked 0xFF v = 2 → Answers (.canApTxreq n acc) s fun t =>
         if mayTx && s.en (Acct.obj j) && !s.objIs j 5 && s.lenOk j (fld v 8 7) && (s.canAt n.val).search.isNone &&
             !s.rb (Reg.canCfg n.val) 1 then
           t.objIs j 5 = true ∧ (t.canObj j).len = fld v 8 7 ∧ t.rf (Reg.objStat j) 25 7 = fld v 8 7
         else t.regs = s.regs) ∧
       (v = 4 → Answers (.canApAbort n acc) s fun t =>
         (mayTx = true → s.objIs j 5 = true → s.inAttempt j = false → t.objIs j 5 = false) ∧
           (mayTx = true → s.objIs j 5 = true → s.inAttempt j = true → (t.canObj j).abort = true) ∧
           (mayTx = false → t.regs = s.regs))))

/-- Transmission: the request with the best arbitration place starts; one that was sent ends and counts, one that lost or
failed stays pending unless it was one-shot or aborted; two clashes in a row set one-shot and clash (R338 to R340, R344).
Error confinement and the events of the bus: an error counts by the protocol's increments and shows its code; above 255 the
controller is bus-off and drops its requests; recovery, idle bus, protocol exception, an expired read session and the end
of a rate trial do what their rules say, and nothing where they cannot occur (R315, R323, R333, R342, R343, R348). -/
def Obligations.CanFramesAreSent : Prop :=
  (∀ (n : Fin 4) (s : State), s.Inv →
     (Answers (.canTxAttemptStart n) s fun t =>
       let pend := fun j => s.objTx j && s.objIs j 5
       let key := fun j => State.arbOf s j
       if s.canListens n.val && (s.canAt n.val).attempt.isNone && (s.canAt n.val).search.isNone &&
           !s.rb (Reg.canCfg n.val) 1 && (State.objsOf n.val).any pend then
         ∃ j ∈ State.objsOf n.val, pend j = true ∧ (t.canAt n.val).attempt = some (j, s.till) ∧ t.objIs j 7 = true ∧
           ∀ m ∈ State.objsOf n.val, pend m = true → key j ≤ key m
       else t = s) ∧
     (∀ e, (s.canAt n.val).attempt = none → Answers (.canTxAttemptEnd n e) s (· = s)) ∧
     (∀ j sof, (s.canAt n.val).attempt = some (j, sof) → j ∈ State.objsOf n.val → (s.canObj j).next = none →
       (∀ v, Answers (.canTxAttemptEnd n (.sent v)) s fun t =>
         (t.canAt n.val).attempt = none ∧ t.objIs j 5 = false ∧ t.objIs j 7 = false ∧
           t.rf (Reg.canTxcnt n.val) 0 32 = satN 0xFFFFFFFF (s.rf (Reg.canTxcnt n.val) 0 32 + 1) ∧
           (t.canObj j).clash = 0) ∧
       (∀ e, e = .lostArbitration ∨ (∃ pos, e = .failed false pos) → Answers (.canTxAttemptEnd n e) s fun t =>
         let ends := (s.canObj j).abort || !s.en (Acct.obj j) || s.objIs j 8
         (t.canAt n.val).attempt = none ∧ t.objIs j 7 = false ∧ (t.canObj j).clash = 0 ∧
           t.objIs j 5 = (s.objIs j 5 && !ends)) ∧
       (∀ pos, (s.canObj j).clash = 1 → (s.canObj j).rearm = false →
         Answers (.canTxAttemptEnd n (.failed true pos)) s fun t =>
           t.objIs j 8 = true ∧ t.hasFlt (Acct.obj j) 1 = true ∧ t.rf (Reg.canClashPos n.val) 0 10 = pos.toNat ∧
             s.Raised t Ev.idclash j 0))) ∧
  (∀ (n : Fin 4) (s : State), s.Inv →
     (∀ e, Answers (.canError n e) s fun t =>
       let c := s.canAt n.val
       let tec := if e.code = 3 ∧ 127 < c.txErr then c.txErr else c.txErr + 8
       (s.canListens n.val = false → t = s) ∧
         (s.canListens n.val = true → t.rf (Reg.canErr n.val) (if e.dataPhase then 27 else 24) 3 = e.code.toNat) ∧
         (s.canListens n.val = true → c.search = none → s.rb (Reg.canCfg n.val) 1 = false →
           (e.transmitting = true → tec ≤ 255 → (t.canAt n.val).txErr = tec) ∧
             (e.transmitting = true → 255 < tec → (t.canAt n.val).off = true ∧ t.hasFlt (Acct.canc n.val) 1 = true ∧
               (t.canAt n.val).attempt = none ∧ (∀ j ∈ State.objsOf n.val, t.objIs j 5 = false) ∧
               s.Raised t Ev.busoff n.val 0) ∧
             (e.transmitting = false → (t.canAt n.val).rxErr = satN 255 (c.rxErr + if e.heavy then 8 else 1)))) ∧
     (Answers (.canRecover n) s fun t =>
       if s.canRuns n.val && (s.canAt n.val).off then
         (t.canAt n.val).off = false ∧ (t.canAt n.val).txErr = 0 ∧ (t.canAt n.val).rxErr = 0 ∧
           s.Raised t Ev.canRecover n.val 0
       else t = s) ∧
     (Answers (.canBusIdle n) s fun t =>
       if s.canRuns n.val && (s.canAt n.val).waitIdle && !(s.canAt n.val).off then (t.canAt n.val).waitIdle = false
       else t = s) ∧
     (Answers (.protocolException n) s fun t =>
       if s.canListens n.val then (t.canAt n.val).waitIdle = true ∧
         t.rf (Reg.canPxe n.val) 0 16 = satN 65535 (s.rf (Reg.canPxe n.val) 0 16 + 1)
       else t = s) ∧
     (Answers (.canLockExpired n) s fun t =>
       match (s.canAt n.val).session with
       | some v => if v.held then t = s else
           v.obj / 128 = n.val → (t.canAt n.val).session = none ∧ t.rb (Reg.canApSel n.val) 9 = false ∧
             t.hasFlt (Acct.obj v.obj) 2 = true ∧ s.Raised t Ev.canLockExpired v.obj 0
       | none => t = s) ∧
     (Answers (.canRate n) s fun t =>
       match (s.canAt n.val).search with
       | none => t = s
       | some v =>
         (v.clean < 8 → t = s) ∧
           (8 ≤ v.clean → v.data = true → (t.canAt n.val).search = none ∧ (t.canAt n.val).waitIdle = true ∧
             t.r (Reg.canDbt n.val) = (dataTiming (s.rateTrial n.val true)).1 ∧ t.rb (Reg.canStat n.val) 2 = false) ∧
           (8 ≤ v.clean → v.data = false → t.r (Reg.canNbt n.val) = nomTiming (s.rateTrial n.val false) ∧
             (t.canAt n.val).search =
               if s.rb (Reg.canCfg n.val) 0 && s.rf (Reg.canAb n.val) 16 8 != 0 then some ⟨true, 0⟩ else none)))

/-- The link and Countersign commands: LINK_CONFIG stores its image and restarts the link in DOWN at its rate; LINK_STATUS
with take removes the oldest held message; CS_CONN_OPEN binds its object and opens the connection, a producer UP at once;
CS_CONN_CLOSE closes it and releases the object; TUNNEL_SEND puts its message on the way and stays in progress (R354, R366,
R372, R381, R383, R385, R565). -/
def Obligations.LinkCommandsTakeEffect : Prop :=
  ∀ (src : Src) (s : State), s.Inv →
    s.Runs (.linkConfig src) (fun c _ t =>
      t.Completed c (.ok 0) ∧ t.r Reg.linkCfg = c.img 0 ∧ t.en Acct.sheicLink = true ∧ t.lstate = 0 ∧
        t.rb Reg.linkStat 3 = (fld (c.img 0) 0 2 == 1) ∧ t.link.slow = (fld (c.img 0) 0 2 == 1)) ∧
    s.Runs (.linkStatus src) (fun c _ t => c.argF 0 1 = 1 →
      t.tun.held = s.tun.held.drop 1 ∧ t.rf Reg.tunStat 8 3 = (s.tun.held.drop 1).length % 8) ∧
    s.Runs (.csConnOpen src) (fun c _ t =>
      let k := c.argF 0 4
      let j := 128 * leAt c.pay 0 1 + leAt c.pay 1 1
      t.Completed c (.ok (t.r (Reg.csId k))) ∧ (t.csAt k).opened = true ∧ t.csCode k = (if k < 8 then 2 else 1) ∧
        (t.csAt k).partner = (c.pay.drop 16).take 48 ∧ t.en (Acct.cs k) = true ∧ t.objEngine j = true ∧
        t.en (Acct.obj j) = true ∧ t.csObj k = j ∧ t.rf (Reg.csTime k) 0 16 = leAt c.pay 8 2 ∧
        t.rf (Reg.csTime k) 16 16 = leAt c.pay 10 2 ∧ (8 ≤ k → t.rf (Reg.csState k) 8 4 = 0)) ∧
    s.Runs (.csConnClose src) (fun c _ t =>
      let k := c.argF 0 4
      t.Completed c (.ok 0) ∧ (t.csAt k).opened = false ∧ t.csCode k = 0 ∧
        ((s.csAt k).opened = true → s.csOverCan k = true →
          t.en (Acct.obj (s.csObj k)) = false ∧ t.objEngine (s.csObj k) = false)) ∧
    s.Runs (.tunnelSend src) (fun c _ t =>
      t.Underway c ∧ t.tun.q8 = s.tun.q8 ++ [State.tunMsg 4 c.pay] ∧ s.RegsBut t State.fetchRegs)

/-- Frames of the link: a frame sent has its header, its 236 bytes and its CRC; one received with a bad CRC or a bad header
counts as missing and sets its fault; a good one counts and ends the run of missing frames, and the sixteenth good one in
ALIGN leads to SYNC; a stall resends what is not acknowledged (R355 to R358, R366, R370). The states of the link: commas
lead from DOWN to ALIGN; four missing frames or a loss of signal lead to DOWN, with a fault from UP; AUTO changes the rate
while the link is not UP; the pairing check leads to UP, UNPAIRED or MISMATCH, and a changed peer is told (R354, R366,
R373, R381, R492). -/
def Obligations.LinkMoves : Prop :=
  (∀ s : State, s.Inv →
     (Answers .linkFrameTx s fun t =>
       (s.linkRuns = false → t = s) ∧
         (s.linkRuns = true → s.scFrame = false → t.link.tx.length = 236 ∧ t.link.tx.take 8 = s.linkHeader ∧
           leAt t.link.tx 232 4 = frameCrc (t.link.tx.take 232))) ∧
     (∀ frame : List Byte, frame.length = 236 → s.looped = false →
       Answers (.linkFrameRx frame) s fun t =>
         let crcOk := leAt frame 232 4 == frameCrc (frame.take 232)
         let headOk := s.headerOk (leAt frame 0 1)
         (s.linkRuns = false ∨ s.lstate = 0 → t = s) ∧
           (s.linkRuns = true → s.lstate ≠ 0 →
             (crcOk = false → t.rf Reg.linkCnt 0 16 = satN 65535 (s.rf Reg.linkCnt 0 16 + 1) ∧ t.link.good = 0 ∧
               t.link.missed = s.link.missed + 1) ∧
             (crcOk = true → headOk = false → t.hasFlt Acct.sheicLink 4 = true ∧ t.link.good = 0 ∧
               t.link.missed = s.link.missed + 1 ∧ t.lstate = s.lstate) ∧
             (crcOk = true → headOk = true → t.link.missed = 0 ∧
               (s.lstate = 1 → 15 ≤ s.link.good → t.lstate = 2) ∧ (s.lstate = 1 → s.link.good < 15 → t.lstate = 1)))) ∧
     (Answers .linkFrameMissing s fun t =>
       if s.linkRuns && s.lstate != 0 then
         t.rf Reg.linkCnt 16 16 = satN 65535 (s.rf Reg.linkCnt 16 16 + 1) ∧ t.link.good = 0 ∧
           t.link.missed = s.link.missed + 1 ∧ s.RegsBut t [Reg.linkCnt]
       else t = s) ∧
     (Answers .tunnelResend s fun t =>
       if !s.tun.unacked.isEmpty && decide (3 ≤ s.tun.stall) then
         t = { s with tun := { s.tun with resend := s.tun.unacked, stall := 0 } }
       else t = s)) ∧
  (∀ s : State, s.Inv →
     (Answers .commaAlignment s fun t =>
       if s.linkRuns && s.lstate == 0 && !s.looped then t.lstate = 1 ∧ t.link.good = 0 ∧ s.Raised t Ev.linkState 0 1 else t = s) ∧
     (∀ i, (i = .linkDown ∧ 4 ≤ s.link.missed) ∨ i = .linkLossOfSignal → Answers i s fun t =>
       if s.linkRuns && s.lstate != 7 then
         t.lstate = 0 ∧ (s.lstate = 4 → t.hasFlt Acct.sheicLink 1 = true ∧ t.csCode 0 = 0) ∧
           (s.linkOpen = true → t.tun.outst = [] ∧ t.tun.q8 = [])
       else t = s) ∧
     (s.link.missed < 4 → Answers .linkDown s (· = s)) ∧
     (Answers .linkRateSwitch s fun t =>
       if s.linkRuns && s.rf Reg.linkCfg 0 2 == 2 && s.lstate != 4 && s.lstate != 7 then
         t.link.slow = !s.link.slow ∧ t.rb Reg.linkStat 3 = !s.link.slow ∧ t.lstate = s.lstate
       else t = s) ∧
     (∀ key sig, Answers (.pairingCheckEnd key sig) s fun t =>
       if s.linkRuns && s.lstate == 3 then
         match s.pairActive with
         | none => t.lstate = 5 ∧ t.csCode 0 = 4 ∧ t.csCode 8 = 4
         | some _ =>
           if s.checkPasses key sig then
             (if s.link.peerPassed then t.lstate = 4 ∧ t.csCode 0 = 2 else t.lstate = 5) ∧ t.rb Reg.lifePair 2 = true
           else t.lstate = 6 ∧ t.rb Reg.lifePair 2 = false ∧ t.rb Reg.lifePair 3 = true ∧ t.hasFlt Acct.lifecycle 1 = true ∧
             t.cpt.peerChanged = true ∧ s.Raised t Ev.peerChanged 0 0
       else t = s))

/-- Countersign: a producer's PDU carries the next sequence number and a good CRC and is requested on its object; a
consumer rejects by the checks in their order and goes from UP to SAFE, and accepts the others, the eighth in a row leading
to UP; a silent partner leads to SAFE; SAFE is left for OPENING (R375 to R384). -/
def Obligations.CountersignConnections : Prop :=
  ∀ (k : Fin 16) (s : State), s.Inv →
    let fails (t : State) (reason : Nat) : Prop :=
      (s.csCode k.val = 2 → t.csCode k.val = 3 ∧ t.rf (Reg.csState k.val) 4 4 = reason ∧ t.hasFlt (Acct.cs k.val) 1 = true ∧
        s.Raised t Ev.csSafe k.val reason) ∧
      (s.csCode k.val = 1 → t.csCode k.val = 1 ∧ t.rf (Reg.csState k.val) 8 4 = 0 ∧ (t.csAt k.val).base = false)
    (∀ pdu : List Byte, pdu.length = 32 → Answers (.csPdu k pdu) s fun t =>
      let open' := 8 ≤ k.val ∧ s.csOverCan k.val = false ∧ s.lstate = 4 ∧ (s.csCode k.val = 1 ∨ s.csCode k.val = 2)
      let idOk := wordAt pdu 0 = s.r (Reg.csId k.val)
      let again := (s.csAt k.val).base = true ∧ pdu = (s.csAt k.val).last
      let gap := (s.csAt k.val).base = true ∧ leAt pdu 4 2 ≠ ((s.r (Reg.csSeq k.val)).toNat + 1) % 65536
      let old := s.csOld k.val (s.csAge k.val pdu).1 = true
      (k.val < 8 → t = s) ∧
        (open' → csCrcOk pdu = false → fails t 5 ∧
          t.rf (Reg.csCnt k.val) 0 8 = satN 255 (s.rf (Reg.csCnt k.val) 0 8 + 1)) ∧
        (open' → csCrcOk pdu = true → ¬idOk → fails t 1) ∧
        (open' → csCrcOk pdu = true → idOk → again → t = s) ∧
        (open' → csCrcOk pdu = true → idOk → ¬again → gap → fails t 2) ∧
        (open' → csCrcOk pdu = true → idOk → ¬again → ¬gap → old → fails t 3) ∧
        (open' → csCrcOk pdu = true → idOk → ¬again → ¬gap → ¬old →
          t.r (Reg.csSeq k.val) = wOf (leAt pdu 4 2) ∧ (∀ i < 4, t.r (Reg.csData k.val i) = wordAt pdu (8 + 4 * i)) ∧
            (t.csAt k.val).base = true ∧ (t.csAt k.val).last = pdu ∧
            (s.csCode k.val = 1 → s.rf (Reg.csState k.val) 8 4 = 7 → t.csCode k.val = 2 ∧ s.Raised t Ev.csUp k.val 0))) ∧
    (Answers (.csWatchdog k) s fun t =>
      (8 ≤ k.val → fails t 4) ∧ (k.val < 8 ∨ (s.csCode k.val ≠ 1 ∧ s.csCode k.val ≠ 2) → t = s)) ∧
    (Answers (.csSafeReopen k) s fun t =>
      if s.csCode k.val == 3 && s.csPath k.val then t.csCode k.val = 1 ∧ t.rf (Reg.csState k.val) 8 4 = 0 else t = s) ∧
    (Answers (.csProduce k) s fun t =>
      if decide (k.val < 8) && (s.csAt k.val).opened && s.csOverCan k.val then
        (t.csAt k.val).last.length = 32 ∧ csCrcOk (t.csAt k.val).last = true ∧
          wordAt (t.csAt k.val).last 0 = s.r (Reg.csId k.val) ∧
          (t.csAt k.val).seq = ((s.csAt k.val).seq + if s.csSkips k.val then 2 else 1) % 65536 ∧
          t.objIs (s.csObj k.val) 5 = true
      else t = s)

/-- The Purse and bank commands: PURSE_SET stores the three limits and SENS_CFG; BANK_STATE sets the power state of the
bank, or of both halves of a pair, and of no other; HUSH_KEEP stores its mask and nothing else; MARCH_RUN stays in progress
and asks for its grant (R405, R426, R428, R448, R565). -/
def Obligations.PurseAndBankCommandsTakeEffect : Prop :=
  ∀ (src : Src) (s : State), s.Inv →
    s.Runs (.purseSet src) (fun c _ t =>
      t.Completed c (.ok 0) ∧ (∀ k < 3, t.r (Reg.purseLimit k) = c.img k) ∧ t.r Reg.sensCfg = c.img 3) ∧
    s.Runs (.bankState src) (fun c _ t =>
      t.Completed c (.ok 0) ∧ ∀ b < 26, t.bankPwr b = if (s.bankHalves (c.argF 0 5)).contains b then c.argF 8 2 else s.bankPwr b) ∧
    s.Runs (.hushKeep src) (fun c _ t =>
      t.Completed c (.ok 0) ∧ t.r Reg.hushKeep = c.arg ∧ s.RegsBut t (Reg.hushKeep :: State.fetchRegs)) ∧
    s.Runs (.marchRun src) (fun c _ t =>
      t.Underway c ∧ (t.hasRequest (0x60 + State.marchBank c) = true ∨ t.hasGrant (0x60 + State.marchBank c) = true))

/-- The Ledger commands: LEDGER_FREEZE starts a freeze of its seconds, or of LDG_CFG's for 0; LEDGER_THAW ends the freeze
and tells so; LEDGER_ARCHIVE takes the range and the digest of the records it takes, tells LEDGER_ARCHIVED and waits for
its record; LEDGER_RELEASE_SEALED starts the erases, or with nothing to erase has released the range (R463, R469, R470,
R566). -/
def Obligations.LedgerCommandsTakeEffect : Prop :=
  ∀ (src : Src) (s : State), s.Inv →
    s.Runs (.ledgerFreeze src) (fun c _ t =>
      t.Completed c (.ok 0) ∧
        t.ldg.frozen = some (10 * if c.argF 0 6 = 0 then s.rf Reg.ldgCfg 8 6 else c.argF 0 6)) ∧
    s.Runs (.ledgerThaw src) (fun c _ t =>
      t.Completed c (.ok 0) ∧ t.ldg.frozen = none ∧ (s.ldg.frozen.isSome = true → s.Raised t Ev.ledgerFreezeEnd 0 0)) ∧
    s.Runs (.ledgerArchive src) (fun c s1 t =>
      t.Underway c ∧ t.ldg.archDigest = sha384 (s1.archRecords.flatMap (·.2)) ∧ t.ldg.archCount = s1.archRecords.length ∧
        (∀ a, s1.archRecords.head? = some a → t.ldg.archFirst = a.1) ∧
        (∀ a, s1.archRecords.getLast? = some a → t.ldg.archLast = a.1) ∧ s.Raised t Ev.ledgerArchived 0 0) ∧
    s.Runs (.ledgerReleaseSealed src) (fun c s1 t =>
      t.Underway c ∧
        match (List.range 256).find? fun k => (s1.secAt k).st != .retired with
        | some k => t.ldg.releasing = true ∧ t.ldg.erase = some ⟨k, true, true⟩
        | none => t.ldg.releasing = false ∧ t.ldg.released = s1.ldg.archLast ∧ s.Raised t Ev.ledgerReleased 0 0)

/-- The Auditor's and Shortchange's commands: AUDIT_CONFIG stores its word; SC_ARM shows armed with its perturbations and
minutes, stores the nine images, and ends after its minutes; SC_DISARM disarms; both tell SC_STATE where the arming changes
(R535 to R539, R568). The Auditor's other activities: a calibration stores its offsets and one out of range stops the door;
the thresholds are kept and a failing channel is told once; the temperatures are shown with their warnings; the hour's
record is made and its values start anew; a patrol counts and tells what fails, and repairs the store; wear management
moves nothing that shows; a late activity is flagged and told (R234, R527, R530 to R534). -/
def Obligations.AuditorWorks : Prop :=
  (∀ (src : Src) (s : State), s.Inv →
     s.Runs (.auditConfig src) (fun c _ t =>
       t.Completed c (.ok 0) ∧ t.r Reg.audCfg = c.img 0 ∧ s.RegsBut t (Reg.audCfg :: State.fetchRegs)) ∧
     s.Runs (.scArm src) (fun c _ t =>
       t.Completed c (.ok 0) ∧ t.rb Reg.scStat 0 = true ∧ (∀ k, 1 ≤ k → k ≤ 9 → t.rb Reg.scStat k = nbit (leAt c.pay 0 2) k) ∧
         t.rf Reg.scStat 16 16 = leAt c.pay 2 2 ∧ (∀ i < 9, t.r (Reg.scCpl + 4 * i) = c.img (1 + i)) ∧
         t.aud.scEnds = s.till + leAt c.pay 2 2 * 12000000000 ∧
         (s.rb Reg.scStat 0 = false → nbit (leAt c.pay 0 2) 2 = false → s.Raised t Ev.scState 0 1)) ∧
     s.Runs (.scDisarm src) (fun c _ t =>
       t.Completed c (.ok 0) ∧ t.rb Reg.scStat 0 = false ∧
         (s.rb Reg.scStat 0 = false → s.RegsBut t State.fetchRegs) ∧
         (s.rb Reg.scStat 0 = true → t.aud.scLive = false ∧ s.Raised t Ev.scState 0 2))) ∧
  (∀ s : State, s.Inv →
     let counted (t : State) (b : Nat) : Prop := t.rf (b + 0x14) 0 32 = satN 0xFFFFFFFF (s.rf (b + 0x14) 0 32 + 1)
     (∀ (n : Fin 2) (offsets gains : List Int), offsets.length = 4 → gains.length = 4 →
       Answers (.doorAdcCalibration n offsets gains) s fun t =>
         if s.audRuns 4 && s.doorLive n && s.doorStill n then
           (t.doorAt n).offs = offsets ∧ counted t Acct.auditorCore ∧
             ((∃ o ∈ offsets, 200 < (o - 8192).natAbs) ∨ (∃ g ∈ gains, 200 < g.natAbs) →
               t.doorCode n = 9 ∧ t.hasFlt (Acct.doorPort n) 6 = true) ∧
             ((∀ o ∈ offsets, (o - 8192).natAbs ≤ 200) → (∀ g ∈ gains, g.natAbs ≤ 200) → t.doorCode n = s.doorCode n)
         else t = s) ∧
     (∀ l : List (Nat × Nat), l.length = 48 → Answers (.thresholdSelfCheck l) s fun t =>
       if s.audRuns 6 then
         t.aud.thr = l ∧ t.rf Reg.audThresh 0 8 = State.thrWorst l ∧ counted t Acct.auditorCore ∧
           ∀ n < 48, State.thrMargin (l.getD n (0, 0)) < 0 →
             t.aud.bad.contains n = true ∧ (s.aud.bad.contains n = false → t.hasFlt Acct.auditorCore 2 = true ∧ s.Raised t Ev.auditThresh 0 n)
       else t = s) ∧
     (∀ temps : List Int, temps.length = 4 → (∀ x ∈ temps, -32768 ≤ x ∧ x ≤ 32767) → Answers (.telemetrySample temps) s fun t =>
       if s.audRuns 7 then
         counted t Acct.telemetry ∧ ∀ i < 4, t.rf (Reg.telTemp i) 0 16 = (temps.getD i 0 % 65536).toNat ∧
           (s.aud.warm.getD i false = false → State.warnLevel i ≤ temps.getD i 0 → s.Raised t Ev.auditTemp 0 i)
       else t = s) ∧
     (Answers .auditHour s fun t =>
       if s.audRuns 8 then
         s.Raised t Ev.auditHour 0 0 ∧ t.aud.ecc = 0 ∧ t.aud.runs = 0 ∧ t.aud.closes = 0 ∧ t.aud.vfLo = 0xFFFF ∧
           counted t Acct.auditorCore ∧ s.RegsBut t [Acct.auditorCore + 0x14, Reg.audLate]
       else t = s) ∧
     (∀ fails : List (Fin 6), (∀ d ∈ fails, d.val ≠ 0) → Answers (.flashPatrol fails) s fun t =>
       (s.audRuns 9 = false → t = s) ∧
         (s.audRuns 9 = true →
           ((∀ d ∈ fails, d.val ≠ 3 ∧ d.val ≠ 4) → counted t Acct.auditorCore ∧ t.rf Reg.audPatrol 0 16 = 0 ∧
             ∀ d ∈ fails, t.hasFlt Acct.auditorCore 3 = true ∧ s.Raised t Ev.auditFlash 0 d) ∧
           ((∃ d ∈ fails, d.val = 3) → s.ldg.erase = none → s.hasGrant 0x50 = true →
             counted t Acct.auditorCore ∧ t.hasGrant 0x50 = false ∧
               (s.par.a.valid = true ∨ s.par.b.valid = true → t.par.a = t.par.b ∧ t.par.a.valid = true)))) ∧
     (Answers .paramWearManagement s fun t =>
       (s.audRuns 10 = false ∨ s.ldg.erase.isSome = true → t = s) ∧
         (s.audRuns 10 = true → s.ldg.erase = none → s.hasGrant 0x50 = true →
           t.par = s.par ∧ t.hasGrant 0x50 = false ∧ counted t Acct.auditorCore)) ∧
     ∀ k : Fin 11, Answers (.auditLate k) s fun t =>
       if ([1, 2, 3, 4, 5, 6, 9] : List Nat).contains k.val && s.audRuns k && s.pwr != .hush && !s.rb Reg.audLate k then
         t.rb Reg.audLate k = true ∧ t.rf Reg.audCnt 16 16 = satN 65535 (s.rf Reg.audCnt 16 16 + 1) ∧
           t.hasFlt Acct.auditorCore 1 = true ∧ s.Raised t Ev.auditLate 0 k ∧
           s.Touches t [Reg.audLate, Reg.audCnt, Acct.auditorCore + 0x10]
       else t = s)

/-- Attestation, pairing and the lifecycle: ATTEST signs and keeps a new report and takes one LMS index, or reads the kept
report on; PAIR records the peer, ACTIVE where it confirms and PENDING where it does not, and a peer that fails the checks
of R491 is denied with its reason; PAIR_CHECK tests the peer's signature afresh; LIFE_SET keeps the target, ends the login
and leads to a reset, and RETURN erases the seal (R485, R487, R488, R491, R492, R495, R496, R567). -/
def Obligations.MintCommandsTakeEffect : Prop :=
  ∀ (src : Src) (s : State), s.Inv →
    s.Runs (.attest src) (fun c s1 t =>
      let r := (s1.signReport c.pay).2 ++ Config.deviceCert.take 1024
      t.Completed c (.ok (wOf r.length) (r.take 240)) ∧ t.mint.report = some r ∧ t.mint.lmsNext = s.mint.lmsNext + 1 ∧
        t.r Reg.mintLms = wOf t.lmsLeft) ∧
    s.Runs (.attestRead src) (fun c _ t =>
      let r := s.mint.report.getD []
      t.Completed c (.ok (wOf r.length) ((r.drop (c.argF 0 16)).take 240)) ∧ t.mint = s.mint ∧ s.RegsBut t State.fetchRegs) ∧
    (∀ x, s.Runs (.pair src x) (fun c s1 t =>
      let s2 := (s1.takeFree.signReport s1.randomBytes).1
      (x.peerTakesPart = false → t.Completed c .denied ∧ t.mint = s.mint) ∧
        (x.peerTakesPart = true →
          (∀ r, s2.peerReason x s1.randomBytes = some r → t.Completed c (.denied (wOf r)) ∧ t.mint.pairRec = s.mint.pairRec) ∧
            (s2.peerReason x s1.randomBytes = none →
              (x.peerAccepts = false → t.Completed c .denied ∧ t.mint.pairRec = s.mint.pairRec) ∧
                (x.peerAccepts = true →
                  t.Completed c (if x.confirmed then .ok 0 else .timeout) ∧
                    t.mint.pairRec = some { active := x.confirmed, peer := sha384 x.peerKey,
                                            role := if s.role = .car then 2 else 1, oem := s.mint.oem } ∧
                    (x.confirmed = true → t.lstate = 3 ∧ t.rb Reg.lifePair 3 = false ∧ s.Raised t Ev.paired 0 0)))))) ∧
    (∀ key sig, s.Runs (.pairCheck src key sig) (fun c s1 t =>
      let ok := ((s1.updLink fun l => { l with chal := s1.randomBytes }).takeFree).checkPasses key sig
      t.link.chal = s1.randomBytes ∧ t.rb Reg.lifePair 2 = ok ∧ t.lstate = s.lstate ∧
        t.Completed c (.ok (if s.pairActive.isNone then 5 else if !ok then 6 else if s.link.peerPassed then 4 else 5)))) ∧
    ∀ w, s.Runs (.lifeSet src w) (fun c _ t =>
      t.Completed c (.ok 0) ∧ t.rst.lifeDue = true ∧ t.mint.login = none ∧ s.Raised t Ev.lifeChange 0 (c.argF 0 3) ∧
        s.Raised t Ev.srWipe 24 (if w.firstOk || w.secondOk then 0 else 1) ∧
        (c.argF 0 3 = 4 → t.mint.returned = true ∧ t.vault.sealValid = false ∧ t.rb Reg.tampStat 16 = false) ∧
        (c.argF 0 3 ≠ 4 → t.mint.comm = true ∧ t.mint.lifeRec = some (c.argF 0 3 == 3) ∧ t.vault.sealValid = s.vault.sealValid))

/-- Staging and activation: the part at offset 0 asks for the erase of the slot that does not run; a later part is
programmed behind the staged ones, and the one that completes the image has it verified; SWITCH makes the staged slot
active and leads to a reset; CONFIRM raises the vault's floor and BURN the OTP's to the running image's svn (R478, R482,
R483, R484, R567). -/
def Obligations.FirmwareCommandsTakeEffect : Prop :=
  ∀ (src : Src) (s : State), s.Inv →
    (∀ e, s.Runs (.fwStage src e) (fun c s1 t =>
      let o := leAt c.pay 0 4
      let new := (c.pay.drop 4).drop (s.stagedLen - o)
      let b := s.stagedBytes ++ new
      (o = 0 → t.Underway c ∧ t.mint.stage = some (!s.mint.runB, 0, false) ∧ t.rb Reg.mintStage 24 = false ∧
          (t.hasRequest 0x51 = true ∨ t.hasGrant 0x51 = true)) ∧
        (o ≠ 0 → new = [] → t.Completed c (.ok (wOf s.stagedLen)) ∧ t.mint = s.mint) ∧
        (o ≠ 0 → new ≠ [] → t.slotOf (!s.mint.runB) = .bytes b ∧
          ((128 ≤ b.length ∧ Image.total b = b.length) →
            (Image.check b s.mint.oem e s1.svnFloor = 0 →
              t.Completed c (.ok (wOf b.length)) ∧ t.mint.stage = some (!s.mint.runB, b.length, true)) ∧
              (∀ r, r ≠ 0 → Image.check b s.mint.oem e s1.svnFloor = r →
                t.Completed c ⟨4, wOf r, []⟩ ∧ t.mint.stage = some (!s.mint.runB, b.length, false) ∧
                  t.rf Reg.mintStage 28 4 = r ∧ t.hasFlt Acct.mintEngine 2 = true)) ∧
          (¬(128 ≤ b.length ∧ Image.total b = b.length) →
            t.Completed c (.ok (wOf b.length)) ∧ t.mint.stage = some (!s.mint.runB, b.length, false))))) ∧
    s.Runs (.fwActivateSwitch src) (fun c _ t =>
      t.Completed c (.ok 0) ∧ t.rst.softDue = true ∧ t.mint.activeB = (s.mint.stage.map (·.1)).getD s.mint.activeB ∧
        t.mint.trial = 1 ∧ t.mint.unconfirmed = true) ∧
    s.Runs (.fwActivateConfirm src) (fun c _ t =>
      let v := max s.vault.floor (State.slotSvn (s.slotOf s.mint.runB))
      t.Completed c (.ok (wOf v)) ∧ t.vault.floor = v ∧ t.mint.trial = 0 ∧ t.mint.unconfirmed = false ∧
        t.rb Reg.mintBoot 3 = false ∧ s.Raised t Ev.mintSvn 0 1) ∧
    s.Runs (.fwActivateBurn src) (fun c _ t =>
      let v := State.slotSvn (s.slotOf s.mint.runB)
      t.Completed c (.ok (wOf v)) ∧ t.mint.steps = v ∧ s.mint.steps < t.mint.steps ∧ s.Raised t Ev.mintSvn 0 2)

/-- SERVICE_LOGIN: step 0 gives a new challenge and the identity digest; step 1 collects its parts, and a complete attempt
uses the challenge up, logs in for its minutes where it passes the checks of R498 and counts as refused where it does not;
step 2 ends the login of its interface (R498, R499, R567). The service login's timers: its time, the lockout's and the
challenge's end (R498, R499). -/
def Obligations.ServiceLogins : Prop :=
  (∀ (src : Src) (s : State), s.Inv →
     s.Runs (.serviceLoginChallenge src) (fun c s1 t =>
       t.Completed c (.ok 0 (s1.randomBytes ++ idDigest)) ∧ t.mint.chal = some (State.srcIface c.src, s1.randomBytes, s.till) ∧
         s.RegsBut t State.fetchRegs) ∧
     s.Runs (.serviceLoginResponse src) (fun c _ t =>
       let b := (if leAt c.pay 0 2 = 0 then [] else s.mint.part) ++ c.pay.drop 4
       let mins := leAt b 0 2
       (b.length < leAt c.pay 2 2 → t.Completed c (.ok (wOf b.length)) ∧ t.mint.part = b ∧ t.mint.chal = s.mint.chal ∧
           t.mint.login = s.mint.login) ∧
         (leAt c.pay 2 2 ≤ b.length → t.mint.chal = none ∧ t.mint.part = [] ∧
           (s.loginPasses mins ((b.drop 2).take 96) (b.drop 98) = true →
             t.Completed c (.ok (wOf mins)) ∧ t.vault.refusals = 0 ∧ t.vault.lockSecs = 0 ∧ t.rb Reg.lifeState 3 = true ∧
               t.mint.login = some ⟨State.srcIface c.src, s.vault.rtc + mins * 60 * 32768⟩ ∧ s.Raised t Ev.login 0 0) ∧
           (s.loginPasses mins ((b.drop 2).take 96) (b.drop 98) = false →
             t.Completed c ((t.lockReply').getD .denied) ∧ t.vault.refusals = s.vault.refusals + 1 ∧
               t.mint.login = s.mint.login ∧ s.Raised t Ev.login 0 2 ∧
               (4 ≤ s.vault.refusals → t.vault.lockSecs = Nat.min 3600 (60 * 2 ^ Nat.min 6 (s.vault.refusals - 4)) ∧
                 t.hasFlt Acct.lifecycle 2 = true ∧ s.Raised t Ev.login 0 3)))) ∧
     s.Runs (.serviceLoginLogout src) (fun c _ t =>
       t.Completed c (.ok 0) ∧
         if s.loginHere c then t.mint.login = none ∧ (s.mint.login.isSome = true → t.rb Reg.lifeState 3 = false ∧ s.Raised t Ev.login 0 1)
         else t.mint.login = s.mint.login)) ∧
  (∀ s : State, s.Inv →
     (Answers .loginExpiry s fun t => t.mint.login = none ∧ (s.mint.login = none → t = s) ∧
       (s.mint.login ≠ none → t.rb Reg.lifeState 3 = false ∧ t.rf Reg.lifeState 16 16 = 0 ∧ s.Raised t Ev.login 0 1 ∧
         (s.aud.scBy.isSome = true → t.rb Reg.scStat 0 = false) ∧
         (s.aud.scBy = none → s.RegsBut t [Reg.lifeState, Reg.lifeLogin] ∧ t.vault = s.vault))) ∧
     (Answers .loginLockoutExpiry s fun t => t.vault = { s.vault with lockSecs := 0 } ∧ t.rf Reg.lifeLogin 16 16 = 0 ∧
       s.OnlyRegs { t with vault := s.vault } [Reg.lifeState, Reg.lifeLogin]) ∧
     Answers .loginChallengeExpiry s fun t => t.mint.chal = none ∧ t = { s with mint := { s.mint with chal := none } })

/-- An encoder's edges: a double change counts as illegal and moves nothing; an edge that the decode mode selects moves
ENC_RAW, and either the position by one count, with its stamp and the wrap of the revolution, or after a change of
direction nothing more; the index latches the position; a line fault is told and makes the channel untrusted until it
clears; STARTING ends at the settle (R83 to R93). -/
def Obligations.EncoderEdgesCount : Prop :=
  ∀ s : State, s.Inv → ∀ n : Fin 3,
    let base := Acct.enc n
    let e := s.encAt n
    (∀ a b, Answers (.encEdge n a b) s fun t =>
      ((s.runs base && s.en base) = false → s.RegsBut t []) ∧
        ((s.runs base && s.en base && !s.hasFlt base 2 && !s.hasFlt base 3) = true →
          (a = e.a → b = e.b → s.RegsBut t []) ∧
            (a ≠ e.a → b ≠ e.b → t.rf (Reg.encQerr n) 0 32 = satN 0xFFFFFFFF (s.rf (Reg.encQerr n) 0 32 + 1) ∧
              t.r (Reg.encPos n) = s.r (Reg.encPos n) ∧ t.r (Reg.encRaw n) = s.r (Reg.encRaw n)) ∧
            ((a != e.a) ≠ (b != e.b) → State.encSelected (s.rf (Reg.encCfg n) 0 2) (a != e.a) b = true →
              let fwd := (if a != e.a then a != b else a == b) != s.rb (Reg.encCfg n) 2
              let pos := s.rf (Reg.encPos n) 0 24
              let rc := s.rf (Reg.encRevCount n) 0 25
              t.r (Reg.encRaw n) = (if fwd then s.r (Reg.encRaw n) + 1 else s.r (Reg.encRaw n) - 1) ∧
                if e.dir = some (!fwd) then
                  t.r (Reg.encPos n) = s.r (Reg.encPos n) ∧ t.r (Reg.encRev n) = s.r (Reg.encRev n) ∧ t.rb (base + 0xC) 10 = true
                else
                  t.rf (Reg.encPos n) 0 24 =
                      (if fwd then (if pos + 1 = rc then 0 else pos + 1) else if pos = 0 then rc - 1 else pos - 1) % 2 ^ 24 ∧
                    t.r (Reg.encRev n) = (if fwd then (if pos + 1 = rc then s.r (Reg.encRev n) + 1 else s.r (Reg.encRev n))
                      else if pos = 0 then s.r (Reg.encRev n) - 1 else s.r (Reg.encRev n)) ∧
                    t.rTill (Reg.encEdgeTillL n) (Reg.encEdgeTillH n) =
                      (s.till - (s.rf (Reg.encFilt n) (if a != e.a then 0 else 8) 5 - 1)) % 2 ^ 64 ∧
                    t.rb (base + 0xC) 9 = !fwd))) ∧
    (∀ z, Answers (.encIndexEdge n z) s fun t =>
      let pos := s.rf (Reg.encPos n) 0 24
      let rc := s.rf (Reg.encRevCount n) 0 25
      let d := (pos + rc - s.rf (Reg.encIdxExp n) 0 24 % rc) % rc
      if s.runs base && s.en base && !s.hasFlt base 4 && z != e.z && s.rb (Reg.encCfg n) 3 && z != s.rb (Reg.encCfg n) 4 then
        t.r (Reg.encIdxCap n) = wOf pos ∧ t.rf (base + 0x14) 0 32 = satN 0xFFFFFFFF (s.rf (base + 0x14) 0 32 + 1) ∧
          (s.rb (Reg.encCfg n) 5 = true → s.rf (Reg.encCfg n) 8 8 < Nat.min d (rc - d) →
            t.hasFlt base 5 = true ∧ s.Raised t Ev.encIndex n 1)
      else s.RegsBut t []) ∧
    (∀ lines, Answers (.encLine n lines) s fun t =>
      if s.runs base && s.en base && s.rb (Reg.encCfg n) 7 && lines != 0#3 then
        (∀ i < 3, lines.getLsbD i = true → t.hasFlt base (2 + i) = true) ∧
          (lines.getLsbD 0 = true ∨ lines.getLsbD 1 = true → t.untrusted base = true) ∧ s.Raised t Ev.encLine n lines.toNat
      else t = s) ∧
    (Answers (.untrustedClear n) s fun t =>
      if s.untrusted base && !s.hasFlt base 1 && !s.hasFlt base 2 && !s.hasFlt base 3 &&
          (match e.ill.getLast? with
           | some x => decide (x + 200000 ≤ s.till)
           | none => true) then
        t.untrusted base = false ∧ s.OnlyRegs t [base + 0xC]
      else t = s) ∧
    (Answers (.encReceiverSettle n) s fun t =>
      if s.runs base && s.en base && s.rf (base + 0xC) 4 4 == 1 then t.rf (base + 0xC) 4 4 ≠ 1 else t = s)

/-- The Hall inputs, the SSI inputs and the captures: an invalid Hall state and a skipped sector are counted and told, a
neighbouring sector is taken; an SSI frame that fails a check is counted under the first check that it fails and leaves the
position, one that passes as a seed becomes the position; a silent SSI input becomes stale; a capture stamps its edge (R96
to R115). The accelerometer and the emulation: a sample of good bytes becomes the axes, in the byte order that ACC_CFG
selects; a wrong identity and a late sample set their faults; a repeated edge moves EMU_COUNT by its step; a fault of the
drivers turns the emulation off (R116 to R123). -/
def Obligations.SensorEvents : Prop :=
  (∀ s : State, s.Inv →
     (∀ (n : Fin 2) (lines : BitVec 3), Answers (.hallChange n lines) s fun t =>
       let base := Acct.hall n
       let st := lines.toNat
       let held := s.rf (Reg.hallState n) 4 3
       let d := (State.hallSector st + 6 - State.hallSector held) % 6
       t.rf (Reg.hallState n) 0 3 = st ∧
         ((s.runs base && s.en base && st != s.rf (Reg.hallState n) 0 3) = false → s.RegsBut t [Reg.hallState n]) ∧
         ((s.runs base && s.en base && st != s.rf (Reg.hallState n) 0 3) = true →
           (st = 0 ∨ st = 7 → t.rf (Reg.hallErr n) 0 16 = satN 65535 (s.rf (Reg.hallErr n) 0 16 + 1) ∧ t.hasFlt base 1 = true ∧
             s.Raised t Ev.hallInvalid n st ∧ t.rf (Reg.hallState n) 4 3 = held) ∧
           (st ≠ 0 → st ≠ 7 → t.rf (Reg.hallState n) 4 3 = st ∧
             (held ≠ 0 → d = 1 ∨ d = 5 → t.rb (Reg.hallState n) 12 = ((d == 1) == s.rb (Reg.hallCfg n) 9) ∧
               t.rf (base + 0x14) 0 32 = satN 0xFFFFFFFF (s.rf (base + 0x14) 0 32 + 1)) ∧
             (held ≠ 0 → d ≠ 0 → d ≠ 1 → d ≠ 5 → t.rf (Reg.hallErr n) 16 16 = satN 65535 (s.rf (Reg.hallErr n) 16 16 + 1) ∧
               t.hasFlt base 2 = true ∧ s.Raised t Ev.hallSkip n st)))) ∧
     (∀ (n : Fin 2) (high : Bool), Answers (.absRead n high) s fun t =>
       if s.runs (Acct.abs n) && s.en (Acct.abs n) && s.pwr != .hush && s.till % (200 * s.rf (Reg.absTiming n) 0 7) == 0 then
         (t.absAt n).reading = some (s.till, high) ∧ s.OnlyRegs { t with fb := s.fb } []
       else t = s) ∧
     (∀ (n : Fin 2) (frame : BitVec 53), Answers (.absFrameEnd n frame) s fun t =>
       let cfg := s.r (Reg.absCfg n)
       let f := frame.toNat % 2 ^ State.absN cfg
       let raw := State.absData cfg f
       let v := if bit cfg 16 then State.unGray raw (fld cfg 10 6) else raw
       let refused (k : Nat) : Prop :=
         t.rf (Reg.absErr n) (8 * (k - 1)) 8 = satN 255 (s.rf (Reg.absErr n) (8 * (k - 1)) 8 + 1) ∧ t.hasFlt (Acct.abs n) k = true ∧
           t.r (Reg.absPosL n) = s.r (Reg.absPosL n) ∧ t.r (Reg.absPosH n) = s.r (Reg.absPosH n)
       match (s.absAt n).reading with
       | none => t = s
       | some (t0, high) =>
         t.r (Reg.absRawL n) = wOf f ∧ (t.absAt n).reading = none ∧
           (s.en (Acct.abs n) = true →
             (high = false → refused 1) ∧
               (high = true → State.absCrcOk cfg f = false → refused 2) ∧
               (high = true → State.absCrcOk cfg f = true → State.absStatusOk cfg (s.r (Reg.absStatusRule n)) f = false →
                 refused 3) ∧
               (high = true → State.absCrcOk cfg f = true → State.absStatusOk cfg (s.r (Reg.absStatusRule n)) f = true →
                 (s.hasFlt (Acct.abs n) 5 = true → refused 4) ∧
                   (s.hasFlt (Acct.abs n) 5 = false → (s.absAt n).seed = true ∨ (s.absAt n).second = true →
                     t.r (Reg.absPosL n) = wOf v ∧ t.r (Reg.absPosH n) = wOf (v / 2 ^ 32) ∧ t.r (Reg.absConsec n) = 0 ∧
                       t.rTill (Reg.absTillL n) (Reg.absTillH n) = (t0 + s.rf (Reg.absTiming n) 16 16) % 2 ^ 64 ∧
                       t.untrusted (Acct.abs n) = false)))) ∧
     (∀ n : Fin 2, Answers (.absStale n) s fun t =>
       if s.runs (Acct.abs n) && s.en (Acct.abs n) && s.pwr != .hush then
         t.hasFlt (Acct.abs n) 6 = true ∧ t.untrusted (Acct.abs n) = true ∧ s.Raised t Ev.absStale n 0 ∧
           s.Touches t [Acct.abs n + 0x10, Acct.abs n + 0xC]
       else t = s) ∧
     ∀ (n : Fin 4) (rising : Bool), Answers (.capture n rising) s fun t =>
       let b := Acct.cap n
       t.rb (Reg.capFlags n) 1 = rising ∧
         ((s.runs b && s.en b && (if rising then s.rb (Reg.capCfg n) 0 else s.rb (Reg.capCfg n) 1)) = false →
           s.OnlyRegs t [Reg.capFlags n]) ∧
         ((s.runs b && s.en b && (if rising then s.rb (Reg.capCfg n) 0 else s.rb (Reg.capCfg n) 1)) = true →
           (s.till < s.fb.capHold.getD n 0 → t.rf (Reg.capFlags n) 16 16 = satN 65535 (s.rf (Reg.capFlags n) 16 16 + 1) ∧
             s.OnlyRegs t [Reg.capFlags n]) ∧
             (s.fb.capHold.getD n 0 ≤ s.till → t.rb (Reg.capFlags n) 0 = rising ∧ t.r (Reg.capSeq n) = s.r (Reg.capSeq n) + 2 ∧
               t.rTill (Reg.capTillL n) (Reg.capTillH n) = (s.till - (s.rf (Reg.capCfg n) 8 5 - 1) - 24) % 2 ^ 64 ∧
               (s.unavailable (Acct.enc 0) = false → t.r (Reg.capEnc0Pos n) = s.r (Reg.encPos 0)) ∧
               t.fb.capHold.getD n 0 = s.till + 200 * s.rf (Reg.capCfg n) 16 16 ∧
               (s.rb (Reg.capCfg n) 13 = true → s.Raised t Ev.capEdge n (if rising then 1 else 0))))) ∧
  (∀ s : State, s.Inv →
     (∀ (id : Byte) (bs : List Byte), bs.length = 6 → Answers (.accSample id bs) s fun t =>
       let b := Acct.accPort
       let live := s.runs b && s.en b && s.pwr != .hush && !s.hasFlt b 1
       let starting := s.rf (b + 0xC) 4 4 == 1
       let stuck := bs.all (· == 0x00#8) || bs.all (· == 0xFF#8)
       (live = false → t = s) ∧
         (live = true → (starting && id.toNat != s.rf Reg.accCfg2 0 8) = true →
           t.hasFlt b 1 = true ∧ t.rf (b + 0xC) 4 4 = 5 ∧ s.Raised t Ev.accFault 0 1 ∧ t.r Reg.accX = s.r Reg.accX) ∧
         (live = true → (starting && id.toNat != s.rf Reg.accCfg2 0 8) = false → stuck = true →
           t.fb.accStuck = satN 8 (s.fb.accStuck + 1) ∧ t.r Reg.accX = s.r Reg.accX) ∧
         (live = true → (starting && id.toNat != s.rf Reg.accCfg2 0 8) = false → stuck = false →
           t.r Reg.accX = wOfInt (s.accAxis bs 0) ∧ t.r Reg.accY = wOfInt (s.accAxis bs 1) ∧
             t.r Reg.accZ = wOfInt (s.accAxis bs 2) ∧ t.rTill Reg.accTillL Reg.accTillH = s.till % 2 ^ 64 ∧ t.fb.accStuck = 0)) ∧
     (Answers .accLate s fun t =>
       if s.runs Acct.accPort && s.en Acct.accPort && s.pwr != .hush && s.rb Reg.accCfg 9 then
         t.hasFlt Acct.accPort 3 = true ∧ s.Raised t Ev.accFault 0 3 ∧ s.Touches t [Acct.accPort + 0x10]
       else t = s) ∧
     (∀ a b z, Answers (.emuRepeatEdge a b z) s fun t =>
       let e := s.fb.emu
       if s.runs Acct.emu && s.en Acct.emu && s.rf Reg.emuCfg 0 2 == 1 && e.on && s.pwr != .hush then
         if s.till + 80 < e.last + 40 then
           t.fb.emu.on = false ∧ t.hasFlt Acct.emu 1 = true ∧ t.rf (Acct.emu + 0xC) 4 4 = 5 ∧ s.Raised t Ev.emuOff 0 1
         else
           t.r Reg.emuCount = wOfInt (wInt (s.r Reg.emuCount) + State.quadStep e.a e.b a b) ∧
             t.fb.emu = { a := a, b := b, z := z && s.rb Reg.emuCfg 4, last := Nat.max s.till (e.last + 40), on := true } ∧
             s.RegsBut t [Reg.emuCount, Acct.emu + 0x14]
       else t = s) ∧
     (Answers .emuDriveFault s fun t =>
       if s.runs Acct.emu && s.en Acct.emu && s.fb.emu.on then
         t.fb.emu.on = false ∧ t.hasFlt Acct.emu 4 = true ∧ t.rf (Acct.emu + 0xC) 4 4 = 5 ∧ s.Raised t Ev.emuOff 0 3 ∧
           s.RegsBut t [Acct.emu + 0x10, Acct.emu + 0xC]
       else t = s))

/-- The observers: an update predicts and corrects by the observer gains where a measurement waits, and only predicts, and
counts, after an illegal transition; the gate goes to STANDSTILL after T_ZERO, from TRACKING only below V_ZERO (R126 to
R130). A fusion update takes in what waits and publishes: the car's position from motor and slip, the speed that reads 0
while the gate does not track, the gate's bits with the validity, and the tick; a missed update extrapolates the position
by its speed, counts, and is told at the first of a run (R134, R139, R145, R154, R155). -/
def Obligations.PositionIsObserved : Prop :=
  (∀ s : State, s.Inv →
     (Answers .obsUpdate s fun t => ∀ c < 5,
       let o := s.obsAt c
       let w := Config.omega (s.rf (State.obsReg c) 0 11)
       let T : Rat := 1 / 1000000
       let p := o.p + o.v * T + o.a * T * T / 2
       let v := o.v + o.a * T
       ((s.runs (State.obsBase c) && s.en (State.obsBase c)) = false → t.obsAt c = o) ∧
         ((s.runs (State.obsBase c) && s.en (State.obsBase c)) = true →
           (t.obsAt c).tick = s.nextTick ∧ (t.obsAt c).meas = none ∧ (t.obsAt c).invalid = false ∧
             t.r (State.obsReg c + 0xC) = wOfInt (t.obsAt c).p.floor ∧
             (o.invalid = true → (t.obsAt c).p = p ∧ (t.obsAt c).v = v ∧ (t.obsAt c).a = o.a ∧
               t.rf (State.obsReg c + 0x2C) 0 16 = satN 65535 (s.rf (State.obsReg c + 0x2C) 0 16 + 1)) ∧
             (∀ m ts, o.invalid = false → o.meas = some (m, ts) →
               let dt := tillSec ((ts : Int) - s.nextTick)
               let e : Rat := (m : Rat) - (p + v * dt + o.a * dt * dt / 2)
               (t.obsAt c).p = p + 3 * w * T * e ∧ (t.obsAt c).v = v + 3 * w * w * T * e ∧
                 (t.obsAt c).a = o.a + w * w * w * T * e))) ∧
     ∀ ch : Fin 5, Answers (.gateTZeroExpiry ch) s fun t =>
       let o := s.obsAt ch
       let vz : Rat := s.rf (State.obsReg ch + 4) 16 16
       (s.runs (State.obsBase ch) && s.en (State.obsBase ch)) = true →
         (o.gate = .standstill → t.obsAt ch = o) ∧
           (o.gate = .first ∨ o.gate = .reversed → t.obsAt ch = { o with gate := .standstill, moving := false, reversal := false }) ∧
           (o.gate = .tracking → (-vz < o.v ∧ o.v < vz → t.obsAt ch = { o with gate := .standstill, v := 0, a := 0, moving := false }) ∧
             (o.v ≤ -vz ∨ vz ≤ o.v → t.obsAt ch = o)) ∧
           t.rb (State.obsReg ch + 8) 8 = (t.obsAt ch).moving) ∧
  (∀ s : State, s.Inv →
     (∀ missed, (s.runs Acct.fusion && s.en Acct.fusion) = false → Answers (.fusionUpdate missed) s (· = s)) ∧
     ((s.runs Acct.fusion && s.en Acct.fusion) = true →
       (Answers (.fusionUpdate false) s fun t =>
         let o := s.obsAt 0
         t.fus.tapeIn = [] ∧ t.fus.capIn = [] ∧ t.fus.missedLast = false ∧
           t.fus.hist.head? = some (s.nextTick, s.motorUm o.p) ∧
           t.rTill Reg.fusTillL Reg.fusTillH = s.nextTick % 2 ^ 64 ∧ t.rb Reg.fusMstat 3 = t.fusValid ∧
           (t.fus.confirmed = true → t.fus.source = 1 ∨ t.fus.source = 2 →
             t.r Reg.carpos = wOfInt (ratRound (s.motorUm o.p + t.fus.slip)) ∧
               t.r Reg.carspd = (if o.gate = .tracking then wOfInt (ratRound (s.motorUm o.v)) else 0) ∧
               t.rb Reg.fusMstat 0 = o.moving ∧ t.rb Reg.fusMstat 2 = decide (o.gate ≠ .tracking)) ∧
           (t.fus.confirmed = false ∨ t.fus.source = 0 →
             t.r Reg.carpos = s.r Reg.carpos ∧ t.r Reg.carspd = 0 ∧ t.rb Reg.fusMstat 3 = false)) ∧
       (Answers (.fusionUpdate true) s fun t =>
         t.r Reg.carpos = wOfInt (ratRound ((wInt (s.r Reg.carpos) : Rat) + (wInt (s.r Reg.carspd) : Rat) / 1000000)) ∧
           t.rTill Reg.fusTillL Reg.fusTillH = s.nextTick % 2 ^ 64 ∧
           t.rf Reg.fusOverrun 0 32 = satN 0xFFFFFFFF (s.rf Reg.fusOverrun 0 32 + 1) ∧ t.hasFlt Acct.fusion 5 = true ∧
           (s.fus.missedLast = false → s.Raised t Ev.fusOverrun 0 0))))

/-- The plan: a tick takes in Q7 and the cancellations, frees served slots, renews its tick for the Comptroller and
publishes its time; it goes to INHIBITED on a trip or a lockout, and from IDLE to INSPECTION where that is active; a missed
plan counts and the first is told; ten abort the run; the reference is 0 where nothing runs (R166, R169, R171, R174, R181
to R183). The run's sequences and the drive: a start that takes too long is abandoned and told; the delays lead to the next
step of their sequence; a re-level whose bypass is not granted fails; DRIVE_REF is requested with the next sequence number;
a DRIVE_STAT is taken, and a fault in it aborts the run; a lost drive aborts the run and applies the brake (R179, R180,
R182, R184 to R186, R190). -/
def Obligations.RunsMove : Prop :=
  (∀ s : State, s.Inv →
     (∀ missed, s.plans = false → Answers (.planTick missed) s (· = s)) ∧
     (s.plans = true →
       (Answers (.planTick false) s fun t =>
         t.prf.misses = 0 ∧ t.prf.q7 = [] ∧ t.prf.marks = [] ∧ t.cpt.renewed = true ∧
           t.rTill Reg.prfTillL Reg.prfTillH = s.till / 20000 * 20000 % 2 ^ 64 ∧
           (∀ n < 64, (s.slotState n = 5 ∧ s.prf.tgt.all (fun x => x.slot != some n) = true) ∨ (s.prf.marks.contains n = true ∧ [1, 2, 6].contains (s.slotState n) = true) →
             t.r (Reg.ordSlot n) = 0) ∧
           (s.cpt.st = .tripped ∨ s.cpt.st = .lockout → t.runState = 10 ∧ (s.runState ≠ 10 →
             t.prf.askContactor = false ∧ t.prf.askLift = false ∧ ∀ n < 64, s.slotState n = 3 ∨ s.slotState n = 4 → t.slotState n = 1)) ∧
           (s.cpt.st ≠ .tripped → s.cpt.st ≠ .lockout → s.runState = 0 → s.inspActive = true ∨ s.recallActive = true →
             t.runState = 7)) ∧
       (Answers (.planTick true) s fun t =>
         t.prf.misses = s.prf.misses + 1 ∧ t.rf Reg.prfCnt 0 16 = satN 65535 (s.rf Reg.prfCnt 0 16 + 1) ∧
           t.hasFlt Acct.profileEngine 1 = true ∧ (s.prf.misses = 0 → s.Raised t Ev.prfOverrun 0 0) ∧
           s.RegsBut t [Reg.prfCnt, Acct.profileEngine + 0x10])) ∧
     (Answers .planMissAbort s fun t =>
       if s.plans && decide (10 ≤ s.prf.misses) && ([1, 2, 3, 6, 7, 8] : List Nat).contains s.runState then
         t.runState = 9 ∧ t.hasFlt Acct.profileEngine 2 = true ∧ t.rf Reg.prfStat 24 4 = 4 ∧ t.prf.tgt = none ∧
           ∀ n < 64, s.slotState n = 3 → t.slotState n = 2
       else t = s) ∧
     (Answers .referenceSample s fun t =>
       if s.plans then
         t.prf.ref = s.refSample ∧ t.r Reg.prfSref = wOfInt (ratRound s.refSample.v) ∧
           t.r Reg.prfAref = wOfInt (ratRound s.refSample.a) ∧
           (([0, 1, 4, 5, 10] : List Nat).contains s.runState = true → t.r Reg.prfSref = 0 ∧ t.r Reg.prfAref = 0) ∧
           s.OnlyRegs { t with prf := s.prf } [Reg.prfSref, Reg.prfAref]
       else t = s)) ∧
  (∀ s : State, s.Inv →
     (Answers .startFail s fun t =>
       if s.plans && s.runState == 1 then
         t.runState = 0 ∧ t.hasFlt Acct.profileEngine 5 = true ∧ t.prf.askContactor = false ∧ t.prf.askLift = false ∧
           t.prf.cmd = 0 ∧ s.Raised t Ev.startFail 0 0
       else t = s) ∧
     (Answers .startDelayExpiry s fun t =>
       if s.plans && s.prf.seqStep == 2 && !s.statEn then t = { s with prf := { s.prf with seqStep := 3, timer := false } }
       else t = s) ∧
     (Answers .brakeHoldExpiry s fun t =>
       if s.plans && s.prf.seqStep == 12 && s.prf.timer then
         t.prf.seqStep = 13 ∧ t.prf.timer = false ∧ t.prf.askContactor = false ∧ nbit t.prf.cmd 0 = false ∧
           nbit t.prf.cmd 2 = false ∧ t = { s with prf := t.prf }
       else t = s) ∧
     (Answers .relevelBypassTimeout s fun t =>
       if s.plans && s.runState == 5 && (s.prf.askBypass.any fun b => b.relevel) && !s.bypassActive then
         t.prf.askBypass = none ∧ t.prf.offSince = some s.till ∧ t.hasFlt Acct.profileEngine 6 = true ∧
           s.Raised t Ev.relevel 0 2 ∧ s.RegsBut t [Acct.profileEngine + 0x10]
       else t = s) ∧
     (Answers .driveRef s fun t =>
       match s.prf.txObj with
       | some j =>
         if s.plans && s.en (Acct.obj j) then
           t.prf.unsent = s.prf.unsent ++ [(s.prf.seq, s.till)] ∧ t.prf.seq = (s.prf.seq + 1) % 256
         else t = s
       | none => t = s) ∧
     (Answers .driveStat s fun t =>
       match s.prf.rxObj with
       | some j =>
         if s.plans && s.objIs j 0 then
           let bs := s.dataBytes j 8
           t.prf.status = leAt bs 0 1 ∧ t.prf.statTill = some s.till ∧ t.rf Reg.prfDriveFault 0 16 = leAt bs 2 2 ∧
             t.objIs j 0 = false ∧
             (nbit (leAt bs 0 1) 2 = true → t.hasFlt Acct.profileEngine 4 = true ∧
               (([1, 2, 3, 6, 7, 8] : List Nat).contains s.runState = true → t.runState = 9 ∧ t.rf Reg.prfStat 24 4 = 3))
         else t = s
       | none => t = s) ∧
     (Answers .driveLost s fun t =>
       if s.plans && s.rb Reg.prfDrive 31 && (!s.prf.unsent.isEmpty || (s.statEn && nbit s.prf.cmd 0)) then
         t.hasFlt Acct.profileEngine 3 = true ∧ s.Raised t Ev.driveLost 0 0 ∧ t.prf.unsent = [] ∧ t.prf.askBrake = true ∧
           (([1, 2, 3, 6, 7, 8] : List Nat).contains s.runState = true → t.runState = 9 ∧ t.rf Reg.prfStat 24 4 = 2)
       else t = s))

/-- A control period shows what it measures, and without requests takes the port's own step: CLOSED and CLOSED_LOCKED
follow the lock contact; OPENING that loses its permission stalls; an obstruction by the light curtain ends CLOSING with a
reopen counted; FAULT ends when every cause has been cleared (R205, R207, R211, R214, R220, R227). -/
def Obligations.DoorPeriodsMove : Prop :=
  ∀ s : State, s.Inv → ∀ (n : Fin 2) (iu iv iw vbus : BitVec 14),
    ((s.doorLive n && s.pwr != .hush) = false → Answers (.doorControlPeriod n iu iv iw vbus) s (· = s)) ∧
    ((s.doorLive n && s.pwr != .hush) = true → Answers (.doorControlPeriod n iu iv iw vbus) s fun t =>
      let x := s.doorSample n iu.toNat iv.toNat iw.toNat
      t.r (Reg.doorPos n) = wOfInt (ratRound x.pos) ∧ t.r (Reg.doorSpd n) = wOfInt (ratRound x.spd) ∧
        t.rb (Reg.doorState n) 7 = s.lcActive n ∧ t.rb (Reg.doorState n) 8 = s.seActive n ∧
        (s.doorCode n = 0xF → t.doorCode n = 0xF) ∧
        (s.doorCode n = 9 → t.doorCode n = if s.doorFaulted n then 9 else if s.learned n then 8 else 0xB) ∧
        ((s.doorAt n).reqs = [] →
          (s.doorCode n = 0 ∨ s.doorCode n = 1 → t.doorCode n = if s.lockOk n then 0 else 1) ∧
            (s.doorCode n = 2 → s.permit n = false → t.doorCode n = 8 ∧ s.Raised t Ev.doorStall n 1) ∧
            (s.doorCode n = 4 → s.lcActive n = true → (s.doorAt n).lcWas = false → t.doorCode n ≠ 4 ∧
              t.rf (Reg.doorState n) 16 4 = satN 15 (s.rf (Reg.doorState n) 16 4 + 1) ∧
              t.rf (Reg.doorCnt n) 0 16 = satN 65535 (s.rf (Reg.doorCnt n) 0 16 + 1))))

/-- The causes of R227 lead to FAULT, each with its bit and its event: the power stage and an overcurrent switch everything
off at once, the bus voltage coasts; the stop's end switches off (R206, R227). The timers of a door port: the settle after
the enable, the dwell's and the hold's ends, the stall, the energy, the contact's and the lock's times, the pause and the
obstruction time of nudging (R210, R211, R213 to R215, R224 to R226). -/
def Obligations.DoorEventsAct : Prop :=
  (∀ s : State, s.Inv → ∀ n : Fin 2,
     let b := Acct.doorPort n
     (∀ iu iv iw, Answers (.doorOvercurrent n iu iv iw) s fun t =>
       let hot (ch : Nat) (c : BitVec 14) : Bool := decide (s.rf (Reg.doorProt n) 0 16 < (s.phaseMa n ch c.toNat).natAbs)
       if s.doorLive n && (hot 0 iu || hot 1 iv || hot 2 iw) then
         t.doorCode n = 9 ∧ t.hasFlt b 3 = true ∧ (t.doorAt n).stage = .off ∧
           (s.hasFlt b 3 = false → s.Raised t Ev.doorFault n 3)
       else t = s) ∧
     (∀ k, Answers (.doorPowerStageFault n k) s fun t =>
       if s.doorLive n && decide (10 ≤ k) then
         t.doorCode n = 9 ∧ t.hasFlt b 2 = true ∧ (t.doorAt n).stage = .off ∧
           (s.hasFlt b 2 = false → s.Raised t Ev.doorFault n 2)
       else t = s) ∧
     (Answers (.doorVbusFault n) s fun t =>
       if s.doorLive n then
         t.doorCode n = 9 ∧ t.hasFlt b 4 = true ∧ (t.doorAt n).stage = .idle ∧ (t.doorAt n).coastAt = some s.till ∧
           (s.hasFlt b 4 = false → s.Raised t Ev.doorFault n 4)
       else t = s) ∧
     (Answers (.doorCoastEnd n) s fun t =>
       if s.doorCode n == 9 && (s.doorAt n).coastAt.isSome then
         (t.doorAt n).stage = .off ∧ (t.doorAt n).coastAt = none ∧ s.OnlyRegs { t with doors := s.doors } []
       else t = s)) ∧
  (∀ s : State, s.Inv → ∀ n : Fin 2,
     let b := Acct.doorPort n
     (Answers (.doorEnableSettle n) s fun t =>
       if s.doorLive n && s.doorCode n == 0xF then
         t.doorCode n = (if !s.learned n then 0xB else if s.contactOk n then 1 else 8) ∧
           s.Raised t Ev.doorState n (t.doorCode n) ∧ (s.learned n = true → t.homed n = s.contactOk n)
       else t = s) ∧
     (Answers (.dwellExpiry n) s fun t =>
       if s.doorLive n && s.doorCode n == 3 && (s.doorAt n).dwell && s.rf (Reg.doorTimes n) 0 8 != 0 then
         (s.doorHeldOff n = true → t.doorCode n = 3 ∧ s.Raised t Ev.doorCmdDrop n 4) ∧
           (s.doorHeldOff n = false → (t.doorAt n).dwell = false ∧
             if s.closeBlocked n then t.doorCode n = 3 ∧ t.closePending n = true
             else t.doorCode n = (if s.nudgeFlag n then 6 else 4) ∧ t.closePending n = false ∧ (t.doorAt n).stage = .drive)
       else t = s) ∧
     (Answers (.holdTimeExpiry n) s fun t =>
       if s.doorCode n == 7 && (match (s.doorAt n).hold with | some x => x != 0 | none => false) then
         t.doorCode n = 3 ∧ (t.doorAt n).dwell = true ∧ (t.doorAt n).hold = none ∧ s.Raised t Ev.doorState n 3
       else t = s) ∧
     (Answers (.doorStall n) s fun t =>
       let d := s.doorAt n
       if s.doorLive n && [2, 4, 6].contains (s.doorCode n) && State.slow5 d.spd &&
           (decide (20000 ≤ d.vref) || decide (d.vref ≤ -20000)) then
         t.doorCode n = 8 ∧ t.hasFlt b 7 = true ∧ (t.doorAt n).stage = .idle ∧ (t.doorAt n).vref = 0 ∧
           t.rf (Reg.doorCnt n) 16 16 = satN 65535 (s.rf (Reg.doorCnt n) 16 16 + 1) ∧ s.Raised t Ev.doorStall n 0
       else t = s) ∧
     (Answers (.doorEnergy n) s fun t =>
       if s.doorLive n && (s.doorCode n == 4 || s.doorCode n == 6) &&
           decide (110 * s.rf (Reg.doorLimits n) 8 8 < s.rf (Reg.doorEnergy n) 0 16) then
         (t.doorAt n).energy = true ∧ t.hasFlt b 8 = true ∧ s.Raised t Ev.doorEnergy n 0 ∧ s.RegsBut t [b + 0x10]
       else t = s) ∧
     (Answers (.contactTimeout n) s fun t =>
       if s.doorLive n && (s.doorAt n).contactWait && !s.contactOk n then
         t.doorCode n = 8 ∧ (t.doorAt n).contactWait = false ∧ s.Raised t Ev.doorStall n 2
       else t = s) ∧
     (Answers (.doorLockFail n) s fun t =>
       if s.doorLive n && s.doorCode n == 1 && (s.doorAt n).lockWait && !s.lockOk n then
         (t.doorAt n).lockWait = false ∧ t.hasFlt b 10 = true ∧ t.doorCode n = 1 ∧ s.Raised t Ev.doorLockFail n 0
       else t = s) ∧
     (Answers (.nudgePauseExpiry n) s fun t =>
       if s.doorLive n && s.doorCode n == 6 && (s.doorAt n).paused then
         (t.doorAt n).paused = false ∧ s.OnlyRegs { t with doors := s.doors } []
       else t = s) ∧
     (Answers (.obstructionTimeExpiry n) s fun t =>
       if s.doorLive n && (s.doorAt n).obstSince.isSome && s.rf (Reg.doorNudge n) 8 8 != 0 && !s.nudgeFlag n then
         t.nudgeFlag n = true ∧ s.Raised t Ev.doorNudge n 2 ∧ s.Touches t [Reg.doorState n]
       else t = s))

/-- The learn runs and the long commands end: a completed DOOR_LEARN stores what it measured and closes, one that failed
keeps its reason; a completed LANDING_LEARN stores the landings it found, one that failed sets learn_fail and leaves the
table; the erase that FW_STAGE waits for lets it program its part; a long command out of time completes with TIMEOUT (R149,
R150, R231, R483, R554, R559). -/
def Obligations.LearnsAndLongCommandsEnd : Prop :=
  ∀ s : State, s.Inv →
    (∀ (n : Fin 2) (m : DoorMeasure), Answers (.doorLearnEnd n m) s fun t =>
      match s.longOf (.door n) with
      | none => t = s
      | some l =>
        if s.doorCode n = 0xA ∧ s.learnReason n m = 0 ∧ m.programOk = true then
          t.Completed l.cmd (.ok 0) ∧ t.r (Reg.doorTravel n) = wOf m.travel ∧ t.learned n = true ∧ t.doorCode n = 1 ∧
            t.homed n = true
        else
          let why := if s.doorCode n ≠ 0xA then 6 else s.learnReason n m
          t.Completed l.cmd { (if why = 6 ∨ why = 0 then Reply.hwFault 0 else .badState) with result := wOf why } ∧
            t.hasFlt (Acct.doorPort n) 9 = true ∧ t.r (Reg.doorTravel n) = s.r (Reg.doorTravel n)) ∧
    (∀ ok, Answers (.learnRunEnd ok) s fun t =>
      match s.learn, s.longOf .profileEngine with
      | some l, some g =>
        if s.runState = 9 ∨ (s.runState = 8 ∧ s.prf.seqStep ≠ 0) then t = s
        else
          t.learn = none ∧ (s.runState = 8 → t.runState = 0) ∧
            if State.learnWhy l = 0 ∧ ok = true then
              t.Completed g.cmd (.ok (State.learnResult l 0)) ∧
                ∀ i p w, i < 256 → (State.learnLandings l)[i]? = some (p, w) →
                  t.r (Reg.ltPos i) = wOfInt p ∧ t.rf (Reg.ltAttr i) 0 19 = w % 2 ^ 19 ∧ t.rb (Reg.ltAttr i) 24 = true
            else
              t.Completed g.cmd (if State.learnWhy l = 4 ∨ State.learnWhy l = 0 then Reply.hwFault (State.learnResult l (State.learnWhy l))
                else .badState (State.learnResult l (State.learnWhy l))) ∧
                t.hasFlt Acct.landingTable 0 = true ∧ ∀ i < 256, t.r (Reg.ltPos i) = s.r (Reg.ltPos i)
      | _, _ => t = s) ∧
    (∀ ok, Answers (.slotEraseDone ok) s fun t =>
      match s.tel.longs.find? fun l => l.cmd.opcode == 0x0C05 with
      | none => t = s
      | some l =>
        if s.hasGrant 0x51 then
          t.hasGrant 0x51 = false ∧
            if ok then t.slotOf (!s.mint.runB) = .bytes (l.keep.drop 4) else t.slotOf (!s.mint.runB) = s.slotOf (!s.mint.runB)
        else t = s) ∧
    ∀ u, Answers (.longCommandTimeout u) s fun t =>
      match s.longOf u with
      | none => t = s
      | some l =>
        (([.mint, .stagingSlot, .ledger] : List LongUnit).contains u = true → t.Completed l.cmd .timeout) ∧
          (u = .ledger → t.ldg.releasing = false) ∧ (u = .stagingSlot → t.hasRequest 0x51 = false ∧ t.hasGrant 0x51 = false) ∧
          (u = .profileEngine → ∀ x, s.learn = some x →
            t.Completed l.cmd (.timeout (State.learnResult x 5)) ∧ t.learn = none ∧ t.hasFlt Acct.landingTable 0 = true) ∧
          (∀ n : Fin 2, u = .door n → t.hasFlt (Acct.doorPort n) 9 = true ∧ t.doorCode n ≠ 0xA ∧
            t.Completed l.cmd (Reply.timeout (wOf 7)))

/-- A Comptroller cycle: a function that demands and is not latched yet is latched, counts, is told, records its path time
and leads to TRIPPED with the trip group off; without a new demand READY, RUN_PERMITTED and PARKED follow the door chain,
the peer and the runs asked for; SAFE_EDM, the states of the inputs and the door permissions are shown (R241, R243, R244,
R250, R257, R260, R274 to R276). -/
def Obligations.SafetyCycle : Prop :=
  ∀ (s : State) (path : BitVec 16), s.Inv →
    (s.cptRuns = false → Answers (.safeCycle path) s (· = s)) ∧
    (s.cptRuns = true → Answers (.safeCycle path) s fun t =>
      let l := s.latch
      let fresh (k : Nat) : Prop := k < 8 ∧ l.demands k = true ∧ nbit s.latchedCauses k = false
      t.rf Reg.safeEdm 0 8 = 255 - s.cpt.on % 256 ∧ t.rf Reg.safeState 0 4 = (if t.cpt.st = s.cpt.st then s.rf Reg.safeState 0 4
          else safeCode t.cpt.st) ∧
        (∀ k < 8, t.rb Reg.safeCause k = l.demands k) ∧ t.rb Reg.safeState 4 = t.inspNow ∧ t.rb Reg.safeState 5 = t.recallNow ∧
        (∀ k, fresh k → nbit t.latchedCauses k = true ∧ t.cpt.on = 0 ∧ t.rf Reg.tnDelay 0 16 = path.toNat ∧
          (s.cpt.st ≠ .startPending → s.cpt.st ≠ .lockout → t.cpt.st = .tripped) ∧
          t.rf (Acct.safetyFunction k + 0x14) 0 32 = satN 0xFFFFFFFF (s.rf (Acct.safetyFunction k + 0x14) 0 32 + 1) ∧
          (s.tel.noticed = true → s.Raised t Ev.safeTrip 0 k)) ∧
        ((∀ k, ¬fresh k) →
          (s.cpt.st = .tripped ∨ s.cpt.st = .lockout → t.cpt.st = s.cpt.st) ∧
            (s.cpt.peerChanged = false → l.scRestricts = false →
              (s.cpt.st = .ready → t.cpt.st = if l.chainClosed && l.peerUp then .runPermitted else .ready) ∧
                (s.cpt.st = .runPermitted → t.cpt.st = if !l.chainClosed && l.stillNow then .ready else .runPermitted) ∧
                (s.cpt.st = .parked → t.cpt.st = if !l.chainClosed then .ready else if l.runAsked then .runPermitted else .parked))))

/-- The Comptroller's monitors and timers: a deviating EDM input leads to LOCKOUT; lost requests, a wrong set in memory and
a sequence or core fault are causes of their own, the last two with a reset; a cause whose monitor clears is no longer
active; park_delay leads to PARKED; a proof test that is due is told; the staging of a set expires (R239, R242, R243, R257,
R258, R260, R267, R269, R270, R273). -/
def Obligations.SafetyMonitorsAct : Prop :=
  ∀ s : State, s.Inv →
    let trips (t : State) (i : Nat) : Prop :=
      nbit t.activeCauses i = true ∧ nbit t.latchedCauses i = true ∧
        (nbit s.latchedCauses i = false → t.cpt.on = 0 ∧
          (s.cpt.st ≠ .startPending → s.cpt.st ≠ .lockout → t.cpt.st = .tripped) ∧
          (s.tel.noticed = true → s.Raised t Ev.safeTrip 0 (if i < 8 then i else 8 + i)))
    (∀ k : Fin 8, Answers (.edmTimeout k) s fun t =>
      if s.cptRuns && (match s.edmInput k with | some n => s.inLevel n == s.cptOn k | none => false) then
        let f := if s.outRole k = 2 then 5 else 4
        t.cpt.st = .lockout ∧ t.cpt.on = 0 ∧ t.vault.lockout = true ∧ t.vault.lockoutOut = k ∧
          t.hasFlt (Acct.safetyFunction f) 3 = true ∧ t.rf Reg.safeEdm 24 3 = k ∧ nbit t.latchedCauses f = true ∧
          (s.tel.noticed = true → s.Raised t Ev.safeLockout f k)
      else t = s) ∧
    (Answers .reqLost s fun t =>
      if s.cptRuns && decide (2 ≤ s.cpt.missed) && (s.outsRole 1 ++ s.outsRole 2).any s.cptOn then trips t 13 else t = s) ∧
    (Answers .paramCrcCheck s fun t =>
      let b := s.cpt.set
      if s.cptRuns && s.setValid && crc32c (b.take (b.length - 4)) != wordAt b (b.length - 4) then
        t.hasFlt Acct.comptroller 0 = true ∧ trips t 12
      else t = s) ∧
    (Answers .parkDelayExpiry s fun t =>
      if s.cptRuns && s.cpt.st == .runPermitted && s.stillNow && s.chainClosed && s.contactorsFree then
        t.cpt.st = .parked ∧ t.rf Reg.safeState 0 4 = 3 ∧ (s.tel.noticed = true → s.Raised t Ev.safeState 0 3)
      else t = s) ∧
    (Answers .proofTestDue s fun t =>
      if s.cptRuns && decide (365 < s.vault.proofDays) then
        (s.tel.noticed = true → s.Raised t Ev.safeProof 0 2) ∧ s.RegsBut t [] ∧ t.cpt.st = s.cpt.st
      else t = s) ∧
    (Answers .safeParamStagingExpiry s fun t =>
      t.cpt.staged = [] ∧ t.cpt.stagedTotal = 0 ∧ t.cpt.set = s.cpt.set ∧ s.OnlyRegs { t with cpt := s.cpt } []) ∧
    (Answers .supplyCauseClear s fun t =>
      if s.supplyGone then t.rb Reg.safeCause 8 = false ∧ s.OnlyRegs t [Reg.safeCause] else t = s) ∧
    ∀ i, i = .sequenceOverrun ∨ i = .lockstepMismatch true ∨ i = .lockstepMismatch false → Answers i s fun t =>
      if s.cptRuns then
        t.rst.phase = .inReset ∧ t.rst.full = true ∧ t.cpt.on = 0 ∧ t.cpt.st = .startPending ∧
          (s.rst.phase = .running → t.rst.kind = .cwd ∧ t.vault.gen = (s.vault.gen + 1) % 65536 ∧ t.vault.causes % 16 = 5)
      else t = s

/-- The inputs: a tick filters each enabled input, which is read where no fault forces it, and a disabled input reads 0; in
HUSH only the other samples count, and members of pairs hold; a pair that disagrees for its time, or whose channel has a
fault, goes to PAIR_FAULT with value 0, and leaves RECOVER in AGREED with value 0; a source's pulses show, and its faults
are told (R280 to R290, R311). -/
def Obligations.InputsAreFiltered : Prop :=
  ∀ s : State, s.Inv →
    (∀ raw : BitVec 48, Answers (.inputTick raw) s fun t =>
      if s.pwr = .hush then t = s
      else
        t.r Reg.inRawL = wOf raw.toNat ∧
          ∀ n < 48,
            (s.inEn n = false → t.inLevel n = false) ∧
              (s.inEn n = true → t.inLevel n = (nbit t.fio.filt n && !t.inForced n) ∧
                nbit t.fio.filt n =
                  (if s.rawIn raw.toNat n ≠ nbit s.fio.filt n ∧ s.filtTicks n ≤ s.fio.cnt.getD n 0 then s.rawIn raw.toNat n
                   else nbit s.fio.filt n))) ∧
    (∀ raw : BitVec 48, Answers (.hushInputSample raw) s fun t =>
      if s.pwr = .hush then
        t.r Reg.inRawL = wOf raw.toNat ∧ ∀ n < 48, s.inPaired n = true → t.inLevel n = s.inLevel n
      else t = s) ∧
    (∀ k : Fin 8, Answers (.pairDisc k) s fun t =>
      if s.consolidated (Acct.sp k) && s.en (Acct.sp k) &&
          ((decide (s.pairState k < 2) && s.pairChanFault k) || s.pairState k == 1) then
        t.pairState k = 2 ∧ t.pairVal k = false ∧
          s.Raised t Ev.pairDisc k (if s.pairState k < 2 ∧ s.pairChanFault k = true then 1 else 0) ∧
          ∀ f ∈ s.pairUsers k, t.hasFlt (Acct.safetyFunction f) 1 = true
      else t = s) ∧
    (∀ k : Fin 8, Answers (.pairRecover k) s fun t =>
      if s.consolidated (Acct.sp k) && s.en (Acct.sp k) && s.pairState k == 3 then
        t.pairState k = 0 ∧ t.pairVal k = false ∧ s.Raised t Ev.pairRecover k 0 ∧ s.Touches t [Acct.sp k + 0xC, Reg.inStateH]
      else t = s) ∧
    (∀ (n : Fin 4) (start : Bool), Answers (.tpoPulse n start) s fun t =>
      if s.pwr != .hush && s.tpoPulses n then
        t.rb Reg.tpStat (4 + n) = start ∧ t.rb (Acct.tpc n + 0xC) 9 = start ∧
          s.OnlyRegs t [Reg.tpStat, Acct.tpc n + 0xC, Acct.tpc n + 0x14]
      else t = s) ∧
    ∀ n : Fin 4, (Answers (.tpoFault n .overload) s fun t =>
        if s.rb Reg.tpStat n then
          t.rb Reg.tpStat n = false ∧ t.hasGrant (0x30 + n) = false ∧ t.hasFlt (Acct.tpc n) 1 = true ∧ s.Raised t Ev.tpoFault n 1
        else t = s) ∧
      Answers (.tpoFault n .pulse) s fun t =>
        if s.rb Reg.tpStat n && s.tpoPulses n then
          t.hasFlt (Acct.tpc n) 2 = true ∧ s.Raised t Ev.tpoFault n 2 ∧ s.Touches t [Acct.tpc n + 0x10]
        else t = s

/-- The outputs' faults: a slot shows the readbacks, changes no fault where every member reads low, and sets stuck or cross
for a member that reads high; an overload, a thermal cut-off and a gang's share latch the unit off, or trip where the
output is a SAFETY output; an open load is only told; a lost coupler forces its channel (R297 to R304). -/
def Obligations.OutputFaultsReact : Prop :=
  ∀ s : State, s.Inv →
    (∀ (n : Fin 32) (rb : BitVec 32) (before atCheck : List Nat), Answers (.darkPulseSlot n rb before atCheck) s fun t =>
      let ms := s.unitOuts (s.unitOf n)
      if ms.headD n = n.val then
        t.r Reg.outRb = wOf rb.toNat ∧
          ((∀ m ∈ ms, nbit rb.toNat m = false) → s.RegsBut t (Reg.outRb :: ms.map fun m => State.outBase m + 0xC)) ∧
          (ms.all s.outOn = false ∨ (s.dpEn n = true ∧ nbit s.fio.restored n = false) →
            ∀ m ∈ ms, nbit rb.toNat m = true → t.hasFlt (State.outBase m) 1 = true ∨ t.hasFlt (State.outBase m) 2 = true)
      else t = s) ∧
    (∀ (n : Fin 32) i bitNo, (i, bitNo) ∈ [(Instr.outOverload n, 3), (.outThermal n, 4)] → Answers i s fun t =>
      if s.outOn n then
        t.hasFlt (State.outBase n) bitNo = true ∧
          (s.hasFlt (State.outBase n) bitNo = false → s.Raised t Ev.outFault n bitNo) ∧
          (s.safetyOut n = false → t.outOn n = false ∧ t.rb Reg.outCmd n = false ∧ t.rb Reg.outLatch n = true ∧
            s.Raised t Ev.outLatch n bitNo) ∧
          (s.safetyOut n = true → nbit t.latchedCauses (s.ownerOf n) = true ∧
            t.hasFlt (Acct.safetyFunction (s.ownerOf n)) 2 = true ∧
            (nbit s.latchedCauses (s.ownerOf n) = false → t.cpt.on = 0))
      else t = s) ∧
    (∀ n : Fin 32, Answers (.outOpenLoad n) s fun t =>
      if s.outOn n && s.rb (Reg.outCfg n) 25 && decide (2 ≤ s.rf (Reg.outCfg n) 2 6) then
        t.hasFlt (State.outBase n) 5 = true ∧ t.outOn n = true ∧ s.Touches t [State.outBase n + 0x10] ∧
          (s.hasFlt (State.outBase n) 5 = false → s.Raised t Ev.outFault n 5)
      else t = s) ∧
    (∀ (k : Fin 16) (m : Fin 32), Answers (.gangShare k m) s fun t =>
      if s.gangOf m == some k.val && s.outOn m then
        t.hasFlt (Acct.gp k) 0 = true ∧ (s.hasFlt (Acct.gp k) 0 = false → s.Raised t Ev.gangShare k m) ∧
          (s.safetyOut m = false → t.outOn m = false ∧ t.rb Reg.outLatch m = true ∧ s.Raised t Ev.outLatch m 3) ∧
          (s.safetyOut m = true → nbit t.latchedCauses (s.ownerOf m) = true)
      else t = s) ∧
    (∀ n, Answers (.couplerLoss (.input n)) s fun t =>
      t.hasFlt (State.inBase n) 3 = true ∧ t.inLevel n = false ∧
        (s.hasFlt (State.inBase n) 3 = false → s.Raised t Ev.inFault n 3)) ∧
    (∀ n, Answers (.couplerLoss (.capture n)) s (· = s)) ∧
    (∀ n, Answers (.couplerLoss (.output n)) s fun t =>
      t.hasFlt (State.outBase n) 6 = true ∧ t.outOn n = false ∧
        (s.hasFlt (State.outBase n) 6 = false → s.Raised t Ev.outFault n 6)) ∧
    ∀ n, Answers (.couplerLoss (.testpulse n)) s fun t =>
      t.rb Reg.tpStat n = false ∧ t.rb Reg.tpStat (4 + n) = false ∧ t.hasFlt (Acct.tpc n) 3 = true ∧
        (s.hasFlt (Acct.tpc n) 3 = false → s.Raised t Ev.tpoFault n 3)

/-- The Purse: a decision takes the measured currents and grants the first field request that fits; a restore grants the
first shed unit whose conditions stayed clear; a measured current above the grants is a deficit; an inrush share ends
(R296, R407, R410, R411, R414). The supplies: a VF sample shows its mean and moves the level through each threshold that it
crosses, the lowest with the trip of cause SUPPLY; the other supplies set their fault, and V5 and the core rail trip; a
sensor feed at its limit switches off (R394, R396, R409). -/
def Obligations.PowerIsGranted : Prop :=
  (∀ s : State, s.Inv →
     (∀ a b : BitVec 16, Answers (.purseDecision a b) s fun t =>
       t.rf (Reg.purseMeas 0) 0 16 = a.toNat ∧ t.rf (Reg.purseMeas 1) 0 16 = b.toNat ∧
         ∀ q rest, State.grantOrder (s.purseAt 0).waits = q :: rest → s.isShed q.id = false →
           s.granted 0 + State.reqAmount q ≤ s.budget 0 → s.scHolds 0 q = false → s.blocks 0 q.cls = false → s.staggered 0 = false →
           State.unitLedger q.id = 0 →
           t.hasGrant q.id = true ∧ t.hasRequest q.id = false ∧
             t.rf (Acct.purse 0 + 0x14) 0 32 = satN 0xFFFFFFFF (s.rf (Acct.purse 0 + 0x14) 0 32 + 1)) ∧
     (Answers .purseRestore s fun t =>
       match s.restoreList with
       | q :: _ => State.unitLedger q.id = 0 → t.hasGrant q.id = true ∧ t.isShed q.id = false ∧ t.hasRequest q.id = false ∧
           s.Raised t Ev.purseRestore 0 (q.id % 256)
       | [] => t = s) ∧
     (∀ k : Fin 2, Answers (.overMeasure k) s fun t =>
       if 10 * s.granted k + s.purseLim k < 10 * s.rf (Reg.purseMeas k) 0 16 then
         t.hasFlt (Acct.purse k) 2 = true ∧ s.Raised t Ev.purseDeficit k 1 ∧ s.Touches t [Acct.purse k + 0x10]
       else t = s) ∧
     ∀ id : Fin 256, Answers (.inrushEnd id) s fun t =>
       let k := State.unitLedger id
       t.granted k ≤ s.granted k ∧ (t.purseAt k).waits = (s.purseAt k).waits ∧
         (t.purseAt k).grants.map (·.id) = (s.purseAt k).grants.map (·.id) ∧
         (∀ g, (s.purseAt k).grants = [g] → g.id = id.val → ∀ p, g.inrush = [p] →
           (t.purseAt k).grants = [{ g with inrush := [] }] ∧ t.granted k = g.load)) ∧
  (∀ s : State, s.Inv →
     (∀ v : BitVec 16, s.vfLevel ≤ 4 → Answers (.vfSample v) s fun t =>
       let f := t.vfFiltered
       t.vf = (v.toNat :: s.vf).take 20 ∧ t.rf (Reg.supVf 0) 0 16 = f % 65536 ∧
         (∀ l, 1 ≤ l → l ≤ 4 → (f ≤ State.vfFall l → l ≤ t.vfLevel) ∧ (State.vfClear l < f → t.vfLevel < l)) ∧
         (∀ l, 1 ≤ l → l ≤ 4 → s.vfLevel < l → f ≤ State.vfFall l → s.Raised t Ev.vfLevel 0 l) ∧
         (s.vfLevel < 4 → f ≤ State.vfFall 4 → nbit t.latchedCauses 8 = true ∧ t.cpt.on = 0)) ∧
     (∀ (v : BitVec 16) k bitNo, (k, bitNo) ∈ [(SupplyKind.v5, 0), (.coreRail, 1), (.vbatLow, 2), (.vfOver, 3), (.vddLow, 6)] →
       Answers (.supplyFault k v) s fun t =>
         t.hasFlt Acct.supplyMonitor bitNo = true ∧ s.Raised t Ev.supplyFault 0 (bitNo + 1) ∧
           (bitNo < 2 → nbit t.activeCauses 8 = true ∧ nbit t.latchedCauses 8 = true ∧
             (nbit s.latchedCauses 8 = false → t.cpt.on = 0)) ∧
           (bitNo = 0 → t.rf (Reg.supVf 1) 0 16 = v.toNat) ∧ (bitNo = 2 → t.rf (Reg.supVf 3) 0 16 = v.toNat) ∧
           (bitNo = 6 → t.rf (Reg.supVf 2) 0 16 = v.toNat)) ∧
     ∀ k : Fin 2, Answers (.sensOvercurrent k) s fun t =>
       if s.rb Reg.supStat (16 + k) then
         t.rb Reg.supStat (16 + k) = false ∧ t.hasGrant (0x40 + k) = false ∧ t.hasFlt Acct.supplyMonitor (4 + k) = true ∧
           s.Raised t Ev.supplyFault 0 (5 + k)
       else t = s)

/-- The clocks: a window that finds a clock out sets its fault, tells it and trips with cause CLOCK, and a good one ends
the cause; the vault crystal's stop is told and trips, its return ends the cause; the loss of the PLL's lock resets; the
Auditor's comparison shows each deviation (R391 to R393, R419). The ways out of DOZE and HUSH: RUN again, shown with the
cause of the wake where it was HUSH, and told (R398, R401). -/
def Obligations.ClocksAndPowerStates : Prop :=
  (∀ s : State, s.Inv →
     (∀ counts : List Nat, counts.length = 7 → Answers (.clockWindow counts) s fun t =>
       if s.clocksRun && s.xtalOk then
         t.rf (Acct.clockMonitor + 0x14) 0 32 = satN 0xFFFFFFFF (s.rf (Acct.clockMonitor + 0x14) 0 32 + 1) ∧
           (∀ i < 7, State.clockBad i (counts.getD i 0) = true → t.hasFlt Acct.clockMonitor (i + 1) = true ∧
             (s.hasFlt Acct.clockMonitor (i + 1) = false → s.Raised t Ev.clkFault 0 i) ∧
             (s.cptRuns = true → nbit t.activeCauses 9 = true ∧ nbit t.latchedCauses 9 = true)) ∧
           (s.cptRuns = true → (∀ i < 7, State.clockBad i (counts.getD i 0) = false) →
             nbit t.activeCauses 9 = false ∧ s.OnlyRegs t [Acct.clockMonitor + 0x14, Reg.safeCause])
       else t = s) ∧
     (Answers .vaultXtalStop s fun t =>
       if s.clocksRun && s.xtalOk then
         t.xtalOk = false ∧ t.hasFlt Acct.clockMonitor 8 = true ∧ s.Raised t Ev.clkFault 0 7 ∧
           (s.cptRuns = true → nbit t.latchedCauses 9 = true)
       else t = s) ∧
     (Answers .vaultXtalResumed s fun t =>
       if s.clocksRun && !s.xtalOk then
         t.xtalOk = true ∧ nbit t.activeCauses 9 = false ∧ s.OnlyRegs t [Reg.clkStat, Reg.vaultStat, Reg.safeCause]
       else t = s) ∧
     (Answers .pllLoss s fun t =>
       if s.pwr = .vault ∨ s.rst.phase = .inReset ∨ s.rst.phase = .noPll then t = s
       else t.rst.phase = .inReset ∧ t.rst.kind = .cwd ∧ t.rst.full = true ∧ t.vault.gen = (s.vault.gen + 1) % 65536 ∧
         t.vault.causes % 16 = 5 ∧ t.cpt.on = 0) ∧
     ∀ devs : List Int, devs.length = 7 → Answers (.clockCrossCheck devs) s fun t =>
       if s.audRuns 1 && s.xtalOk then
         ∀ i < 7, t.rf (Reg.clkDev i) 0 16 = ((clampI (-32768) 32767 (devs.getD i 0)) % 65536).toNat ∧
           (5000 < (devs.getD i 0).natAbs → t.hasFlt Acct.clockMonitor (i + 1) = true)
       else t = s) ∧
  (∀ s : State, s.Inv →
     (Answers .dozeWake s fun t =>
       if s.pwr = .doze then
         t.pwr = .run ∧ t.rf Reg.pwrStat 0 2 = 0 ∧ s.Raised t Ev.pwrState 0 0 ∧ s.RegsBut t [Reg.pwrStat]
       else t = { s with port := t.port }) ∧
     (∀ cause : Fin 10, Answers (.hushWake cause) s fun t =>
       if s.pwr = .hush ∧ cause.val ≠ 0 then
         t.pwr = .run ∧ t.rf Reg.pwrStat 0 2 = 0 ∧ t.rf Reg.pwrStat 4 4 = cause ∧ t.ldg.hush = []
       else t = s) ∧
     ∀ n : Fin 4, Answers (.canWake n) s fun t =>
       if s.pwr = .hush ∧ (s.runs (Acct.canc n) && s.en (Acct.canc n) && s.rb (Reg.canCfg n) 3) = true then
         t.pwr = .run ∧ t.rf Reg.pwrStat 0 2 = 0 ∧ t.rf Reg.pwrStat 4 4 = 5
       else t = s)

/-- The banks: a stall is measured, and a long one of a hard real-time requester is told; the strongroom's refusals are
flagged; a March pass ends with its registers, its event and its completion; the Auditor's passes move the round on, and a
failing row of B04 trips with cause CORE; the scrub counts its passes, corrects single errors and flags double ones, which
act on the bank's unit (R421, R422, R429, R435, R438, R443 to R445). -/
def Obligations.BanksAreTested : Prop :=
  ∀ s : State, s.Inv →
    (∀ (k : Fin 27) (p : Fin 9) (cy : BitVec 16), Answers (.bankStall k p cy) s fun t =>
      t.rf (Reg.bankStall k) 16 16 = Nat.max (s.rf (Reg.bankStall k) 16 16) cy.toNat ∧
        if 1 ≤ p.val ∧ p.val ≤ 4 ∧ 64 < cy.toNat then
          t.rf (Reg.bankStall k) 0 16 = satN 65535 (s.rf (Reg.bankStall k) 0 16 + 1) ∧ t.hasFlt (Acct.bank k) 2 = true ∧
            s.Raised t Ev.bankStall k p ∧ s.Touches t [Reg.bankStall k, Acct.bank k + 0x10]
        else s.OnlyRegs t [Reg.bankStall k]) ∧
    (∀ k : Fin 2, Answers (.srAccessRefused k) s fun t =>
      t.hasFlt (Acct.bank (24 + k)) 6 = true ∧ s.Raised t Ev.bankEcc (24 + k) 4 ∧ s.Touches t [Acct.bank (24 + k) + 0x10]) ∧
    (∀ words, Answers (.marchDone words) s fun t =>
      match s.marchNow with
      | none => t = s
      | some l =>
        let k := State.marchBank l.cmd
        t.Completed l.cmd (.ok (wOf (t.rf Reg.marchLast 16 8 + (if t.rb Reg.marchLast 9 then 256 else 0)))) ∧
          t.hasGrant (0x60 + k) = false ∧ t.rf Reg.marchCnt 0 16 = satN 65535 (s.rf Reg.marchCnt 0 16 + 1) ∧
          s.Raised t Ev.marchDone 0 ((s.bankHalves k).headD 0) ∧
          (words = [] → t.rb Reg.marchLast 8 = true ∧ t.rf Reg.marchCnt 16 16 = s.rf Reg.marchCnt 16 16) ∧
          ((∃ w ∈ words, w < 16384) → t.rb Reg.marchLast 8 = false ∧ t.hasFlt Acct.marchEngine 1 = true ∧
            t.rf Reg.marchCnt 16 16 = satN 65535 (s.rf Reg.marchCnt 16 16 + 1) ∧
            s.Raised t Ev.marchFail 0 ((s.bankHalves k).headD 0))) ∧
    (∀ words, State.wordsIn words 1 = true → Answers (.preservingMarchB04 words) s fun t =>
      (s.rst.phase ≠ .running → t = s) ∧
        (s.rst.phase = .running → s.audRuns 2 = true → s.unitHeld (State.bankUnits [4]) = false → s.hasGrant 0x64 = true →
          t.rf Reg.marchRound 16 16 = 0 ∧ t.hasGrant 0x64 = false ∧ s.Raised t Ev.marchDone 0 4 ∧
            (words = [] → s.rb (Reg.bankRepair 4) 25 = false → nbit t.activeCauses 10 = false) ∧
            (words ≠ [] → t.rb (Reg.bankRepair 4) 25 = true ∧ nbit t.latchedCauses 10 = true))) ∧
    (Answers .b04MarchOverdue s fun t =>
      if s.cptRuns && s.rst.phase == .running && decide (20 ≤ s.rf Reg.marchRound 16 16) then
        nbit t.activeCauses 10 = true ∧ nbit t.latchedCauses 10 = true ∧ t.hasFlt Acct.marchEngine 0 = true
      else t = s) ∧
    (∀ words, State.wordsIn words 2 = true → Answers (.preservingMarchRound words) s fun t =>
      (s.rst.phase ≠ .running → t = s) ∧
        ∀ k, s.rst.phase = .running → s.roundBank = some k → s.audRuns 5 = true →
          s.unitHeld (State.bankUnits (s.bankHalves k)) = false → s.hasGrant (0x60 + k) = true →
          t.hasGrant (0x60 + k) = false ∧ s.Raised t Ev.marchDone 0 k ∧
            t.rf Reg.marchRound 0 5 = (State.roundFrom (k + (s.bankHalves k).length)).headD 0) ∧
    ∀ singles doubles : List (Fin 27 × Nat), (∀ p ∈ singles ++ doubles, p.2 < 16384) →
      Answers (.eccScrub singles doubles) s fun t =>
        (s.audRuns 3 = false → t = s) ∧
          (s.audRuns 3 = true →
            (doubles = [] → ∀ k < 27, s.bankPwrNow k = 0 → t.rf (Reg.bankScrub k) 0 16 = 0 ∧
              t.rf (Reg.bankScrub k) 16 16 = satN 65535 (s.rf (Reg.bankScrub k) 16 16 + 1)) ∧
            (∀ k w, doubles = [] → singles = [(k, w)] → s.bankPwrNow k = 0 →
              t.rf (Reg.bankEcc k) 0 16 = satN 65535 (s.rf (Reg.bankEcc k) 0 16 + 1)) ∧
            (∀ k w, doubles = [(k, w)] → s.bankPwrNow k = 0 →
              (s.bankUnit k = 0 → t.hasFlt (Acct.bank k) 1 = true ∧ s.Raised t Ev.bankEcc k 2) ∧
                (s.bankUnit k = 1 → t.rst.phase = .inReset ∧ t.rst.kind = .wdt ∧ t.rst.full = false) ∧
                (s.bankUnit k = 2 → t.rst.phase = .inReset ∧ t.rst.kind = .cwd ∧ t.rst.full = true) ∧
                (s.bankUnit k = 3 → t.hasFlt Acct.auditorCore 4 = true)))

/-- The Ledger at work: an arriving event takes its place, or is dropped and counted where its class leaves it no room; a
commit stores the record with the next sequence number, one that fails leaves a torn slot; an erase is asked for below four
erased sectors, starts with its grant, and leaves its sector erased or retired; the summary of drops and the end of a
freeze are told (R451, R457, R458, R460, R462, R463, R466, R470). -/
def Obligations.LedgerKeepsRecords : Prop :=
  ∀ s : State, s.Inv →
    let works := s.ldg.running && s.ldg.frozen.isNone && s.pwr != .hush && s.rst.phase == .running
    (∀ (code : BitVec 13) (src : BitVec 16) (detail : Byte), Answers (.ledgerIntakeArrival code src detail) s fun t =>
      match Ev.all.find? fun k => k.code == code.toNat with
      | none => t = s
      | some k =>
        s.Raised t k src.toNat detail.toNat ∧ s.RegsBut t [] ∧
          (s.rst.phase = .running → s.pwr ≠ .hush → s.classTaken k.cls = true → classKept k.cls = false → k.cls ≠ .info →
            224 ≤ s.intakeFill → s.scRing 5 = false → t.ldg.intake = s.ldg.intake ∧ bit t.ldg.flt 1 = true ∧
              (t.queue 5).lost = satN 0xFFFF ((s.queue 5).lost + 1))) ∧
    (∀ ok, Answers (.ledgerCommit ok) s fun t =>
      if works then
        match s.commitIndex.bind fun n => s.ldg.intake[n]? with
        | none => t = s
        | some e =>
          let kept := classKept e.ev.cls
          let p := if kept && !s.toOverflow then 0 else 1
          match s.writeSec p with
          | none => t = s
          | some i =>
            if ok then
              RecSlot.whole s.ldg.nextSeq (recordBytes { e with overflow := kept && p == 1 } s.ldg.nextSeq) ∈ (t.secAt i).slots ∧
                t.ldg.nextSeq = (s.ldg.nextSeq + 1) % 0x100000000
            else RecSlot.torn ∈ (t.secAt i).slots ∧ t.ldg.nextSeq = s.ldg.nextSeq ∧ s.Raised t Ev.ledgerFlash p 1
      else t = s) ∧
    (Answers .ledgerErase s fun t =>
      if works then
        match s.ldg.erase with
        | some x => if x.waiting && s.hasGrant 0x50 then t.ldg.erase = some { x with waiting := false } else t = s
        | none =>
          if 4 ≤ s.erasedIn 1 then t = s
          else match s.oldestErasable with
            | some i => t.ldg.erase = some ⟨i, true, false⟩ ∧ (t.hasRequest 0x50 = true ∨ t.hasGrant 0x50 = true)
            | none => t = s
      else t = s) ∧
    (∀ ok, Answers (.ledgerEraseDone ok) s fun t =>
      match s.ldg.erase with
      | none => t = s
      | some x =>
        if x.waiting then t = s
        else
          (t.secAt x.sector).st = (if ok then .erased else .retired) ∧
            (t.secAt x.sector).erases = (s.secAt x.sector).erases + 1 ∧ (t.secAt x.sector).slots = [] ∧
            (x.forRelease = false → t.ldg.erase = none ∧ t.hasGrant 0x50 = false) ∧
            (x.forRelease = true → s.ldg.releasing = true →
              (∃ k, x.sector < k ∧ t.ldg.erase = some ⟨k, true, true⟩ ∧ t.ldg.releasing = true) ∨
                (t.ldg.releasing = false ∧ t.ldg.released = s.ldg.archLast ∧ s.Raised t Ev.ledgerReleased 0 0))) ∧
    (Answers .ledgerDrop s fun t =>
      if s.ldg.sumArmed && decide (s.intakeFill < 192) && s.pwr != .hush then
        s.Raised t Ev.ledgerDrop 0 s.dropDetail ∧ t.ldg.sumDrops = List.replicate 7 0 ∧
          (s.scRing 5 = false → t.ldg.sumArmed = false) ∧ s.RegsBut t []
      else t = s) ∧
    Answers .freezeTimeout s fun t =>
      if s.ldg.frozen.isSome then t.ldg.frozen = none ∧ s.Raised t Ev.ledgerFreezeEnd 0 1 ∧ s.Touches t [] else t = s

/-- The reset triggers: POWER_ON, with the vault kept or lost, BROWN_OUT with its release and VAULT_ENTRY, nRST, the
Teller's watchdog, the delayed SOFT reset and the lifecycle's (R395, R398, R509 to R515, R520 to R522). -/
def Obligations.ResetsReachTheirScope : Prop :=
  ∀ s : State, s.Inv →
    (Answers (.powerOn true) s fun t => t.rst.phase = .inReset ∧ t.rst.kind = .por ∧ t.rst.full = true ∧ t.pwr = .run ∧ t.regs = [] ∧
      t.vault = { Vault.blank with lost := true, gen := 1, causes := 1 } ∧ t.cpt = Cpt.init ∧ t.ldg.sectors = s.ldg.sectors ∧
      t.par.a = s.par.a ∧ t.par.b = s.par.b ∧ t.mint.slotA = s.mint.slotA ∧ t.jtag = Jtag.init) ∧
    (¬(s.pwr = .vault ∧ s.vault.gen = 0 ∧ s.vault.lost = true) → Answers (.powerOn false) s fun t => t.rst.phase = .inReset ∧
      t.rst.full = true ∧ t.pwr ≠ .vault ∧ t.regs = [] ∧ t.cpt = Cpt.init ∧ t.jtag = Jtag.init ∧
      t.ldg.sectors = s.ldg.sectors ∧ t.vault.rtc = s.vault.rtc ∧ t.vault.lockout = s.vault.lockout ∧ t.vault.tamper = s.vault.tamper ∧
      (s.pwr ≠ .vault → s.rst.phase ≠ .inReset → t.rst.kind = .por ∧ t.vault.gen = (s.vault.gen + 1) % 65536) ∧
      (s.pwr = .vault ∨ s.rst.phase = .inReset → t.vault.gen = s.vault.gen)) ∧
    (Answers .brownOut s fun t => s.ResetBy t .bor ∧ (s.pwr ≠ .vault → t.rst.borHeld = true)) ∧
    (Answers .borRelease s fun t => t = if s.pwr = .vault then s else { s with rst := { s.rst with borHeld := false } }) ∧
    (∀ vbat, Answers (.vaultEntry vbat) s fun t =>
      if s.rst.borHeld = true ∧ s.pwr ≠ .vault then
        t = { s with pwr := .vault, vault := t.vault } ∧ (vbat = true → t.vault = s.vault) ∧
          (vbat = false → t.vault = { Vault.blank with lost := true })
      else t = s) ∧
    (Answers .nrstLow s fun t => s.ResetBy t .pin ∧ (s.pwr ≠ .vault → t.rst.nrst = true)) ∧
    (Answers .tellerWatchdogExpiry s fun t => (s.rst.phase ≠ .running → t = s) ∧ (s.rst.phase = .running → s.ResetBy t .wdt)) ∧
    (Answers .delayedSoftReset s fun t => (s.rst.softDue = false → t = s) ∧ (s.rst.softDue = true → s.ResetBy t .soft)) ∧
    Answers .lifeReset s fun t => (s.rst.lifeDue = false → t = s) ∧ (s.rst.lifeDue = true → s.ResetBy t .life)

/-- RESET_RELEASE: nothing in VAULT, with BOR held or without a reset; without a PLL lock the module waits; otherwise the
straps are taken over and the module runs, or stays in BOOT_HOLD, as after a wipe that failed (R393, R398, R504, R513,
R517); the copies of the repair map are then good again (R441), and a record or safety set whose copies are both bad is
absent (R268, R476). -/
def Obligations.ReleaseBootsTheModule : Prop :=
  ∀ (env : BootEnv) (s : State), s.Inv → Answers (.resetRelease env) s fun t =>
    ((s.pwr = .vault ∨ s.rst.borHeld = true ∨ (s.rst.phase ≠ .inReset ∧ s.rst.phase ≠ .noPll)) → t = s) ∧
      (s.pwr ≠ .vault → s.rst.borHeld = false → s.rst.phase = .inReset ∨ s.rst.phase = .noPll → t.rst.nrst = false ∧
        t.pending = s.pending ∧
          if env.pllLocks then
            t.role = State.roleOf env.role ∧ t.port.hostsel = env.hostsel ∧ t.port.mbusy = false ∧
              (t.rst.phase = .running ∨ t.rst.phase = .bootHold) ∧ (s.banks.wipeFail = true → t.rst.phase = .bootHold) ∧
              (s.rst.full = false → State.roleOf env.role = s.role →
                t.vault.gen = s.vault.gen ∧ t.vault.causes = s.vault.causes) ∧
              t.banks.mapA = true ∧ t.banks.mapB = true ∧ (State.bothBad env .pairRecord = true → t.mint.pairRec = none) ∧
              (State.bothBad env .safetySet = true → s.rst.full = true → t.rst.phase = .running → t.role ≠ .none →
                t.par.set = [])
          else t.rst.phase = .noPll)

/-- A tamper decision latches its cause and time and ends the seal, and with VDD up resets the module with kind TAMPER; a
disabled input decides nothing, nor does the clock monitor in VAULT (R500 to R503). -/
def Obligations.TamperIsAnswered : Prop :=
  ∀ s : State, s.Inv →
    let after (t : State) (cause : Nat) (w : WipeResult) : Prop :=
      t.vault.tamper = nset s.vault.tamper cause true ∧ t.vault.sealValid = false ∧
        t.vault.tamperTime = (if s.vault.tamper = 0 then s.vault.rtc else s.vault.tamperTime) ∧
        (s.pwr = .vault → t = { s with vault := t.vault }) ∧
        (s.pwr ≠ .vault → t.rst.phase = .inReset ∧ t.rst.kind = .tamper ∧ t.rst.full = true ∧ t.cpt = Cpt.init ∧ t.regs = [] ∧
          t.vault.causes % 16 = 8 ∧ (w.firstOk = false → w.secondOk = false → t.banks.wipeFail = true) ∧
          (s.rst.phase ≠ .inReset → t.vault.gen = (s.vault.gen + 1) % 65536))
    (∀ (n : Fin 2) w, Answers (.tamperInput n w) s fun t => if nbit s.vault.tampCfg n then after t n w else t = s) ∧
    (∀ w, Answers (.tamperMonitor .voltage w) s fun t => after t 2 w) ∧
    (∀ w, Answers (.tamperMonitor .clock w) s fun t => if s.pwr = .vault then t = s else after t 3 w) ∧
    ∀ w, Answers (.tamperMonitor .temperature w) s fun t => after t 4 w

/-- The Shortchange's own occurrences and the boundary scan: the arming's time ends; a session is held on its object and
the bank is occupied, each counted, while the perturbation acts; the held session ends and the host's that waits starts;
the scan captures the pads, shifts IDCODE or bypasses, and never moves DOOR's pads; only a debug code where debug access is
open is not followed (R333, R496, R536, R539, R548, R574). -/
def Obligations.ShortchangeAndScan : Prop :=
  ∀ s : State, s.Inv →
    (Answers .scDurationExpiry s fun t => t.rb Reg.scStat 0 = false ∧ (s.rb Reg.scStat 0 = false → t = s) ∧
      (s.rb Reg.scStat 0 = true → t.aud.scLive = false ∧ t.aud.scBy = none ∧ s.Raised t Ev.scState 0 3)) ∧
    (Answers .scCanLockHold s fun t =>
      if s.scOn 3 ∧ (s.canAt s.scCanN).session = none ∧ s.maySession s.scCanObj = true then
        (t.canAt s.scCanN).session = some ⟨s.scCanObj, s.till, true⟩ ∧ t.rb (Reg.objStat s.scCanObj) 3 = true ∧
          t.rf Reg.scCnt 0 32 = satN 0xFFFFFFFF (s.rf Reg.scCnt 0 32 + 1) ∧
          s.OnlyRegs { t with can := s.can } [Reg.objStat s.scCanObj, Reg.scCnt]
      else t = s) ∧
    (Answers .scCanHoldEnd s fun t =>
      let n := s.scCanN
      ((s.canAt n).session = none → t = s) ∧
        (∀ x, (s.canAt n).session = some x → x.held = false → t = s) ∧
        (∀ x, (s.canAt n).session = some x → x.held = true → (t.canAt n).wanted = none ∧
          ((s.canAt n).wanted = none → (t.canAt n).session = none ∧ t.rb (Reg.objStat x.obj) 3 = false) ∧
          ∀ j, (s.canAt n).wanted = some j → j / 128 = n → s.maySession j = true →
            (t.canAt n).session = some ⟨j, s.till, false⟩ ∧ t.rb (Reg.objStat j) 3 = true ∧ t.rb (Reg.canApSel n) 9 = true)) ∧
    (Answers .scBankStall s fun t =>
      if s.scOn 8 then t.rf Reg.scCnt 0 32 = satN 0xFFFFFFFF (s.rf Reg.scCnt 0 32 + 1) ∧ s.OnlyRegs t [Reg.scCnt] else t = s) ∧
    ∀ (code : BitVec 4) (shift pads : BitVec 145),
      ((¬([0, 1, 2, 15] : List Nat).contains code.toNat ∧ (s.life = 0 ∨ s.life = 4) ∧ s.rst.phase = .running ∧ s.pwr ≠ .vault) →
        exec (.boundaryScan code shift pads) s = .refused .debugUnit) ∧
      (s.pwr = .vault → Answers (.boundaryScan code shift pads) s (· = s)) ∧
      (s.pwr ≠ .vault → code = 0 ∨ code = 2 → Answers (.boundaryScan code shift pads) s fun t =>
        t = { s with jtag := ⟨code, shift, pads⟩ } ∧
          ((code = 2 ∨ ¬(s.rst.phase = .bootHold ∨ (s.rst.phase = .running ∧ s.cpt.st = .startPending ∧ s.cpt.on = 0))) →
            t.jtagDrive = none) ∧
          ∀ d, t.jtagDrive = some d → d &&& doorCells = 0 ∧ d ||| (shift &&& doorCells) = shift) ∧
      (s.pwr ≠ .vault → code = 1 → Answers (.boundaryScan code shift pads) s fun t =>
        t = { s with jtag := ⟨1, s.jtag.cells, 0x14832A6B⟩ } ∧ t.jtagDrive = none) ∧
      (s.pwr ≠ .vault → ¬([0, 1, 2] : List Nat).contains code.toNat →
          (code = 15 ∨ (s.life ≠ 0 ∧ s.life ≠ 4) ∨ s.rst.phase ≠ .running) →
        Answers (.boundaryScan code shift pads) s fun t =>
          t.jtag.cells = s.jtag.cells ∧ t.jtagDrive = none ∧ t = { s with jtag := t.jtag } ∧
            ∀ i, 0 < i → i < 145 → t.jtag.dout.getLsbD i = shift.getLsbD (i - 1))

/-- The console's bytes: in a reset or VAULT none is taken; any byte stops a display; a printable one is echoed and enters
the line, unless Q14 is full or the line is too long; a line end brings the errors OVERRUN and LONG or hands the line over;
output leaves byte by byte and a display prints its line or dots (R540, R541). -/
def Obligations.ConsoleTakesBytes : Prop :=
  ∀ s : State, s.Inv →
    (∀ b, Answers (.consoleByte b) s fun t =>
      let live := (s.rst.phase = .running ∨ s.rst.phase = .bootHold) ∧ s.pwr ≠ .vault
      (¬live → t = s) ∧
        (live → t.pwr = .run ∧
          (s.con.display ≠ none → t.con.display = none ∧ t.con.input = s.con.input) ∧
          (s.con.display = none → 0x20 ≤ b.toNat → b.toNat ≤ 0x7E → (s.tel.noticed = true → s.Printed t [b]) ∧
            (256 ≤ s.con.input.length → t.con.input = s.con.input ∧ t.con.overrun = true) ∧
            (s.con.input.length < 256 → s.con.overrun = false → s.con.long = false →
              (s.con.chars < 250 → t.con.input = s.con.input ++ [b] ∧ t.con.chars = s.con.chars + 1) ∧
                (250 ≤ s.con.chars → t.con.input = s.con.input.take (s.con.input.length - s.con.chars) ∧ t.con.long = true))) ∧
          (s.con.display = none → b = 0x0D#8 →
            (s.con.overrun = true → t.con.overrun = false ∧ t.con.chars = 0 ∧
              (s.tel.noticed = true → s.Printed t ([b] ++ s.conSays (ascii "ERR OVERRUN")))) ∧
              (s.con.overrun = false → s.con.long = true → t.con.long = false ∧ t.con.chars = 0 ∧
                (s.tel.noticed = true → s.Printed t ([b] ++ s.conSays (ascii "ERR LONG")))) ∧
              (s.con.overrun = false → s.con.long = false → s.con.chars ≠ 0 → s.con.input.length < 256 →
                (s.conCmd (ConText.words ((s.con.input ++ [b]).takeWhile fun x => x != 0x0D#8))).isSome = true →
                t.con.input = s.con.input ++ [b] ∧ t.con.chars = 0)))) ∧
    (Answers .consoleOutputSent s fun t =>
      (s.con.output = [] → t = s) ∧
        (∀ b out, s.con.output = b :: out → ∃ more, t.con.output ++ t.con.waiting = out ++ s.con.waiting ++ more)) ∧
    Answers .consoleDisplayLine s fun t =>
      (¬(s.rst.phase = .running ∧ s.pwr ≠ .hush ∧ s.pwr ≠ .vault ∧ s.con.display ≠ none) → t = s) ∧
        (s.rst.phase = .running → s.pwr ≠ .hush → s.pwr ≠ .vault → s.con.display ≠ none →
          t.con.display = s.con.display ∧ t.con.input = s.con.input ∧ t.free = s.free + 1)

/-- The console's showing commands print what R542 and R544 list, and change nothing else; a line with words too many is
ERR SYNTAX, and in BOOT_HOLD all but WHO and STAT answer ERR DENIED; without their line they do nothing (R481, R540, R542,
R544). -/
def Obligations.ConsoleShows : Prop :=
  ∀ s : State, s.Inv →
    let head (b o : Nat) : Nat := (s.headWord b o).toNat
    let shows (i : Instr) (k : ConCmd) (n : Nat) (rom : Bool) (name : String) (vs : List Nat) : Prop :=
      (s.conWords k = none → Answers i s (· = s)) ∧
        ∀ ws, s.conWords k = some ws → Answers i s fun t => s.ConsoleOnly t ∧
          s.Printed t (s.conSays (if s.rst.phase = .bootHold ∧ !rom then ascii "ERR DENIED"
            else if ws.length ≠ n ∧ n ≠ 0 then ascii "ERR SYNTAX" else Config.consoleText name vs))
    shows .help .help 1 false "HELP" ((List.range 17).filter fun k => k != 5 || (s.life == 3 && s.conLogin)) ∧
    shows .who .who 1 true "WHO" [(s.peek Reg.devPart).toNat, s.roleCode,
      if s.rst.phase = .bootHold then 0 else (s.peek Reg.devVersion).toNat, s.life, s.vault.gen, s.vault.causes] ∧
    shows .stat .stat 0 true "STAT" (head 0 0x10 :: (s.faulted.flatMap fun b => [head b 0, head b 0x10]) ++
      ([0, 1, 2, 3, 4, 10, 11, 12, 13] : List Nat).flatMap fun n => [n, s.fillNow n, (s.queue n).lost]) ∧
    shows .consolePair .pair 1 false "PAIR" (State.bytesNat idDigest ++ (match s.pairRec with
      | some p => State.bytesNat p.peer ++ [1 + State.at1 1 p.active]
      | none => [0]) ++ [s.lstate]) ∧
    shows .life .life 1 false "LIFE" ([s.life, (s.r Reg.lifeState).toNat] ++ (List.range 5).filter fun x =>
      State.lifeMay s.life x && ((s.life == 1 && x == 2) || s.conLogin) && s.stationary && s.cpt.on == 0 && !s.lifeBusy &&
        (x != 2 || (s.setValid && (s.role == .solo || s.pairActive.isSome)))) ∧
    shows .audit .audit 1 false "AUDIT" ((List.range 10).flatMap fun i =>
      [i + 1, (s.audAge (i + 1)).getD 0xFFFFFFFF, State.at1 0 (s.rb Reg.audLate (i + 1))]) ∧
    shows .auditBanks .auditBanks 2 false "AUDIT BANKS" ((List.range 27).flatMap fun k =>
      head (Acct.bank k) 0xC :: (List.range 6).map fun i => (s.peek (Reg.bankUse k + 4 * i)).toNat) ∧
    shows .auditSc .auditSc 2 false "AUDIT SC" ((List.range 11).map fun i => (s.peek (Reg.scStat + 4 * i)).toNat) ∧
    (∀ ws, s.conWords .io = some ws → s.rst.phase = .running → Answers .io s fun t => s.ConsoleOnly t ∧
      let v (l : List Nat) (f : Nat → Nat × Nat) : List Nat := l.flatMap fun n => [(f n).1, (f n).2]
      s.Printed t (s.conSays (
        if ws = [ascii "IO", ascii "CAP"] then
          Config.consoleText "IO CAP" (v (List.range 4) fun n => (head (Acct.cap n) 0xC, head (Acct.cap n) 0x14))
        else if ws = [ascii "IO", ascii "IN"] then
          Config.consoleText "IO IN" (v (List.range 48) fun n => (State.at1 0 (s.inLevel n), head (State.inBase n) 0x14))
        else if ws = [ascii "IO", ascii "OUT"] then
          Config.consoleText "IO OUT" (v (List.range 32) fun n => (State.at1 0 (s.outOn n), head (State.outBase n) 0x14))
        else ascii "ERR SYNTAX"))) ∧
    (∀ ws, s.conWords .ledger = some ws → s.rst.phase = .running → Answers .ledger s fun t => s.ConsoleOnly t ∧
      (ws = [ascii "LEDGER"] → s.Printed t (s.conSays (Config.consoleText "LEDGER"
        (((List.range 2).flatMap fun p => (List.range 7).map fun i => (s.partWord p (0x20 + 4 * i)).toNat) ++
          (List.range 7).map fun i => (s.intakeWord (0x20 + 4 * i)).toNat)))) ∧
      (∀ w n, ws = [ascii "LEDGER", w] → ConText.number w = some n → 1 ≤ n → n ≤ 100 →
        let l := s.bySeq (s.heldRecords 0 ++ s.heldRecords 1)
        s.Printed t (s.conSays (Config.consoleText "LEDGER n" ((l.drop (l.length - n)).flatMap fun r => r.2.map (·.toNat))))) ∧
      (∀ w, ws = [ascii "LEDGER", w] → (∀ n, ConText.number w = some n → n = 0 ∨ 100 < n) →
        s.Printed t (s.conSays (ascii "ERR SYNTAX")))) ∧
    (∀ values ws, s.conWords .meter = some ws → s.rst.phase = .running → Answers (.meter values) s fun t =>
      s.ConsoleOnly { t with aud := s.aud } ∧
      let vs := values.map fun v => (wOfInt v).toNat
      (ws = [ascii "METER"] → t.aud = { s.aud with low := List.replicate 6 0xFFFF } ∧
        s.Printed t (s.conSays (Config.consoleText "METER" (((List.range 4).map fun i => s.rf (Reg.supVf i) 0 16) ++ vs ++
          s.aud.low.take 4 ++ (List.range 2).map fun i => min (s.aud.low.getD (4 + i) 0xFFFF) (vs.getD i 0xFFFF))))) ∧
      (ws ≠ [ascii "METER"] → t.aud = s.aud) ∧
      (∀ w n, ws = [ascii "METER", w] → ConText.pad "OUT" 32 w = some n →
        s.Printed t (s.conSays (Config.consoleText "METER OUT" (n :: vs ++ [s.currentOf [n], State.at1 0 (s.outOn n)]))))) ∧
    ∀ ws, s.conWords .display = some ws → s.rst.phase = .running → Answers .statDisplay s fun t =>
      s.ConsoleOnly { t with free := s.free } ∧
        ∀ w, ws = [ascii "STAT", w] →
          (∀ u, ConText.unit w = some u → t.con.display = some u) ∧
            (ConText.unit w = none → t.con.display = none ∧ s.Printed t (s.conSays (ascii "ERR SYNTAX")))

/-- OUT on the console acts only in SERVICE with a login made there, in PARKED, on an enabled SERVICE output of its own,
and answers the first of R543's errors otherwise; accepted, it acts as OUT_SET and commits a CONSOLE_OUT record (R542,
R543). The console's login: LOGIN gives a challenge; LOGIN + collects bytes, to 2 400; LOGIN END tries them, counting a
refusal where there is no challenge or the checks fail; LOGIN OFF ends the console's own login (R499, R545). -/
def Obligations.ConsoleActs : Prop :=
  (∀ (s : State) (a b : List Byte) (n : Nat), s.Inv →
     s.conWords .out = some [ascii "OUT", a, b] → ConText.number a = some n → n < 32 → b = ascii "ON" ∨ b = ascii "OFF" →
     s.rst.phase = .running →
     let errs (e : String) : Prop := Answers .out s fun t => s.ConsoleOnly t ∧ s.Printed t (s.conSays (ascii e))
     (¬(s.life = 3 ∧ s.conLogin = true) → errs "ERR DENIED") ∧
       (s.life = 3 → s.conLogin = true →
         (s.cpt.st ≠ .parked → errs "ERR STATE") ∧
           (s.cpt.st = .parked → s.outClass n ≠ 3 → errs "ERR CLASS") ∧
           (s.cpt.st = .parked → s.outClass n = 3 →
             (¬(s.runs (State.outBase n) = true ∧ s.en (State.outBase n) = true ∧ s.outMember n = false ∧ s.rb Reg.outLatch n = false) →
               errs "ERR STATE") ∧
               ((s.runs (State.outBase n) = true ∧ s.en (State.outBase n) = true ∧ s.outMember n = false ∧ s.rb Reg.outLatch n = false) →
                 Answers .out s fun t => s.Raised t Ev.consoleOut 0 n ∧ t.rb Reg.outCmd n = (b == ascii "ON") ∧
                   (b = ascii "OFF" → t.outOn n = false ∧ s.Printed t (s.conSays (ascii "OK"))) ∧
                   (b = ascii "ON" → (t.outOn n = true ∨ t.hasGrant n = true ∨ t.hasRequest n = true) ∧
                     s.Printed t (s.conSays (ascii (if t.outOn n then "OK" else "OK WAIT")))))))) ∧
  (∀ s : State, s.Inv → s.rst.phase = .running →
     (s.conWords .login = some [ascii "LOGIN"] → Answers .consoleLogin s fun t =>
       if s.conMayLogin = false then s.Printed t (s.conSays (ascii "ERR DENIED")) ∧ s.ConsoleOnly t
       else if s.vault.lockSecs ≠ 0 then s.Printed t (ascii "ERR LOCKED ") ∧ s.ConsoleOnly t
       else t.mint.chal = some (1, s.randomBytes, s.till) ∧ t.con.cert = [] ∧
         s.Printed t (s.conSays (Config.consoleText "LOGIN" (State.bytesNat s.randomBytes ++ State.bytesNat idDigest)))) ∧
     (∀ w bs, s.conWords .loginPlus = some [ascii "LOGIN", w] → ConText.hexBytes (w.drop 1) = some bs → w.length ≤ 241 →
       Answers .loginPlus s fun t =>
         (s.con.cert.length + bs.length ≤ 2400 → t.con.cert = s.con.cert ++ bs ∧ s.ConsoleOnly t) ∧
           (2400 < s.con.cert.length + bs.length → t.con.cert = [] ∧ t.vault.refusals = s.vault.refusals + 1 ∧
             s.Printed t (ascii "ERR SYNTAX" ++ Config.eol))) ∧
     (∀ w mins, s.conWords .loginEnd = some [ascii "LOGIN", ascii "END", w] → ConText.number w = some mins →
       s.conMayLogin = true → s.vault.lockSecs = 0 → Answers .loginEnd s fun t => t.con.cert = [] ∧
         (s.conChal = false → t.vault.refusals = s.vault.refusals + 1 ∧ s.Raised t Ev.login 0 2 ∧
           s.Printed t (ascii "ERR SYNTAX" ++ Config.eol)) ∧
         (s.conChal = true → t.mint.chal = none ∧
           let ok := s.loginPasses mins (s.con.cert.take 96) (s.con.cert.drop 96)
           (ok = true → t.mint.login = some ⟨1, s.vault.rtc + mins * 60 * 32768⟩ ∧ t.vault.refusals = 0 ∧ t.conLogin = true ∧
             s.Raised t Ev.login 0 0) ∧
           (ok = false → t.mint.login = s.mint.login ∧ t.vault.refusals = s.vault.refusals + 1 ∧ s.Raised t Ev.login 0 2 ∧
             (s.vault.refusals < 4 → s.Printed t (ascii "ERR DENIED")) ∧ (4 ≤ s.vault.refusals → s.Printed t (ascii "ERR LOCKED "))))) ∧
     (s.conWords .loginOff = some [ascii "LOGIN", ascii "OFF"] → Answers .loginOff s fun t =>
       (s.conLogin = false → s.ConsoleOnly t) ∧
         (s.conLogin = true → s.mint.login ≠ none → t.mint.login = none ∧ t.conLogin = false ∧ s.Raised t Ev.login 0 1)))

/-- LOAD in BOOT_HOLD: READY names the slot; a D line at the expected offset with a good CRC writes its bytes, and the next
offset is told; a bad one is answered CRC or OFFSET and nothing is written; E answers PASS, with a SOFT reset to come, or
FAIL (R481, R546). -/
def Obligations.RomLoadsImages : Prop :=
  ∀ s : State, s.Inv → s.rst.phase = .bootHold →
    (∀ w, s.conWords .load = some [ascii "LOAD", w] → Answers .load s fun t => s.ConsoleOnly t ∧
      (w = ascii "A" ∨ w = ascii "B" → t.con.load = some (w == ascii "B", 0) ∧ s.Printed t (s.conSays (ascii "READY"))) ∧
      (¬(w = ascii "A" ∨ w = ascii "B") → t.con.load = s.con.load ∧ s.Printed t (s.conSays (ascii "ERR SYNTAX")))) ∧
    (∀ o d c o' bs crc slot n, s.conWords .dataLine = some [ascii "D", o, d, c] → s.con.load = some (slot, n) →
      o.length = 8 → c.length = 8 → ConText.digits 16 o = some o' → ConText.hexBytes d = some bs →
      ConText.hexBytes c = some crc → bs ≠ [] → bs.length ≤ 64 → Answers .loadDataLine s fun t =>
        (crc ≠ beBytes 4 (crc32c bs).toNat → s.ConsoleOnly t ∧ t.con.load = s.con.load ∧ s.Printed t (s.conSays (ascii "ERR CRC"))) ∧
          (crc = beBytes 4 (crc32c bs).toNat → o' ≠ n ∨ 3145728 < n + bs.length → s.ConsoleOnly t ∧ t.con.load = s.con.load ∧
            s.Printed t (s.conSays (ascii "ERR OFFSET"))) ∧
          (crc = beBytes 4 (crc32c bs).toNat → o' = n → n + bs.length ≤ 3145728 →
            t.slotOf slot = .bytes (s.loadedBytes slot n ++ bs) ∧ t.slotOf (!slot) = s.slotOf (!slot) ∧
              t.con.load = some (slot, n + bs.length) ∧
              s.Printed t (s.conSays (ascii "OK " ++ Config.consoleText "D" [n + bs.length])))) ∧
    ∀ (readErr slot : Bool) (n : Nat), s.conWords .endLine = some [ascii "E"] → s.con.load = some (slot, n) →
      Answers (.loadEndLine readErr) s fun t => t.con.load = none ∧
        let r := s.slotReason (s.slotOf slot) readErr
        (r = 0 → t.rst = { s.rst with softDue := true } ∧ s.Printed t (s.conSays (ascii "PASS"))) ∧
          (r ≠ 0 → s.ConsoleOnly t ∧ s.Printed t (s.conSays (ascii "FAIL " ++ Config.consoleText "E" [r])))

/-- R98 whole: of the eight Hall states 0 and 7 alone are invalid. Entry into one of them, on a channel that runs, sets
ACC_FLT.invalid, adds 1 to HALL_ERR.invalid and posts HALL_INVALID with the state as detail; HALL_STATE keeps the last
valid state and its sector. Entry into another state counts no invalid event. -/
def Obligations.InvalidHallStates : Prop :=
  ∀ (n : Fin 2) (lines : BitVec 3) (s : State), s.Inv → s.runs (Acct.hall n) = true → s.en (Acct.hall n) = true →
    s.rf (Reg.hallState n) 0 3 ≠ lines.toNat → Answers (.hallChange n lines) s fun t =>
      if lines = 0 ∨ lines = 7 then
        t.hasFlt (Acct.hall n) 1 = true ∧ t.rf (Reg.hallErr n) 0 16 = satN 65535 (s.rf (Reg.hallErr n) 0 16 + 1) ∧
          s.Raised t Ev.hallInvalid n lines.toNat ∧ t.rf (Reg.hallState n) 4 3 = s.rf (Reg.hallState n) 4 3 ∧
          t.rf (Reg.hallState n) 8 3 = s.rf (Reg.hallState n) 8 3
      else t.hasFlt (Acct.hall n) 1 = s.hasFlt (Acct.hall n) 1 ∧ t.rf (Reg.hallErr n) 0 16 = s.rf (Reg.hallErr n) 0 16

/-- R52 whole: a host write in the mirror window changes nothing but the port's counters and latches, and adds 1 to
HOST_PORT_STAT.mirror_wr. -/
def Obligations.MirrorWindowIsReadOnly : Prop :=
  ∀ (s : State) (a : Nat) (acc : WAcc), s.Inv → writeAddrOk a acc = true → a % 4 = 0 → 0x20000 ≤ a → a < 0x24000 →
    s.serves (match acc with | .qspi _ => true | .par16 .. => false) = true →
    Answers (.mirrorWindowWrite a acc) s fun t =>
      t.rf Reg.hostPortStat 16 8 = satN 255 (s.rf Reg.hostPortStat 16 8 + 1) ∧
        t = { s with regs := t.regs, port := t.port } ∧ s.RegsBut t [Reg.hostPortStat, Acct.host + 0x10]

/-- R58 whole: a doorbell beyond the depth or a step backwards, and a QCONS outside the entries posted, set
ACC_FLT.bad_index of their queue and change nothing else; the others take effect. -/
def Obligations.BadIndexesAreIgnored : Prop :=
  ∀ (s s1 : State) (acc : WAcc) (v : Word), s.Inv → s.tel.noticed = true → s.pwr = .run →
    let only (t : State) (q : Nat) : Prop :=
      t = { s with queues := t.queues, port := t.port } ∧
        t.queues = (s.updQ q fun x => { x with flt := putBit x.flt 1 true }).queues
    (∀ i q a, (i, q, a) ∈ [(Instr.tellerDbCmd acc, 0, Reg.tellerDbCmd), (.tellerDbUrg acc, 1, Reg.tellerDbUrg)] →
      s.commits a acc = some (v, s1) → Answers i s fun t =>
        let p := fld v 0 16
        if s.qdepth q < (p + 65536 - (s.queue q).cons) % 65536 ∨ s.qdepth q < (p + 65536 - (s.queue q).prod) % 65536 then only t q
        else (t.queue q).prod = p) ∧
      ∀ q : Fin 16, q.val ∈ [2, 3, 4, 10, 11, 12, 13] → s.commits (Reg.qcons q.val) acc = some (v, s1) →
        Answers (.qconsWrite q acc) s fun t =>
          if s.qfill q.val < (fld v 0 16 + 65536 - (s.queue q.val).cons) % 65536 then only t q
          else (t.queue q.val).cons = fld v 0 16

/-- R392 whole: a vault crystal that has stopped sets CLOCK_MONITOR's vault_xtal, posts CLK_FAULT with detail 7 and latches
cause CLOCK, which stays active until the crystal has run for 1 s. -/
def Obligations.VaultCrystalStops : Prop :=
  ∀ s : State, s.Inv → s.clocksRun = true →
    (s.xtalOk = true → Answers .vaultXtalStop s fun t =>
      t.hasFlt Acct.clockMonitor 8 = true ∧ s.Raised t Ev.clkFault 0 7 ∧ t.xtalOk = false ∧
        (s.cptRuns = true → nbit t.latchedCauses 9 = true ∧ nbit t.activeCauses 9 = true)) ∧
      (s.xtalOk = false → Answers .vaultXtalResumed s fun t => t.xtalOk = true ∧ nbit t.activeCauses 9 = false)

/-- R453 whole: CRC-32C is the remainder by 0x1EDC_6F41, most significant bit first, of bytes that enter with their bits
reversed, from all ones; its result is reversed and inverted. -/
def Obligations.Crc32cIsR453s : Prop :=
  ∀ bs : List Byte,
    let step (r : BitVec 32) (b : Bool) : BitVec 32 := (r <<< 1) ^^^ if r.getLsbD 31 != b then 0x1EDC6F41#32 else 0#32
    let bits := bs.flatMap fun b => (List.range 8).map fun i => b.getLsbD i
    crc32c bs = (bits.foldl step 0xFFFFFFFF#32).reverse ^^^ 0xFFFFFFFF#32
end

