-- ==== Sys2Proof/Laws/Sparse.lean ====
section
/-! SUPPORT. The sparse memories: a read after a write, and the canonical form that every write keeps; the same of the
register words and the ring bytes. -/

namespace Sys2Proof.Machine

namespace Sparse

variable {α : Type} [DecidableEq α] {d : Nat → α}

theorem get_below {m : List (Nat × α)} {lo k : Nat} (h : wfFrom d lo m = true) (hk : k < lo) : get d m k = d k := by
  induction m generalizing lo with
  | nil => rfl
  | cons x t ih =>
    obtain ⟨a, v⟩ := x
    simp only [wfFrom, Bool.and_eq_true, decide_eq_true_eq] at h
    obtain ⟨⟨h1, -⟩, h3⟩ := h
    rw [get, if_neg (by omega), ih h3 (by omega)]

theorem wfFrom_mono {m : List (Nat × α)} {lo lo' : Nat} (h : wfFrom d lo m = true) (hl : lo' ≤ lo) : wfFrom d lo' m = true := by
  cases m with
  | nil => rfl
  | cons x t =>
    obtain ⟨a, v⟩ := x
    simp only [wfFrom, Bool.and_eq_true, decide_eq_true_eq] at h ⊢
    exact ⟨⟨by omega, h.1.2⟩, h.2⟩

/-- A read elsewhere is unchanged, canonical or not. -/
theorem get_set_ne (m : List (Nat × α)) {k j : Nat} (v : α) (h : j ≠ k) (hm : wf d m = true) : get d (set d m k v) j = get d m j := by
  unfold wf at hm
  generalize 0 = lo at hm
  induction m generalizing lo with
  | nil =>
    unfold set
    split
    · rfl
    · simp [get, h.symm]
  | cons x t ih =>
    obtain ⟨a, w⟩ := x
    simp only [wfFrom, Bool.and_eq_true, decide_eq_true_eq] at hm
    obtain ⟨⟨-, -⟩, h3⟩ := hm
    unfold set
    split
    · split
      · rfl
      · simp [get, h.symm]
    · split
      · rename_i hka
        subst hka
        split
        · simp [get, h.symm]
        · simp [get, h.symm]
      · simp only [get]
        split
        · rfl
        · exact ih _ h3

/-- A read of the written place gives what was written. -/
theorem get_set_eq (m : List (Nat × α)) (k : Nat) (v : α) (hm : wf d m = true) : get d (set d m k v) k = v := by
  unfold wf at hm
  generalize 0 = lo at hm
  induction m generalizing lo with
  | nil =>
    unfold set
    split
    · rename_i hv; simp [get, hv]
    · simp [get]
  | cons x t ih =>
    obtain ⟨a, w⟩ := x
    simp only [wfFrom, Bool.and_eq_true, decide_eq_true_eq] at hm
    obtain ⟨⟨-, -⟩, h3⟩ := hm
    unfold set
    split
    · rename_i hlt
      split
      · rename_i hv
        rw [hv, get, if_neg (by omega), get_below h3 (by omega)]
      · simp [get]
    · split
      · rename_i hka
        subst hka
        split
        · rename_i hv
          rw [hv, get_below h3 (by omega)]
        · simp [get]
      · rename_i h1 h2
        rw [get, if_neg (by omega)]
        exact ih _ h3

theorem wfFrom_set (m : List (Nat × α)) {lo k : Nat} (v : α) (hm : wfFrom d lo m = true) (hk : lo ≤ k) :
    wfFrom d lo (set d m k v) = true := by
  induction m generalizing lo with
  | nil =>
    unfold set
    split
    · rfl
    · rename_i hv; simp [wfFrom, hk, hv]
  | cons x t ih =>
    obtain ⟨a, w⟩ := x
    have hm' := hm
    simp only [wfFrom, Bool.and_eq_true, decide_eq_true_eq] at hm
    obtain ⟨⟨h1, h2⟩, h3⟩ := hm
    unfold set
    split
    · rename_i hlt
      split
      · exact hm'
      · rename_i hv
        simp only [wfFrom, Bool.and_eq_true, decide_eq_true_eq]
        exact ⟨⟨hk, hv⟩, ⟨by omega, h2⟩, h3⟩
    · split
      · rename_i hka
        subst hka
        split
        · exact wfFrom_mono h3 (by omega)
        · rename_i hv
          simp only [wfFrom, Bool.and_eq_true, decide_eq_true_eq]
          exact ⟨⟨hk, hv⟩, h3⟩
      · simp only [wfFrom, Bool.and_eq_true, decide_eq_true_eq]
        exact ⟨⟨h1, h2⟩, ih h3 (by omega)⟩

/-- A write keeps the canonical form. -/
theorem wf_set (m : List (Nat × α)) (k : Nat) (v : α) (hm : wf d m = true) : wf d (set d m k v) = true :=
  wfFrom_set m v hm (Nat.zero_le k)

/-- So do the writes of several values. -/
theorem wf_setList (vs : List α) (m : List (Nat × α)) (k step : Nat) (hm : wf d m = true) : wf d (setList d m k step vs) = true := by
  induction vs generalizing m k with
  | nil => exact hm
  | cons v t ih => exact ih _ _ (wf_set m k v hm)

theorem get_setList_lt (vs : List α) (m : List (Nat × α)) {k j step : Nat} (h : j < k) (hm : wf d m = true) :
    get d (setList d m k step vs) j = get d m j := by
  induction vs generalizing m k with
  | nil => rfl
  | cons v t ih =>
    rw [setList, ih _ (by omega) (wf_set m k v hm), get_set_ne m v (by omega) hm]

theorem get_setList_ge (vs : List α) (m : List (Nat × α)) {k j : Nat} (h : k + vs.length ≤ j) (hm : wf d m = true) :
    get d (setList d m k 1 vs) j = get d m j := by
  induction vs generalizing m k with
  | nil => rfl
  | cons v t ih =>
    simp only [List.length_cons] at h
    rw [setList, ih _ (by omega) (wf_set m k v hm), get_set_ne m v (by omega) hm]

end Sparse

theorem updAt_length {α : Type} (l : List α) (n : Nat) (f : α → α) : (updAt l n f).length = l.length := by
  induction l generalizing n with
  | nil => rfl
  | cons x t ih => cases n with
    | zero => rfl
    | succ n => simp [updAt, ih]

theorem getD_updAt_eq {α : Type} (l : List α) (n : Nat) (f : α → α) (x : α) (h : n < l.length) :
    (updAt l n f).getD n x = f (l.getD n x) := by
  induction l generalizing n with
  | nil => simp at h
  | cons y t ih => cases n with
    | zero => rfl
    | succ n => simpa [updAt] using ih n (by simpa using h)

theorem getD_updAt_ne {α : Type} (l : List α) {n k : Nat} (f : α → α) (x : α) (h : k ≠ n) :
    (updAt l n f).getD k x = l.getD k x := by
  induction l generalizing n k with
  | nil => rfl
  | cons y t ih => cases n with
    | zero => cases k with
      | zero => exact absurd rfl h
      | succ k => rfl
    | succ n => cases k with
      | zero => rfl
      | succ k => simpa [updAt] using ih (by omega)

namespace State

/-- The register words are canonical. -/
def RegsWf (s : State) : Prop := Sparse.wf Reg.resetOf s.regs = true

theorem w_wf {s : State} (h : s.RegsWf) (a : Nat) (v : Word) : (s.w a v).RegsWf := Sparse.wf_set _ _ _ h

theorem r_w_eq {s : State} (h : s.RegsWf) (a : Nat) (v : Word) : (s.w a v).r a = v := Sparse.get_set_eq _ _ _ h

theorem r_w_ne {s : State} (h : s.RegsWf) {a x : Nat} (v : Word) (hx : x ≠ a) : (s.w a v).r x = s.r x :=
  Sparse.get_set_ne _ _ hx h

theorem setRingBytes_wf {s : State} (h : Sparse.wf (fun _ => 0#8) s.ring = true) (a : Nat) (bs : List Byte) :
    Sparse.wf (fun _ => 0#8) (s.setRingBytes a bs).ring = true := Sparse.wf_setList _ _ _ _ h

theorem ringByte_setRingBytes_out {s : State} (h : Sparse.wf (fun _ => 0#8) s.ring = true) (a : Nat) (bs : List Byte) {x : Nat}
    (hx : x < a ∨ a + bs.length ≤ x) : (s.setRingBytes a bs).ringByte x = s.ringByte x := by
  rcases hx with hx | hx
  · exact Sparse.get_setList_lt _ _ hx h
  · exact Sparse.get_setList_ge _ _ hx h

end State

end Sys2Proof.Machine
end

