-- ==== Sys2Proof/Laws/State.lean ====
section
/-! SUPPORT. What each update of State leaves of each field, and of the register reads; every lemma holds by definition. -/

namespace Sys2Proof.Machine.State

@[simp] theorem w_till (s : State) (a : Nat) (v : Word) : (s.w a v).till = s.till := rfl
@[simp] theorem w_role (s : State) (a : Nat) (v : Word) : (s.w a v).role = s.role := rfl
@[simp] theorem w_rst (s : State) (a : Nat) (v : Word) : (s.w a v).rst = s.rst := rfl
@[simp] theorem w_regs (s : State) (a : Nat) (v : Word) : (s.w a v).regs = Sparse.set Reg.resetOf s.regs a v := rfl
@[simp] theorem w_ring (s : State) (a : Nat) (v : Word) : (s.w a v).ring = s.ring := rfl
@[simp] theorem w_mb (s : State) (a : Nat) (v : Word) : (s.w a v).mb = s.mb := rfl
@[simp] theorem w_queues (s : State) (a : Nat) (v : Word) : (s.w a v).queues = s.queues := rfl
@[simp] theorem w_port (s : State) (a : Nat) (v : Word) : (s.w a v).port = s.port := rfl
@[simp] theorem w_tel (s : State) (a : Nat) (v : Word) : (s.w a v).tel = s.tel := rfl
@[simp] theorem w_ldg (s : State) (a : Nat) (v : Word) : (s.w a v).ldg = s.ldg := rfl
@[simp] theorem w_vault (s : State) (a : Nat) (v : Word) : (s.w a v).vault = s.vault := rfl
@[simp] theorem w_cpt (s : State) (a : Nat) (v : Word) : (s.w a v).cpt = s.cpt := rfl
@[simp] theorem w_prf (s : State) (a : Nat) (v : Word) : (s.w a v).prf = s.prf := rfl
@[simp] theorem w_doors (s : State) (a : Nat) (v : Word) : (s.w a v).doors = s.doors := rfl
@[simp] theorem w_fio (s : State) (a : Nat) (v : Word) : (s.w a v).fio = s.fio := rfl
@[simp] theorem w_can (s : State) (a : Nat) (v : Word) : (s.w a v).can = s.can := rfl
@[simp] theorem w_purse (s : State) (a : Nat) (v : Word) : (s.w a v).purse = s.purse := rfl
@[simp] theorem w_vf (s : State) (a : Nat) (v : Word) : (s.w a v).vf = s.vf := rfl
@[simp] theorem w_pwr (s : State) (a : Nat) (v : Word) : (s.w a v).pwr = s.pwr := rfl
@[simp] theorem w_par (s : State) (a : Nat) (v : Word) : (s.w a v).par = s.par := rfl
@[simp] theorem w_mint (s : State) (a : Nat) (v : Word) : (s.w a v).mint = s.mint := rfl
@[simp] theorem w_banks (s : State) (a : Nat) (v : Word) : (s.w a v).banks = s.banks := rfl
@[simp] theorem w_aud (s : State) (a : Nat) (v : Word) : (s.w a v).aud = s.aud := rfl
@[simp] theorem w_con (s : State) (a : Nat) (v : Word) : (s.w a v).con = s.con := rfl
@[simp] theorem w_jtag (s : State) (a : Nat) (v : Word) : (s.w a v).jtag = s.jtag := rfl
@[simp] theorem w_tun (s : State) (a : Nat) (v : Word) : (s.w a v).tun = s.tun := rfl
@[simp] theorem w_link (s : State) (a : Nat) (v : Word) : (s.w a v).link = s.link := rfl
@[simp] theorem w_cs (s : State) (a : Nat) (v : Word) : (s.w a v).cs = s.cs := rfl
@[simp] theorem w_fb (s : State) (a : Nat) (v : Word) : (s.w a v).fb = s.fb := rfl
@[simp] theorem w_obs (s : State) (a : Nat) (v : Word) : (s.w a v).obs = s.obs := rfl
@[simp] theorem w_fus (s : State) (a : Nat) (v : Word) : (s.w a v).fus = s.fus := rfl
@[simp] theorem w_learn (s : State) (a : Nat) (v : Word) : (s.w a v).learn = s.learn := rfl
@[simp] theorem w_snap (s : State) (a : Nat) (v : Word) : (s.w a v).snap = s.snap := rfl
@[simp] theorem w_free (s : State) (a : Nat) (v : Word) : (s.w a v).free = s.free := rfl
@[simp] theorem w_pending (s : State) (a : Nat) (v : Word) : (s.w a v).pending = s.pending := rfl
@[simp] theorem w_ringByte (s : State) (a : Nat) (v : Word) (x : Nat) : (s.w a v).ringByte x = s.ringByte x := rfl
@[simp] theorem w_queue (s : State) (a : Nat) (v : Word) (x : Nat) : (s.w a v).queue x = s.queue x := rfl

@[simp] theorem wf_till (s : State) (a lo n v : Nat) : (s.wf a lo n v).till = s.till := rfl
@[simp] theorem wf_role (s : State) (a lo n v : Nat) : (s.wf a lo n v).role = s.role := rfl
@[simp] theorem wf_rst (s : State) (a lo n v : Nat) : (s.wf a lo n v).rst = s.rst := rfl
@[simp] theorem wf_ring (s : State) (a lo n v : Nat) : (s.wf a lo n v).ring = s.ring := rfl
@[simp] theorem wf_mb (s : State) (a lo n v : Nat) : (s.wf a lo n v).mb = s.mb := rfl
@[simp] theorem wf_queues (s : State) (a lo n v : Nat) : (s.wf a lo n v).queues = s.queues := rfl
@[simp] theorem wf_port (s : State) (a lo n v : Nat) : (s.wf a lo n v).port = s.port := rfl
@[simp] theorem wf_tel (s : State) (a lo n v : Nat) : (s.wf a lo n v).tel = s.tel := rfl
@[simp] theorem wf_ldg (s : State) (a lo n v : Nat) : (s.wf a lo n v).ldg = s.ldg := rfl
@[simp] theorem wf_vault (s : State) (a lo n v : Nat) : (s.wf a lo n v).vault = s.vault := rfl
@[simp] theorem wf_cpt (s : State) (a lo n v : Nat) : (s.wf a lo n v).cpt = s.cpt := rfl
@[simp] theorem wf_prf (s : State) (a lo n v : Nat) : (s.wf a lo n v).prf = s.prf := rfl
@[simp] theorem wf_doors (s : State) (a lo n v : Nat) : (s.wf a lo n v).doors = s.doors := rfl
@[simp] theorem wf_fio (s : State) (a lo n v : Nat) : (s.wf a lo n v).fio = s.fio := rfl
@[simp] theorem wf_can (s : State) (a lo n v : Nat) : (s.wf a lo n v).can = s.can := rfl
@[simp] theorem wf_purse (s : State) (a lo n v : Nat) : (s.wf a lo n v).purse = s.purse := rfl
@[simp] theorem wf_vf (s : State) (a lo n v : Nat) : (s.wf a lo n v).vf = s.vf := rfl
@[simp] theorem wf_pwr (s : State) (a lo n v : Nat) : (s.wf a lo n v).pwr = s.pwr := rfl
@[simp] theorem wf_par (s : State) (a lo n v : Nat) : (s.wf a lo n v).par = s.par := rfl
@[simp] theorem wf_mint (s : State) (a lo n v : Nat) : (s.wf a lo n v).mint = s.mint := rfl
@[simp] theorem wf_banks (s : State) (a lo n v : Nat) : (s.wf a lo n v).banks = s.banks := rfl
@[simp] theorem wf_aud (s : State) (a lo n v : Nat) : (s.wf a lo n v).aud = s.aud := rfl
@[simp] theorem wf_con (s : State) (a lo n v : Nat) : (s.wf a lo n v).con = s.con := rfl
@[simp] theorem wf_jtag (s : State) (a lo n v : Nat) : (s.wf a lo n v).jtag = s.jtag := rfl
@[simp] theorem wf_tun (s : State) (a lo n v : Nat) : (s.wf a lo n v).tun = s.tun := rfl
@[simp] theorem wf_link (s : State) (a lo n v : Nat) : (s.wf a lo n v).link = s.link := rfl
@[simp] theorem wf_cs (s : State) (a lo n v : Nat) : (s.wf a lo n v).cs = s.cs := rfl
@[simp] theorem wf_fb (s : State) (a lo n v : Nat) : (s.wf a lo n v).fb = s.fb := rfl
@[simp] theorem wf_obs (s : State) (a lo n v : Nat) : (s.wf a lo n v).obs = s.obs := rfl
@[simp] theorem wf_fus (s : State) (a lo n v : Nat) : (s.wf a lo n v).fus = s.fus := rfl
@[simp] theorem wf_learn (s : State) (a lo n v : Nat) : (s.wf a lo n v).learn = s.learn := rfl
@[simp] theorem wf_snap (s : State) (a lo n v : Nat) : (s.wf a lo n v).snap = s.snap := rfl
@[simp] theorem wf_free (s : State) (a lo n v : Nat) : (s.wf a lo n v).free = s.free := rfl
@[simp] theorem wf_pending (s : State) (a lo n v : Nat) : (s.wf a lo n v).pending = s.pending := rfl
@[simp] theorem wf_ringByte (s : State) (a lo n v : Nat) (x : Nat) : (s.wf a lo n v).ringByte x = s.ringByte x := rfl
@[simp] theorem wf_queue (s : State) (a lo n v : Nat) (x : Nat) : (s.wf a lo n v).queue x = s.queue x := rfl

@[simp] theorem wb_till (s : State) (a i : Nat) (b : Bool) : (s.wb a i b).till = s.till := rfl
@[simp] theorem wb_role (s : State) (a i : Nat) (b : Bool) : (s.wb a i b).role = s.role := rfl
@[simp] theorem wb_rst (s : State) (a i : Nat) (b : Bool) : (s.wb a i b).rst = s.rst := rfl
@[simp] theorem wb_ring (s : State) (a i : Nat) (b : Bool) : (s.wb a i b).ring = s.ring := rfl
@[simp] theorem wb_mb (s : State) (a i : Nat) (b : Bool) : (s.wb a i b).mb = s.mb := rfl
@[simp] theorem wb_queues (s : State) (a i : Nat) (b : Bool) : (s.wb a i b).queues = s.queues := rfl
@[simp] theorem wb_port (s : State) (a i : Nat) (b : Bool) : (s.wb a i b).port = s.port := rfl
@[simp] theorem wb_tel (s : State) (a i : Nat) (b : Bool) : (s.wb a i b).tel = s.tel := rfl
@[simp] theorem wb_ldg (s : State) (a i : Nat) (b : Bool) : (s.wb a i b).ldg = s.ldg := rfl
@[simp] theorem wb_vault (s : State) (a i : Nat) (b : Bool) : (s.wb a i b).vault = s.vault := rfl
@[simp] theorem wb_cpt (s : State) (a i : Nat) (b : Bool) : (s.wb a i b).cpt = s.cpt := rfl
@[simp] theorem wb_prf (s : State) (a i : Nat) (b : Bool) : (s.wb a i b).prf = s.prf := rfl
@[simp] theorem wb_doors (s : State) (a i : Nat) (b : Bool) : (s.wb a i b).doors = s.doors := rfl
@[simp] theorem wb_fio (s : State) (a i : Nat) (b : Bool) : (s.wb a i b).fio = s.fio := rfl
@[simp] theorem wb_can (s : State) (a i : Nat) (b : Bool) : (s.wb a i b).can = s.can := rfl
@[simp] theorem wb_purse (s : State) (a i : Nat) (b : Bool) : (s.wb a i b).purse = s.purse := rfl
@[simp] theorem wb_vf (s : State) (a i : Nat) (b : Bool) : (s.wb a i b).vf = s.vf := rfl
@[simp] theorem wb_pwr (s : State) (a i : Nat) (b : Bool) : (s.wb a i b).pwr = s.pwr := rfl
@[simp] theorem wb_par (s : State) (a i : Nat) (b : Bool) : (s.wb a i b).par = s.par := rfl
@[simp] theorem wb_mint (s : State) (a i : Nat) (b : Bool) : (s.wb a i b).mint = s.mint := rfl
@[simp] theorem wb_banks (s : State) (a i : Nat) (b : Bool) : (s.wb a i b).banks = s.banks := rfl
@[simp] theorem wb_aud (s : State) (a i : Nat) (b : Bool) : (s.wb a i b).aud = s.aud := rfl
@[simp] theorem wb_con (s : State) (a i : Nat) (b : Bool) : (s.wb a i b).con = s.con := rfl
@[simp] theorem wb_jtag (s : State) (a i : Nat) (b : Bool) : (s.wb a i b).jtag = s.jtag := rfl
@[simp] theorem wb_tun (s : State) (a i : Nat) (b : Bool) : (s.wb a i b).tun = s.tun := rfl
@[simp] theorem wb_link (s : State) (a i : Nat) (b : Bool) : (s.wb a i b).link = s.link := rfl
@[simp] theorem wb_cs (s : State) (a i : Nat) (b : Bool) : (s.wb a i b).cs = s.cs := rfl
@[simp] theorem wb_fb (s : State) (a i : Nat) (b : Bool) : (s.wb a i b).fb = s.fb := rfl
@[simp] theorem wb_obs (s : State) (a i : Nat) (b : Bool) : (s.wb a i b).obs = s.obs := rfl
@[simp] theorem wb_fus (s : State) (a i : Nat) (b : Bool) : (s.wb a i b).fus = s.fus := rfl
@[simp] theorem wb_learn (s : State) (a i : Nat) (b : Bool) : (s.wb a i b).learn = s.learn := rfl
@[simp] theorem wb_snap (s : State) (a i : Nat) (b : Bool) : (s.wb a i b).snap = s.snap := rfl
@[simp] theorem wb_free (s : State) (a i : Nat) (b : Bool) : (s.wb a i b).free = s.free := rfl
@[simp] theorem wb_pending (s : State) (a i : Nat) (b : Bool) : (s.wb a i b).pending = s.pending := rfl
@[simp] theorem wb_ringByte (s : State) (a i : Nat) (b : Bool) (x : Nat) : (s.wb a i b).ringByte x = s.ringByte x := rfl
@[simp] theorem wb_queue (s : State) (a i : Nat) (b : Bool) (x : Nat) : (s.wb a i b).queue x = s.queue x := rfl

@[simp] theorem addF_till (s : State) (a lo n k : Nat) : (s.addF a lo n k).till = s.till := rfl
@[simp] theorem addF_role (s : State) (a lo n k : Nat) : (s.addF a lo n k).role = s.role := rfl
@[simp] theorem addF_rst (s : State) (a lo n k : Nat) : (s.addF a lo n k).rst = s.rst := rfl
@[simp] theorem addF_ring (s : State) (a lo n k : Nat) : (s.addF a lo n k).ring = s.ring := rfl
@[simp] theorem addF_mb (s : State) (a lo n k : Nat) : (s.addF a lo n k).mb = s.mb := rfl
@[simp] theorem addF_queues (s : State) (a lo n k : Nat) : (s.addF a lo n k).queues = s.queues := rfl
@[simp] theorem addF_port (s : State) (a lo n k : Nat) : (s.addF a lo n k).port = s.port := rfl
@[simp] theorem addF_tel (s : State) (a lo n k : Nat) : (s.addF a lo n k).tel = s.tel := rfl
@[simp] theorem addF_ldg (s : State) (a lo n k : Nat) : (s.addF a lo n k).ldg = s.ldg := rfl
@[simp] theorem addF_vault (s : State) (a lo n k : Nat) : (s.addF a lo n k).vault = s.vault := rfl
@[simp] theorem addF_cpt (s : State) (a lo n k : Nat) : (s.addF a lo n k).cpt = s.cpt := rfl
@[simp] theorem addF_prf (s : State) (a lo n k : Nat) : (s.addF a lo n k).prf = s.prf := rfl
@[simp] theorem addF_doors (s : State) (a lo n k : Nat) : (s.addF a lo n k).doors = s.doors := rfl
@[simp] theorem addF_fio (s : State) (a lo n k : Nat) : (s.addF a lo n k).fio = s.fio := rfl
@[simp] theorem addF_can (s : State) (a lo n k : Nat) : (s.addF a lo n k).can = s.can := rfl
@[simp] theorem addF_purse (s : State) (a lo n k : Nat) : (s.addF a lo n k).purse = s.purse := rfl
@[simp] theorem addF_vf (s : State) (a lo n k : Nat) : (s.addF a lo n k).vf = s.vf := rfl
@[simp] theorem addF_pwr (s : State) (a lo n k : Nat) : (s.addF a lo n k).pwr = s.pwr := rfl
@[simp] theorem addF_par (s : State) (a lo n k : Nat) : (s.addF a lo n k).par = s.par := rfl
@[simp] theorem addF_mint (s : State) (a lo n k : Nat) : (s.addF a lo n k).mint = s.mint := rfl
@[simp] theorem addF_banks (s : State) (a lo n k : Nat) : (s.addF a lo n k).banks = s.banks := rfl
@[simp] theorem addF_aud (s : State) (a lo n k : Nat) : (s.addF a lo n k).aud = s.aud := rfl
@[simp] theorem addF_con (s : State) (a lo n k : Nat) : (s.addF a lo n k).con = s.con := rfl
@[simp] theorem addF_jtag (s : State) (a lo n k : Nat) : (s.addF a lo n k).jtag = s.jtag := rfl
@[simp] theorem addF_tun (s : State) (a lo n k : Nat) : (s.addF a lo n k).tun = s.tun := rfl
@[simp] theorem addF_link (s : State) (a lo n k : Nat) : (s.addF a lo n k).link = s.link := rfl
@[simp] theorem addF_cs (s : State) (a lo n k : Nat) : (s.addF a lo n k).cs = s.cs := rfl
@[simp] theorem addF_fb (s : State) (a lo n k : Nat) : (s.addF a lo n k).fb = s.fb := rfl
@[simp] theorem addF_obs (s : State) (a lo n k : Nat) : (s.addF a lo n k).obs = s.obs := rfl
@[simp] theorem addF_fus (s : State) (a lo n k : Nat) : (s.addF a lo n k).fus = s.fus := rfl
@[simp] theorem addF_learn (s : State) (a lo n k : Nat) : (s.addF a lo n k).learn = s.learn := rfl
@[simp] theorem addF_snap (s : State) (a lo n k : Nat) : (s.addF a lo n k).snap = s.snap := rfl
@[simp] theorem addF_free (s : State) (a lo n k : Nat) : (s.addF a lo n k).free = s.free := rfl
@[simp] theorem addF_pending (s : State) (a lo n k : Nat) : (s.addF a lo n k).pending = s.pending := rfl
@[simp] theorem addF_ringByte (s : State) (a lo n k : Nat) (x : Nat) : (s.addF a lo n k).ringByte x = s.ringByte x := rfl
@[simp] theorem addF_queue (s : State) (a lo n k : Nat) (x : Nat) : (s.addF a lo n k).queue x = s.queue x := rfl

@[simp] theorem wTill_till (s : State) (lo hi t : Nat) : (s.wTill lo hi t).till = s.till := rfl
@[simp] theorem wTill_role (s : State) (lo hi t : Nat) : (s.wTill lo hi t).role = s.role := rfl
@[simp] theorem wTill_rst (s : State) (lo hi t : Nat) : (s.wTill lo hi t).rst = s.rst := rfl
@[simp] theorem wTill_ring (s : State) (lo hi t : Nat) : (s.wTill lo hi t).ring = s.ring := rfl
@[simp] theorem wTill_mb (s : State) (lo hi t : Nat) : (s.wTill lo hi t).mb = s.mb := rfl
@[simp] theorem wTill_queues (s : State) (lo hi t : Nat) : (s.wTill lo hi t).queues = s.queues := rfl
@[simp] theorem wTill_port (s : State) (lo hi t : Nat) : (s.wTill lo hi t).port = s.port := rfl
@[simp] theorem wTill_tel (s : State) (lo hi t : Nat) : (s.wTill lo hi t).tel = s.tel := rfl
@[simp] theorem wTill_ldg (s : State) (lo hi t : Nat) : (s.wTill lo hi t).ldg = s.ldg := rfl
@[simp] theorem wTill_vault (s : State) (lo hi t : Nat) : (s.wTill lo hi t).vault = s.vault := rfl
@[simp] theorem wTill_cpt (s : State) (lo hi t : Nat) : (s.wTill lo hi t).cpt = s.cpt := rfl
@[simp] theorem wTill_prf (s : State) (lo hi t : Nat) : (s.wTill lo hi t).prf = s.prf := rfl
@[simp] theorem wTill_doors (s : State) (lo hi t : Nat) : (s.wTill lo hi t).doors = s.doors := rfl
@[simp] theorem wTill_fio (s : State) (lo hi t : Nat) : (s.wTill lo hi t).fio = s.fio := rfl
@[simp] theorem wTill_can (s : State) (lo hi t : Nat) : (s.wTill lo hi t).can = s.can := rfl
@[simp] theorem wTill_purse (s : State) (lo hi t : Nat) : (s.wTill lo hi t).purse = s.purse := rfl
@[simp] theorem wTill_vf (s : State) (lo hi t : Nat) : (s.wTill lo hi t).vf = s.vf := rfl
@[simp] theorem wTill_pwr (s : State) (lo hi t : Nat) : (s.wTill lo hi t).pwr = s.pwr := rfl
@[simp] theorem wTill_par (s : State) (lo hi t : Nat) : (s.wTill lo hi t).par = s.par := rfl
@[simp] theorem wTill_mint (s : State) (lo hi t : Nat) : (s.wTill lo hi t).mint = s.mint := rfl
@[simp] theorem wTill_banks (s : State) (lo hi t : Nat) : (s.wTill lo hi t).banks = s.banks := rfl
@[simp] theorem wTill_aud (s : State) (lo hi t : Nat) : (s.wTill lo hi t).aud = s.aud := rfl
@[simp] theorem wTill_con (s : State) (lo hi t : Nat) : (s.wTill lo hi t).con = s.con := rfl
@[simp] theorem wTill_jtag (s : State) (lo hi t : Nat) : (s.wTill lo hi t).jtag = s.jtag := rfl
@[simp] theorem wTill_tun (s : State) (lo hi t : Nat) : (s.wTill lo hi t).tun = s.tun := rfl
@[simp] theorem wTill_link (s : State) (lo hi t : Nat) : (s.wTill lo hi t).link = s.link := rfl
@[simp] theorem wTill_cs (s : State) (lo hi t : Nat) : (s.wTill lo hi t).cs = s.cs := rfl
@[simp] theorem wTill_fb (s : State) (lo hi t : Nat) : (s.wTill lo hi t).fb = s.fb := rfl
@[simp] theorem wTill_obs (s : State) (lo hi t : Nat) : (s.wTill lo hi t).obs = s.obs := rfl
@[simp] theorem wTill_fus (s : State) (lo hi t : Nat) : (s.wTill lo hi t).fus = s.fus := rfl
@[simp] theorem wTill_learn (s : State) (lo hi t : Nat) : (s.wTill lo hi t).learn = s.learn := rfl
@[simp] theorem wTill_snap (s : State) (lo hi t : Nat) : (s.wTill lo hi t).snap = s.snap := rfl
@[simp] theorem wTill_free (s : State) (lo hi t : Nat) : (s.wTill lo hi t).free = s.free := rfl
@[simp] theorem wTill_pending (s : State) (lo hi t : Nat) : (s.wTill lo hi t).pending = s.pending := rfl
@[simp] theorem wTill_ringByte (s : State) (lo hi t : Nat) (x : Nat) : (s.wTill lo hi t).ringByte x = s.ringByte x := rfl
@[simp] theorem wTill_queue (s : State) (lo hi t : Nat) (x : Nat) : (s.wTill lo hi t).queue x = s.queue x := rfl

@[simp] theorem setEn_till (s : State) (b : Nat) (v : Bool) : (s.setEn b v).till = s.till := rfl
@[simp] theorem setEn_role (s : State) (b : Nat) (v : Bool) : (s.setEn b v).role = s.role := rfl
@[simp] theorem setEn_rst (s : State) (b : Nat) (v : Bool) : (s.setEn b v).rst = s.rst := rfl
@[simp] theorem setEn_ring (s : State) (b : Nat) (v : Bool) : (s.setEn b v).ring = s.ring := rfl
@[simp] theorem setEn_mb (s : State) (b : Nat) (v : Bool) : (s.setEn b v).mb = s.mb := rfl
@[simp] theorem setEn_queues (s : State) (b : Nat) (v : Bool) : (s.setEn b v).queues = s.queues := rfl
@[simp] theorem setEn_port (s : State) (b : Nat) (v : Bool) : (s.setEn b v).port = s.port := rfl
@[simp] theorem setEn_tel (s : State) (b : Nat) (v : Bool) : (s.setEn b v).tel = s.tel := rfl
@[simp] theorem setEn_ldg (s : State) (b : Nat) (v : Bool) : (s.setEn b v).ldg = s.ldg := rfl
@[simp] theorem setEn_vault (s : State) (b : Nat) (v : Bool) : (s.setEn b v).vault = s.vault := rfl
@[simp] theorem setEn_cpt (s : State) (b : Nat) (v : Bool) : (s.setEn b v).cpt = s.cpt := rfl
@[simp] theorem setEn_prf (s : State) (b : Nat) (v : Bool) : (s.setEn b v).prf = s.prf := rfl
@[simp] theorem setEn_doors (s : State) (b : Nat) (v : Bool) : (s.setEn b v).doors = s.doors := rfl
@[simp] theorem setEn_fio (s : State) (b : Nat) (v : Bool) : (s.setEn b v).fio = s.fio := rfl
@[simp] theorem setEn_can (s : State) (b : Nat) (v : Bool) : (s.setEn b v).can = s.can := rfl
@[simp] theorem setEn_purse (s : State) (b : Nat) (v : Bool) : (s.setEn b v).purse = s.purse := rfl
@[simp] theorem setEn_vf (s : State) (b : Nat) (v : Bool) : (s.setEn b v).vf = s.vf := rfl
@[simp] theorem setEn_pwr (s : State) (b : Nat) (v : Bool) : (s.setEn b v).pwr = s.pwr := rfl
@[simp] theorem setEn_par (s : State) (b : Nat) (v : Bool) : (s.setEn b v).par = s.par := rfl
@[simp] theorem setEn_mint (s : State) (b : Nat) (v : Bool) : (s.setEn b v).mint = s.mint := rfl
@[simp] theorem setEn_banks (s : State) (b : Nat) (v : Bool) : (s.setEn b v).banks = s.banks := rfl
@[simp] theorem setEn_aud (s : State) (b : Nat) (v : Bool) : (s.setEn b v).aud = s.aud := rfl
@[simp] theorem setEn_con (s : State) (b : Nat) (v : Bool) : (s.setEn b v).con = s.con := rfl
@[simp] theorem setEn_jtag (s : State) (b : Nat) (v : Bool) : (s.setEn b v).jtag = s.jtag := rfl
@[simp] theorem setEn_tun (s : State) (b : Nat) (v : Bool) : (s.setEn b v).tun = s.tun := rfl
@[simp] theorem setEn_link (s : State) (b : Nat) (v : Bool) : (s.setEn b v).link = s.link := rfl
@[simp] theorem setEn_cs (s : State) (b : Nat) (v : Bool) : (s.setEn b v).cs = s.cs := rfl
@[simp] theorem setEn_fb (s : State) (b : Nat) (v : Bool) : (s.setEn b v).fb = s.fb := rfl
@[simp] theorem setEn_obs (s : State) (b : Nat) (v : Bool) : (s.setEn b v).obs = s.obs := rfl
@[simp] theorem setEn_fus (s : State) (b : Nat) (v : Bool) : (s.setEn b v).fus = s.fus := rfl
@[simp] theorem setEn_learn (s : State) (b : Nat) (v : Bool) : (s.setEn b v).learn = s.learn := rfl
@[simp] theorem setEn_snap (s : State) (b : Nat) (v : Bool) : (s.setEn b v).snap = s.snap := rfl
@[simp] theorem setEn_free (s : State) (b : Nat) (v : Bool) : (s.setEn b v).free = s.free := rfl
@[simp] theorem setEn_pending (s : State) (b : Nat) (v : Bool) : (s.setEn b v).pending = s.pending := rfl
@[simp] theorem setEn_ringByte (s : State) (b : Nat) (v : Bool) (x : Nat) : (s.setEn b v).ringByte x = s.ringByte x := rfl
@[simp] theorem setEn_queue (s : State) (b : Nat) (v : Bool) (x : Nat) : (s.setEn b v).queue x = s.queue x := rfl

@[simp] theorem setFlt_till (s : State) (b i : Nat) : (s.setFlt b i).till = s.till := rfl
@[simp] theorem setFlt_role (s : State) (b i : Nat) : (s.setFlt b i).role = s.role := rfl
@[simp] theorem setFlt_rst (s : State) (b i : Nat) : (s.setFlt b i).rst = s.rst := rfl
@[simp] theorem setFlt_ring (s : State) (b i : Nat) : (s.setFlt b i).ring = s.ring := rfl
@[simp] theorem setFlt_mb (s : State) (b i : Nat) : (s.setFlt b i).mb = s.mb := rfl
@[simp] theorem setFlt_queues (s : State) (b i : Nat) : (s.setFlt b i).queues = s.queues := rfl
@[simp] theorem setFlt_port (s : State) (b i : Nat) : (s.setFlt b i).port = s.port := rfl
@[simp] theorem setFlt_tel (s : State) (b i : Nat) : (s.setFlt b i).tel = s.tel := rfl
@[simp] theorem setFlt_ldg (s : State) (b i : Nat) : (s.setFlt b i).ldg = s.ldg := rfl
@[simp] theorem setFlt_vault (s : State) (b i : Nat) : (s.setFlt b i).vault = s.vault := rfl
@[simp] theorem setFlt_cpt (s : State) (b i : Nat) : (s.setFlt b i).cpt = s.cpt := rfl
@[simp] theorem setFlt_prf (s : State) (b i : Nat) : (s.setFlt b i).prf = s.prf := rfl
@[simp] theorem setFlt_doors (s : State) (b i : Nat) : (s.setFlt b i).doors = s.doors := rfl
@[simp] theorem setFlt_fio (s : State) (b i : Nat) : (s.setFlt b i).fio = s.fio := rfl
@[simp] theorem setFlt_can (s : State) (b i : Nat) : (s.setFlt b i).can = s.can := rfl
@[simp] theorem setFlt_purse (s : State) (b i : Nat) : (s.setFlt b i).purse = s.purse := rfl
@[simp] theorem setFlt_vf (s : State) (b i : Nat) : (s.setFlt b i).vf = s.vf := rfl
@[simp] theorem setFlt_pwr (s : State) (b i : Nat) : (s.setFlt b i).pwr = s.pwr := rfl
@[simp] theorem setFlt_par (s : State) (b i : Nat) : (s.setFlt b i).par = s.par := rfl
@[simp] theorem setFlt_mint (s : State) (b i : Nat) : (s.setFlt b i).mint = s.mint := rfl
@[simp] theorem setFlt_banks (s : State) (b i : Nat) : (s.setFlt b i).banks = s.banks := rfl
@[simp] theorem setFlt_aud (s : State) (b i : Nat) : (s.setFlt b i).aud = s.aud := rfl
@[simp] theorem setFlt_con (s : State) (b i : Nat) : (s.setFlt b i).con = s.con := rfl
@[simp] theorem setFlt_jtag (s : State) (b i : Nat) : (s.setFlt b i).jtag = s.jtag := rfl
@[simp] theorem setFlt_tun (s : State) (b i : Nat) : (s.setFlt b i).tun = s.tun := rfl
@[simp] theorem setFlt_link (s : State) (b i : Nat) : (s.setFlt b i).link = s.link := rfl
@[simp] theorem setFlt_cs (s : State) (b i : Nat) : (s.setFlt b i).cs = s.cs := rfl
@[simp] theorem setFlt_fb (s : State) (b i : Nat) : (s.setFlt b i).fb = s.fb := rfl
@[simp] theorem setFlt_obs (s : State) (b i : Nat) : (s.setFlt b i).obs = s.obs := rfl
@[simp] theorem setFlt_fus (s : State) (b i : Nat) : (s.setFlt b i).fus = s.fus := rfl
@[simp] theorem setFlt_learn (s : State) (b i : Nat) : (s.setFlt b i).learn = s.learn := rfl
@[simp] theorem setFlt_snap (s : State) (b i : Nat) : (s.setFlt b i).snap = s.snap := rfl
@[simp] theorem setFlt_free (s : State) (b i : Nat) : (s.setFlt b i).free = s.free := rfl
@[simp] theorem setFlt_pending (s : State) (b i : Nat) : (s.setFlt b i).pending = s.pending := rfl
@[simp] theorem setFlt_ringByte (s : State) (b i : Nat) (x : Nat) : (s.setFlt b i).ringByte x = s.ringByte x := rfl
@[simp] theorem setFlt_queue (s : State) (b i : Nat) (x : Nat) : (s.setFlt b i).queue x = s.queue x := rfl

@[simp] theorem clrFlt_till (s : State) (b i : Nat) : (s.clrFlt b i).till = s.till := rfl
@[simp] theorem clrFlt_role (s : State) (b i : Nat) : (s.clrFlt b i).role = s.role := rfl
@[simp] theorem clrFlt_rst (s : State) (b i : Nat) : (s.clrFlt b i).rst = s.rst := rfl
@[simp] theorem clrFlt_ring (s : State) (b i : Nat) : (s.clrFlt b i).ring = s.ring := rfl
@[simp] theorem clrFlt_mb (s : State) (b i : Nat) : (s.clrFlt b i).mb = s.mb := rfl
@[simp] theorem clrFlt_queues (s : State) (b i : Nat) : (s.clrFlt b i).queues = s.queues := rfl
@[simp] theorem clrFlt_port (s : State) (b i : Nat) : (s.clrFlt b i).port = s.port := rfl
@[simp] theorem clrFlt_tel (s : State) (b i : Nat) : (s.clrFlt b i).tel = s.tel := rfl
@[simp] theorem clrFlt_ldg (s : State) (b i : Nat) : (s.clrFlt b i).ldg = s.ldg := rfl
@[simp] theorem clrFlt_vault (s : State) (b i : Nat) : (s.clrFlt b i).vault = s.vault := rfl
@[simp] theorem clrFlt_cpt (s : State) (b i : Nat) : (s.clrFlt b i).cpt = s.cpt := rfl
@[simp] theorem clrFlt_prf (s : State) (b i : Nat) : (s.clrFlt b i).prf = s.prf := rfl
@[simp] theorem clrFlt_doors (s : State) (b i : Nat) : (s.clrFlt b i).doors = s.doors := rfl
@[simp] theorem clrFlt_fio (s : State) (b i : Nat) : (s.clrFlt b i).fio = s.fio := rfl
@[simp] theorem clrFlt_can (s : State) (b i : Nat) : (s.clrFlt b i).can = s.can := rfl
@[simp] theorem clrFlt_purse (s : State) (b i : Nat) : (s.clrFlt b i).purse = s.purse := rfl
@[simp] theorem clrFlt_vf (s : State) (b i : Nat) : (s.clrFlt b i).vf = s.vf := rfl
@[simp] theorem clrFlt_pwr (s : State) (b i : Nat) : (s.clrFlt b i).pwr = s.pwr := rfl
@[simp] theorem clrFlt_par (s : State) (b i : Nat) : (s.clrFlt b i).par = s.par := rfl
@[simp] theorem clrFlt_mint (s : State) (b i : Nat) : (s.clrFlt b i).mint = s.mint := rfl
@[simp] theorem clrFlt_banks (s : State) (b i : Nat) : (s.clrFlt b i).banks = s.banks := rfl
@[simp] theorem clrFlt_aud (s : State) (b i : Nat) : (s.clrFlt b i).aud = s.aud := rfl
@[simp] theorem clrFlt_con (s : State) (b i : Nat) : (s.clrFlt b i).con = s.con := rfl
@[simp] theorem clrFlt_jtag (s : State) (b i : Nat) : (s.clrFlt b i).jtag = s.jtag := rfl
@[simp] theorem clrFlt_tun (s : State) (b i : Nat) : (s.clrFlt b i).tun = s.tun := rfl
@[simp] theorem clrFlt_link (s : State) (b i : Nat) : (s.clrFlt b i).link = s.link := rfl
@[simp] theorem clrFlt_cs (s : State) (b i : Nat) : (s.clrFlt b i).cs = s.cs := rfl
@[simp] theorem clrFlt_fb (s : State) (b i : Nat) : (s.clrFlt b i).fb = s.fb := rfl
@[simp] theorem clrFlt_obs (s : State) (b i : Nat) : (s.clrFlt b i).obs = s.obs := rfl
@[simp] theorem clrFlt_fus (s : State) (b i : Nat) : (s.clrFlt b i).fus = s.fus := rfl
@[simp] theorem clrFlt_learn (s : State) (b i : Nat) : (s.clrFlt b i).learn = s.learn := rfl
@[simp] theorem clrFlt_snap (s : State) (b i : Nat) : (s.clrFlt b i).snap = s.snap := rfl
@[simp] theorem clrFlt_free (s : State) (b i : Nat) : (s.clrFlt b i).free = s.free := rfl
@[simp] theorem clrFlt_pending (s : State) (b i : Nat) : (s.clrFlt b i).pending = s.pending := rfl
@[simp] theorem clrFlt_ringByte (s : State) (b i : Nat) (x : Nat) : (s.clrFlt b i).ringByte x = s.ringByte x := rfl
@[simp] theorem clrFlt_queue (s : State) (b i : Nat) (x : Nat) : (s.clrFlt b i).queue x = s.queue x := rfl

@[simp] theorem setCode_till (s : State) (b c : Nat) : (s.setCode b c).till = s.till := rfl
@[simp] theorem setCode_role (s : State) (b c : Nat) : (s.setCode b c).role = s.role := rfl
@[simp] theorem setCode_rst (s : State) (b c : Nat) : (s.setCode b c).rst = s.rst := rfl
@[simp] theorem setCode_ring (s : State) (b c : Nat) : (s.setCode b c).ring = s.ring := rfl
@[simp] theorem setCode_mb (s : State) (b c : Nat) : (s.setCode b c).mb = s.mb := rfl
@[simp] theorem setCode_queues (s : State) (b c : Nat) : (s.setCode b c).queues = s.queues := rfl
@[simp] theorem setCode_port (s : State) (b c : Nat) : (s.setCode b c).port = s.port := rfl
@[simp] theorem setCode_tel (s : State) (b c : Nat) : (s.setCode b c).tel = s.tel := rfl
@[simp] theorem setCode_ldg (s : State) (b c : Nat) : (s.setCode b c).ldg = s.ldg := rfl
@[simp] theorem setCode_vault (s : State) (b c : Nat) : (s.setCode b c).vault = s.vault := rfl
@[simp] theorem setCode_cpt (s : State) (b c : Nat) : (s.setCode b c).cpt = s.cpt := rfl
@[simp] theorem setCode_prf (s : State) (b c : Nat) : (s.setCode b c).prf = s.prf := rfl
@[simp] theorem setCode_doors (s : State) (b c : Nat) : (s.setCode b c).doors = s.doors := rfl
@[simp] theorem setCode_fio (s : State) (b c : Nat) : (s.setCode b c).fio = s.fio := rfl
@[simp] theorem setCode_can (s : State) (b c : Nat) : (s.setCode b c).can = s.can := rfl
@[simp] theorem setCode_purse (s : State) (b c : Nat) : (s.setCode b c).purse = s.purse := rfl
@[simp] theorem setCode_vf (s : State) (b c : Nat) : (s.setCode b c).vf = s.vf := rfl
@[simp] theorem setCode_pwr (s : State) (b c : Nat) : (s.setCode b c).pwr = s.pwr := rfl
@[simp] theorem setCode_par (s : State) (b c : Nat) : (s.setCode b c).par = s.par := rfl
@[simp] theorem setCode_mint (s : State) (b c : Nat) : (s.setCode b c).mint = s.mint := rfl
@[simp] theorem setCode_banks (s : State) (b c : Nat) : (s.setCode b c).banks = s.banks := rfl
@[simp] theorem setCode_aud (s : State) (b c : Nat) : (s.setCode b c).aud = s.aud := rfl
@[simp] theorem setCode_con (s : State) (b c : Nat) : (s.setCode b c).con = s.con := rfl
@[simp] theorem setCode_jtag (s : State) (b c : Nat) : (s.setCode b c).jtag = s.jtag := rfl
@[simp] theorem setCode_tun (s : State) (b c : Nat) : (s.setCode b c).tun = s.tun := rfl
@[simp] theorem setCode_link (s : State) (b c : Nat) : (s.setCode b c).link = s.link := rfl
@[simp] theorem setCode_cs (s : State) (b c : Nat) : (s.setCode b c).cs = s.cs := rfl
@[simp] theorem setCode_fb (s : State) (b c : Nat) : (s.setCode b c).fb = s.fb := rfl
@[simp] theorem setCode_obs (s : State) (b c : Nat) : (s.setCode b c).obs = s.obs := rfl
@[simp] theorem setCode_fus (s : State) (b c : Nat) : (s.setCode b c).fus = s.fus := rfl
@[simp] theorem setCode_learn (s : State) (b c : Nat) : (s.setCode b c).learn = s.learn := rfl
@[simp] theorem setCode_snap (s : State) (b c : Nat) : (s.setCode b c).snap = s.snap := rfl
@[simp] theorem setCode_free (s : State) (b c : Nat) : (s.setCode b c).free = s.free := rfl
@[simp] theorem setCode_pending (s : State) (b c : Nat) : (s.setCode b c).pending = s.pending := rfl
@[simp] theorem setCode_ringByte (s : State) (b c : Nat) (x : Nat) : (s.setCode b c).ringByte x = s.ringByte x := rfl
@[simp] theorem setCode_queue (s : State) (b c : Nat) (x : Nat) : (s.setCode b c).queue x = s.queue x := rfl

@[simp] theorem count_till (s : State) (b : Nat) : (s.count b).till = s.till := rfl
@[simp] theorem count_role (s : State) (b : Nat) : (s.count b).role = s.role := rfl
@[simp] theorem count_rst (s : State) (b : Nat) : (s.count b).rst = s.rst := rfl
@[simp] theorem count_ring (s : State) (b : Nat) : (s.count b).ring = s.ring := rfl
@[simp] theorem count_mb (s : State) (b : Nat) : (s.count b).mb = s.mb := rfl
@[simp] theorem count_queues (s : State) (b : Nat) : (s.count b).queues = s.queues := rfl
@[simp] theorem count_port (s : State) (b : Nat) : (s.count b).port = s.port := rfl
@[simp] theorem count_tel (s : State) (b : Nat) : (s.count b).tel = s.tel := rfl
@[simp] theorem count_ldg (s : State) (b : Nat) : (s.count b).ldg = s.ldg := rfl
@[simp] theorem count_vault (s : State) (b : Nat) : (s.count b).vault = s.vault := rfl
@[simp] theorem count_cpt (s : State) (b : Nat) : (s.count b).cpt = s.cpt := rfl
@[simp] theorem count_prf (s : State) (b : Nat) : (s.count b).prf = s.prf := rfl
@[simp] theorem count_doors (s : State) (b : Nat) : (s.count b).doors = s.doors := rfl
@[simp] theorem count_fio (s : State) (b : Nat) : (s.count b).fio = s.fio := rfl
@[simp] theorem count_can (s : State) (b : Nat) : (s.count b).can = s.can := rfl
@[simp] theorem count_purse (s : State) (b : Nat) : (s.count b).purse = s.purse := rfl
@[simp] theorem count_vf (s : State) (b : Nat) : (s.count b).vf = s.vf := rfl
@[simp] theorem count_pwr (s : State) (b : Nat) : (s.count b).pwr = s.pwr := rfl
@[simp] theorem count_par (s : State) (b : Nat) : (s.count b).par = s.par := rfl
@[simp] theorem count_mint (s : State) (b : Nat) : (s.count b).mint = s.mint := rfl
@[simp] theorem count_banks (s : State) (b : Nat) : (s.count b).banks = s.banks := rfl
@[simp] theorem count_aud (s : State) (b : Nat) : (s.count b).aud = s.aud := rfl
@[simp] theorem count_con (s : State) (b : Nat) : (s.count b).con = s.con := rfl
@[simp] theorem count_jtag (s : State) (b : Nat) : (s.count b).jtag = s.jtag := rfl
@[simp] theorem count_tun (s : State) (b : Nat) : (s.count b).tun = s.tun := rfl
@[simp] theorem count_link (s : State) (b : Nat) : (s.count b).link = s.link := rfl
@[simp] theorem count_cs (s : State) (b : Nat) : (s.count b).cs = s.cs := rfl
@[simp] theorem count_fb (s : State) (b : Nat) : (s.count b).fb = s.fb := rfl
@[simp] theorem count_obs (s : State) (b : Nat) : (s.count b).obs = s.obs := rfl
@[simp] theorem count_fus (s : State) (b : Nat) : (s.count b).fus = s.fus := rfl
@[simp] theorem count_learn (s : State) (b : Nat) : (s.count b).learn = s.learn := rfl
@[simp] theorem count_snap (s : State) (b : Nat) : (s.count b).snap = s.snap := rfl
@[simp] theorem count_free (s : State) (b : Nat) : (s.count b).free = s.free := rfl
@[simp] theorem count_pending (s : State) (b : Nat) : (s.count b).pending = s.pending := rfl
@[simp] theorem count_ringByte (s : State) (b : Nat) (x : Nat) : (s.count b).ringByte x = s.ringByte x := rfl
@[simp] theorem count_queue (s : State) (b : Nat) (x : Nat) : (s.count b).queue x = s.queue x := rfl

@[simp] theorem updQ_till (s : State) (n : Nat) (f : Queue → Queue) : (s.updQ n f).till = s.till := rfl
@[simp] theorem updQ_role (s : State) (n : Nat) (f : Queue → Queue) : (s.updQ n f).role = s.role := rfl
@[simp] theorem updQ_rst (s : State) (n : Nat) (f : Queue → Queue) : (s.updQ n f).rst = s.rst := rfl
@[simp] theorem updQ_regs (s : State) (n : Nat) (f : Queue → Queue) : (s.updQ n f).regs = s.regs := rfl
@[simp] theorem updQ_ring (s : State) (n : Nat) (f : Queue → Queue) : (s.updQ n f).ring = s.ring := rfl
@[simp] theorem updQ_mb (s : State) (n : Nat) (f : Queue → Queue) : (s.updQ n f).mb = s.mb := rfl
@[simp] theorem updQ_queues (s : State) (n : Nat) (f : Queue → Queue) : (s.updQ n f).queues = updAt s.queues n f := rfl
@[simp] theorem updQ_port (s : State) (n : Nat) (f : Queue → Queue) : (s.updQ n f).port = s.port := rfl
@[simp] theorem updQ_tel (s : State) (n : Nat) (f : Queue → Queue) : (s.updQ n f).tel = s.tel := rfl
@[simp] theorem updQ_ldg (s : State) (n : Nat) (f : Queue → Queue) : (s.updQ n f).ldg = s.ldg := rfl
@[simp] theorem updQ_vault (s : State) (n : Nat) (f : Queue → Queue) : (s.updQ n f).vault = s.vault := rfl
@[simp] theorem updQ_cpt (s : State) (n : Nat) (f : Queue → Queue) : (s.updQ n f).cpt = s.cpt := rfl
@[simp] theorem updQ_prf (s : State) (n : Nat) (f : Queue → Queue) : (s.updQ n f).prf = s.prf := rfl
@[simp] theorem updQ_doors (s : State) (n : Nat) (f : Queue → Queue) : (s.updQ n f).doors = s.doors := rfl
@[simp] theorem updQ_fio (s : State) (n : Nat) (f : Queue → Queue) : (s.updQ n f).fio = s.fio := rfl
@[simp] theorem updQ_can (s : State) (n : Nat) (f : Queue → Queue) : (s.updQ n f).can = s.can := rfl
@[simp] theorem updQ_purse (s : State) (n : Nat) (f : Queue → Queue) : (s.updQ n f).purse = s.purse := rfl
@[simp] theorem updQ_vf (s : State) (n : Nat) (f : Queue → Queue) : (s.updQ n f).vf = s.vf := rfl
@[simp] theorem updQ_pwr (s : State) (n : Nat) (f : Queue → Queue) : (s.updQ n f).pwr = s.pwr := rfl
@[simp] theorem updQ_par (s : State) (n : Nat) (f : Queue → Queue) : (s.updQ n f).par = s.par := rfl
@[simp] theorem updQ_mint (s : State) (n : Nat) (f : Queue → Queue) : (s.updQ n f).mint = s.mint := rfl
@[simp] theorem updQ_banks (s : State) (n : Nat) (f : Queue → Queue) : (s.updQ n f).banks = s.banks := rfl
@[simp] theorem updQ_aud (s : State) (n : Nat) (f : Queue → Queue) : (s.updQ n f).aud = s.aud := rfl
@[simp] theorem updQ_con (s : State) (n : Nat) (f : Queue → Queue) : (s.updQ n f).con = s.con := rfl
@[simp] theorem updQ_jtag (s : State) (n : Nat) (f : Queue → Queue) : (s.updQ n f).jtag = s.jtag := rfl
@[simp] theorem updQ_tun (s : State) (n : Nat) (f : Queue → Queue) : (s.updQ n f).tun = s.tun := rfl
@[simp] theorem updQ_link (s : State) (n : Nat) (f : Queue → Queue) : (s.updQ n f).link = s.link := rfl
@[simp] theorem updQ_cs (s : State) (n : Nat) (f : Queue → Queue) : (s.updQ n f).cs = s.cs := rfl
@[simp] theorem updQ_fb (s : State) (n : Nat) (f : Queue → Queue) : (s.updQ n f).fb = s.fb := rfl
@[simp] theorem updQ_obs (s : State) (n : Nat) (f : Queue → Queue) : (s.updQ n f).obs = s.obs := rfl
@[simp] theorem updQ_fus (s : State) (n : Nat) (f : Queue → Queue) : (s.updQ n f).fus = s.fus := rfl
@[simp] theorem updQ_learn (s : State) (n : Nat) (f : Queue → Queue) : (s.updQ n f).learn = s.learn := rfl
@[simp] theorem updQ_snap (s : State) (n : Nat) (f : Queue → Queue) : (s.updQ n f).snap = s.snap := rfl
@[simp] theorem updQ_free (s : State) (n : Nat) (f : Queue → Queue) : (s.updQ n f).free = s.free := rfl
@[simp] theorem updQ_pending (s : State) (n : Nat) (f : Queue → Queue) : (s.updQ n f).pending = s.pending := rfl
@[simp] theorem updQ_r (s : State) (n : Nat) (f : Queue → Queue) (x : Nat) : (s.updQ n f).r x = s.r x := rfl
@[simp] theorem updQ_rf (s : State) (n : Nat) (f : Queue → Queue) (x lo m : Nat) : (s.updQ n f).rf x lo m = s.rf x lo m := rfl
@[simp] theorem updQ_rb (s : State) (n : Nat) (f : Queue → Queue) (x i : Nat) : (s.updQ n f).rb x i = s.rb x i := rfl
@[simp] theorem updQ_ringByte (s : State) (n : Nat) (f : Queue → Queue) (x : Nat) : (s.updQ n f).ringByte x = s.ringByte x := rfl

@[simp] theorem qPosted_till (s : State) (n k : Nat) : (s.qPosted n k).till = s.till := rfl
@[simp] theorem qPosted_role (s : State) (n k : Nat) : (s.qPosted n k).role = s.role := rfl
@[simp] theorem qPosted_rst (s : State) (n k : Nat) : (s.qPosted n k).rst = s.rst := rfl
@[simp] theorem qPosted_regs (s : State) (n k : Nat) : (s.qPosted n k).regs = s.regs := rfl
@[simp] theorem qPosted_ring (s : State) (n k : Nat) : (s.qPosted n k).ring = s.ring := rfl
@[simp] theorem qPosted_mb (s : State) (n k : Nat) : (s.qPosted n k).mb = s.mb := rfl
@[simp] theorem qPosted_port (s : State) (n k : Nat) : (s.qPosted n k).port = s.port := rfl
@[simp] theorem qPosted_tel (s : State) (n k : Nat) : (s.qPosted n k).tel = s.tel := rfl
@[simp] theorem qPosted_ldg (s : State) (n k : Nat) : (s.qPosted n k).ldg = s.ldg := rfl
@[simp] theorem qPosted_vault (s : State) (n k : Nat) : (s.qPosted n k).vault = s.vault := rfl
@[simp] theorem qPosted_cpt (s : State) (n k : Nat) : (s.qPosted n k).cpt = s.cpt := rfl
@[simp] theorem qPosted_prf (s : State) (n k : Nat) : (s.qPosted n k).prf = s.prf := rfl
@[simp] theorem qPosted_doors (s : State) (n k : Nat) : (s.qPosted n k).doors = s.doors := rfl
@[simp] theorem qPosted_fio (s : State) (n k : Nat) : (s.qPosted n k).fio = s.fio := rfl
@[simp] theorem qPosted_can (s : State) (n k : Nat) : (s.qPosted n k).can = s.can := rfl
@[simp] theorem qPosted_purse (s : State) (n k : Nat) : (s.qPosted n k).purse = s.purse := rfl
@[simp] theorem qPosted_vf (s : State) (n k : Nat) : (s.qPosted n k).vf = s.vf := rfl
@[simp] theorem qPosted_pwr (s : State) (n k : Nat) : (s.qPosted n k).pwr = s.pwr := rfl
@[simp] theorem qPosted_par (s : State) (n k : Nat) : (s.qPosted n k).par = s.par := rfl
@[simp] theorem qPosted_mint (s : State) (n k : Nat) : (s.qPosted n k).mint = s.mint := rfl
@[simp] theorem qPosted_banks (s : State) (n k : Nat) : (s.qPosted n k).banks = s.banks := rfl
@[simp] theorem qPosted_aud (s : State) (n k : Nat) : (s.qPosted n k).aud = s.aud := rfl
@[simp] theorem qPosted_con (s : State) (n k : Nat) : (s.qPosted n k).con = s.con := rfl
@[simp] theorem qPosted_jtag (s : State) (n k : Nat) : (s.qPosted n k).jtag = s.jtag := rfl
@[simp] theorem qPosted_tun (s : State) (n k : Nat) : (s.qPosted n k).tun = s.tun := rfl
@[simp] theorem qPosted_link (s : State) (n k : Nat) : (s.qPosted n k).link = s.link := rfl
@[simp] theorem qPosted_cs (s : State) (n k : Nat) : (s.qPosted n k).cs = s.cs := rfl
@[simp] theorem qPosted_fb (s : State) (n k : Nat) : (s.qPosted n k).fb = s.fb := rfl
@[simp] theorem qPosted_obs (s : State) (n k : Nat) : (s.qPosted n k).obs = s.obs := rfl
@[simp] theorem qPosted_fus (s : State) (n k : Nat) : (s.qPosted n k).fus = s.fus := rfl
@[simp] theorem qPosted_learn (s : State) (n k : Nat) : (s.qPosted n k).learn = s.learn := rfl
@[simp] theorem qPosted_snap (s : State) (n k : Nat) : (s.qPosted n k).snap = s.snap := rfl
@[simp] theorem qPosted_free (s : State) (n k : Nat) : (s.qPosted n k).free = s.free := rfl
@[simp] theorem qPosted_pending (s : State) (n k : Nat) : (s.qPosted n k).pending = s.pending := rfl
@[simp] theorem qPosted_r (s : State) (n k : Nat) (x : Nat) : (s.qPosted n k).r x = s.r x := rfl
@[simp] theorem qPosted_rf (s : State) (n k : Nat) (x lo m : Nat) : (s.qPosted n k).rf x lo m = s.rf x lo m := rfl
@[simp] theorem qPosted_rb (s : State) (n k : Nat) (x i : Nat) : (s.qPosted n k).rb x i = s.rb x i := rfl
@[simp] theorem qPosted_ringByte (s : State) (n k : Nat) (x : Nat) : (s.qPosted n k).ringByte x = s.ringByte x := rfl

@[simp] theorem qDrop_till (s : State) (n : Nat) : (s.qDrop n).till = s.till := rfl
@[simp] theorem qDrop_role (s : State) (n : Nat) : (s.qDrop n).role = s.role := rfl
@[simp] theorem qDrop_rst (s : State) (n : Nat) : (s.qDrop n).rst = s.rst := rfl
@[simp] theorem qDrop_regs (s : State) (n : Nat) : (s.qDrop n).regs = s.regs := rfl
@[simp] theorem qDrop_ring (s : State) (n : Nat) : (s.qDrop n).ring = s.ring := rfl
@[simp] theorem qDrop_mb (s : State) (n : Nat) : (s.qDrop n).mb = s.mb := rfl
@[simp] theorem qDrop_port (s : State) (n : Nat) : (s.qDrop n).port = s.port := rfl
@[simp] theorem qDrop_tel (s : State) (n : Nat) : (s.qDrop n).tel = s.tel := rfl
@[simp] theorem qDrop_ldg (s : State) (n : Nat) : (s.qDrop n).ldg = s.ldg := rfl
@[simp] theorem qDrop_vault (s : State) (n : Nat) : (s.qDrop n).vault = s.vault := rfl
@[simp] theorem qDrop_cpt (s : State) (n : Nat) : (s.qDrop n).cpt = s.cpt := rfl
@[simp] theorem qDrop_prf (s : State) (n : Nat) : (s.qDrop n).prf = s.prf := rfl
@[simp] theorem qDrop_doors (s : State) (n : Nat) : (s.qDrop n).doors = s.doors := rfl
@[simp] theorem qDrop_fio (s : State) (n : Nat) : (s.qDrop n).fio = s.fio := rfl
@[simp] theorem qDrop_can (s : State) (n : Nat) : (s.qDrop n).can = s.can := rfl
@[simp] theorem qDrop_purse (s : State) (n : Nat) : (s.qDrop n).purse = s.purse := rfl
@[simp] theorem qDrop_vf (s : State) (n : Nat) : (s.qDrop n).vf = s.vf := rfl
@[simp] theorem qDrop_pwr (s : State) (n : Nat) : (s.qDrop n).pwr = s.pwr := rfl
@[simp] theorem qDrop_par (s : State) (n : Nat) : (s.qDrop n).par = s.par := rfl
@[simp] theorem qDrop_mint (s : State) (n : Nat) : (s.qDrop n).mint = s.mint := rfl
@[simp] theorem qDrop_banks (s : State) (n : Nat) : (s.qDrop n).banks = s.banks := rfl
@[simp] theorem qDrop_aud (s : State) (n : Nat) : (s.qDrop n).aud = s.aud := rfl
@[simp] theorem qDrop_con (s : State) (n : Nat) : (s.qDrop n).con = s.con := rfl
@[simp] theorem qDrop_jtag (s : State) (n : Nat) : (s.qDrop n).jtag = s.jtag := rfl
@[simp] theorem qDrop_tun (s : State) (n : Nat) : (s.qDrop n).tun = s.tun := rfl
@[simp] theorem qDrop_link (s : State) (n : Nat) : (s.qDrop n).link = s.link := rfl
@[simp] theorem qDrop_cs (s : State) (n : Nat) : (s.qDrop n).cs = s.cs := rfl
@[simp] theorem qDrop_fb (s : State) (n : Nat) : (s.qDrop n).fb = s.fb := rfl
@[simp] theorem qDrop_obs (s : State) (n : Nat) : (s.qDrop n).obs = s.obs := rfl
@[simp] theorem qDrop_fus (s : State) (n : Nat) : (s.qDrop n).fus = s.fus := rfl
@[simp] theorem qDrop_learn (s : State) (n : Nat) : (s.qDrop n).learn = s.learn := rfl
@[simp] theorem qDrop_snap (s : State) (n : Nat) : (s.qDrop n).snap = s.snap := rfl
@[simp] theorem qDrop_free (s : State) (n : Nat) : (s.qDrop n).free = s.free := rfl
@[simp] theorem qDrop_pending (s : State) (n : Nat) : (s.qDrop n).pending = s.pending := rfl
@[simp] theorem qDrop_r (s : State) (n : Nat) (x : Nat) : (s.qDrop n).r x = s.r x := rfl
@[simp] theorem qDrop_rf (s : State) (n : Nat) (x lo m : Nat) : (s.qDrop n).rf x lo m = s.rf x lo m := rfl
@[simp] theorem qDrop_rb (s : State) (n : Nat) (x i : Nat) : (s.qDrop n).rb x i = s.rb x i := rfl
@[simp] theorem qDrop_ringByte (s : State) (n : Nat) (x : Nat) : (s.qDrop n).ringByte x = s.ringByte x := rfl


@[simp] theorem setRingBytes_till (s : State) (a : Nat) (bs : List Byte) : (s.setRingBytes a bs).till = s.till := rfl
@[simp] theorem setRingBytes_role (s : State) (a : Nat) (bs : List Byte) : (s.setRingBytes a bs).role = s.role := rfl
@[simp] theorem setRingBytes_rst (s : State) (a : Nat) (bs : List Byte) : (s.setRingBytes a bs).rst = s.rst := rfl
@[simp] theorem setRingBytes_regs (s : State) (a : Nat) (bs : List Byte) : (s.setRingBytes a bs).regs = s.regs := rfl
@[simp] theorem setRingBytes_ring (s : State) (a : Nat) (bs : List Byte) : (s.setRingBytes a bs).ring = Sparse.setList (fun _ => 0) s.ring a 1 bs := rfl
@[simp] theorem setRingBytes_mb (s : State) (a : Nat) (bs : List Byte) : (s.setRingBytes a bs).mb = s.mb := rfl
@[simp] theorem setRingBytes_queues (s : State) (a : Nat) (bs : List Byte) : (s.setRingBytes a bs).queues = s.queues := rfl
@[simp] theorem setRingBytes_port (s : State) (a : Nat) (bs : List Byte) : (s.setRingBytes a bs).port = s.port := rfl
@[simp] theorem setRingBytes_tel (s : State) (a : Nat) (bs : List Byte) :
    (s.setRingBytes a bs).tel = { s.tel with bad := s.tel.bad.filter fun x => decide (x + 4 ≤ a) || decide (a + bs.length ≤ x) } :=
  rfl
@[simp] theorem setRingBytes_ldg (s : State) (a : Nat) (bs : List Byte) : (s.setRingBytes a bs).ldg = s.ldg := rfl
@[simp] theorem setRingBytes_vault (s : State) (a : Nat) (bs : List Byte) : (s.setRingBytes a bs).vault = s.vault := rfl
@[simp] theorem setRingBytes_cpt (s : State) (a : Nat) (bs : List Byte) : (s.setRingBytes a bs).cpt = s.cpt := rfl
@[simp] theorem setRingBytes_prf (s : State) (a : Nat) (bs : List Byte) : (s.setRingBytes a bs).prf = s.prf := rfl
@[simp] theorem setRingBytes_doors (s : State) (a : Nat) (bs : List Byte) : (s.setRingBytes a bs).doors = s.doors := rfl
@[simp] theorem setRingBytes_fio (s : State) (a : Nat) (bs : List Byte) : (s.setRingBytes a bs).fio = s.fio := rfl
@[simp] theorem setRingBytes_can (s : State) (a : Nat) (bs : List Byte) : (s.setRingBytes a bs).can = s.can := rfl
@[simp] theorem setRingBytes_purse (s : State) (a : Nat) (bs : List Byte) : (s.setRingBytes a bs).purse = s.purse := rfl
@[simp] theorem setRingBytes_vf (s : State) (a : Nat) (bs : List Byte) : (s.setRingBytes a bs).vf = s.vf := rfl
@[simp] theorem setRingBytes_pwr (s : State) (a : Nat) (bs : List Byte) : (s.setRingBytes a bs).pwr = s.pwr := rfl
@[simp] theorem setRingBytes_par (s : State) (a : Nat) (bs : List Byte) : (s.setRingBytes a bs).par = s.par := rfl
@[simp] theorem setRingBytes_mint (s : State) (a : Nat) (bs : List Byte) : (s.setRingBytes a bs).mint = s.mint := rfl
@[simp] theorem setRingBytes_banks (s : State) (a : Nat) (bs : List Byte) : (s.setRingBytes a bs).banks = s.banks := rfl
@[simp] theorem setRingBytes_aud (s : State) (a : Nat) (bs : List Byte) : (s.setRingBytes a bs).aud = s.aud := rfl
@[simp] theorem setRingBytes_con (s : State) (a : Nat) (bs : List Byte) : (s.setRingBytes a bs).con = s.con := rfl
@[simp] theorem setRingBytes_jtag (s : State) (a : Nat) (bs : List Byte) : (s.setRingBytes a bs).jtag = s.jtag := rfl
@[simp] theorem setRingBytes_tun (s : State) (a : Nat) (bs : List Byte) : (s.setRingBytes a bs).tun = s.tun := rfl
@[simp] theorem setRingBytes_link (s : State) (a : Nat) (bs : List Byte) : (s.setRingBytes a bs).link = s.link := rfl
@[simp] theorem setRingBytes_cs (s : State) (a : Nat) (bs : List Byte) : (s.setRingBytes a bs).cs = s.cs := rfl
@[simp] theorem setRingBytes_fb (s : State) (a : Nat) (bs : List Byte) : (s.setRingBytes a bs).fb = s.fb := rfl
@[simp] theorem setRingBytes_obs (s : State) (a : Nat) (bs : List Byte) : (s.setRingBytes a bs).obs = s.obs := rfl
@[simp] theorem setRingBytes_fus (s : State) (a : Nat) (bs : List Byte) : (s.setRingBytes a bs).fus = s.fus := rfl
@[simp] theorem setRingBytes_learn (s : State) (a : Nat) (bs : List Byte) : (s.setRingBytes a bs).learn = s.learn := rfl
@[simp] theorem setRingBytes_snap (s : State) (a : Nat) (bs : List Byte) : (s.setRingBytes a bs).snap = s.snap := rfl
@[simp] theorem setRingBytes_free (s : State) (a : Nat) (bs : List Byte) : (s.setRingBytes a bs).free = s.free := rfl
@[simp] theorem setRingBytes_pending (s : State) (a : Nat) (bs : List Byte) : (s.setRingBytes a bs).pending = s.pending := rfl
@[simp] theorem setRingBytes_r (s : State) (a : Nat) (bs : List Byte) (x : Nat) : (s.setRingBytes a bs).r x = s.r x := rfl
@[simp] theorem setRingBytes_rf (s : State) (a : Nat) (bs : List Byte) (x lo m : Nat) : (s.setRingBytes a bs).rf x lo m = s.rf x lo m := rfl
@[simp] theorem setRingBytes_rb (s : State) (a : Nat) (bs : List Byte) (x i : Nat) : (s.setRingBytes a bs).rb x i = s.rb x i := rfl
@[simp] theorem setRingBytes_queue (s : State) (a : Nat) (bs : List Byte) (x : Nat) : (s.setRingBytes a bs).queue x = s.queue x := rfl

@[simp] theorem updPort_till (s : State) (f : Port → Port) : (s.updPort f).till = s.till := rfl
@[simp] theorem updPort_role (s : State) (f : Port → Port) : (s.updPort f).role = s.role := rfl
@[simp] theorem updPort_rst (s : State) (f : Port → Port) : (s.updPort f).rst = s.rst := rfl
@[simp] theorem updPort_regs (s : State) (f : Port → Port) : (s.updPort f).regs = s.regs := rfl
@[simp] theorem updPort_ring (s : State) (f : Port → Port) : (s.updPort f).ring = s.ring := rfl
@[simp] theorem updPort_mb (s : State) (f : Port → Port) : (s.updPort f).mb = s.mb := rfl
@[simp] theorem updPort_queues (s : State) (f : Port → Port) : (s.updPort f).queues = s.queues := rfl
@[simp] theorem updPort_port (s : State) (f : Port → Port) : (s.updPort f).port = f s.port := rfl
@[simp] theorem updPort_tel (s : State) (f : Port → Port) : (s.updPort f).tel = s.tel := rfl
@[simp] theorem updPort_ldg (s : State) (f : Port → Port) : (s.updPort f).ldg = s.ldg := rfl
@[simp] theorem updPort_vault (s : State) (f : Port → Port) : (s.updPort f).vault = s.vault := rfl
@[simp] theorem updPort_cpt (s : State) (f : Port → Port) : (s.updPort f).cpt = s.cpt := rfl
@[simp] theorem updPort_prf (s : State) (f : Port → Port) : (s.updPort f).prf = s.prf := rfl
@[simp] theorem updPort_doors (s : State) (f : Port → Port) : (s.updPort f).doors = s.doors := rfl
@[simp] theorem updPort_fio (s : State) (f : Port → Port) : (s.updPort f).fio = s.fio := rfl
@[simp] theorem updPort_can (s : State) (f : Port → Port) : (s.updPort f).can = s.can := rfl
@[simp] theorem updPort_purse (s : State) (f : Port → Port) : (s.updPort f).purse = s.purse := rfl
@[simp] theorem updPort_vf (s : State) (f : Port → Port) : (s.updPort f).vf = s.vf := rfl
@[simp] theorem updPort_pwr (s : State) (f : Port → Port) : (s.updPort f).pwr = s.pwr := rfl
@[simp] theorem updPort_par (s : State) (f : Port → Port) : (s.updPort f).par = s.par := rfl
@[simp] theorem updPort_mint (s : State) (f : Port → Port) : (s.updPort f).mint = s.mint := rfl
@[simp] theorem updPort_banks (s : State) (f : Port → Port) : (s.updPort f).banks = s.banks := rfl
@[simp] theorem updPort_aud (s : State) (f : Port → Port) : (s.updPort f).aud = s.aud := rfl
@[simp] theorem updPort_con (s : State) (f : Port → Port) : (s.updPort f).con = s.con := rfl
@[simp] theorem updPort_jtag (s : State) (f : Port → Port) : (s.updPort f).jtag = s.jtag := rfl
@[simp] theorem updPort_tun (s : State) (f : Port → Port) : (s.updPort f).tun = s.tun := rfl
@[simp] theorem updPort_link (s : State) (f : Port → Port) : (s.updPort f).link = s.link := rfl
@[simp] theorem updPort_cs (s : State) (f : Port → Port) : (s.updPort f).cs = s.cs := rfl
@[simp] theorem updPort_fb (s : State) (f : Port → Port) : (s.updPort f).fb = s.fb := rfl
@[simp] theorem updPort_obs (s : State) (f : Port → Port) : (s.updPort f).obs = s.obs := rfl
@[simp] theorem updPort_fus (s : State) (f : Port → Port) : (s.updPort f).fus = s.fus := rfl
@[simp] theorem updPort_learn (s : State) (f : Port → Port) : (s.updPort f).learn = s.learn := rfl
@[simp] theorem updPort_snap (s : State) (f : Port → Port) : (s.updPort f).snap = s.snap := rfl
@[simp] theorem updPort_free (s : State) (f : Port → Port) : (s.updPort f).free = s.free := rfl
@[simp] theorem updPort_pending (s : State) (f : Port → Port) : (s.updPort f).pending = s.pending := rfl
@[simp] theorem updPort_r (s : State) (f : Port → Port) (x : Nat) : (s.updPort f).r x = s.r x := rfl
@[simp] theorem updPort_rf (s : State) (f : Port → Port) (x lo m : Nat) : (s.updPort f).rf x lo m = s.rf x lo m := rfl
@[simp] theorem updPort_rb (s : State) (f : Port → Port) (x i : Nat) : (s.updPort f).rb x i = s.rb x i := rfl
@[simp] theorem updPort_ringByte (s : State) (f : Port → Port) (x : Nat) : (s.updPort f).ringByte x = s.ringByte x := rfl
@[simp] theorem updPort_queue (s : State) (f : Port → Port) (x : Nat) : (s.updPort f).queue x = s.queue x := rfl

@[simp] theorem updLdg_till (s : State) (f : Ledger → Ledger) : (s.updLdg f).till = s.till := rfl
@[simp] theorem updLdg_role (s : State) (f : Ledger → Ledger) : (s.updLdg f).role = s.role := rfl
@[simp] theorem updLdg_rst (s : State) (f : Ledger → Ledger) : (s.updLdg f).rst = s.rst := rfl
@[simp] theorem updLdg_regs (s : State) (f : Ledger → Ledger) : (s.updLdg f).regs = s.regs := rfl
@[simp] theorem updLdg_ring (s : State) (f : Ledger → Ledger) : (s.updLdg f).ring = s.ring := rfl
@[simp] theorem updLdg_mb (s : State) (f : Ledger → Ledger) : (s.updLdg f).mb = s.mb := rfl
@[simp] theorem updLdg_queues (s : State) (f : Ledger → Ledger) : (s.updLdg f).queues = s.queues := rfl
@[simp] theorem updLdg_port (s : State) (f : Ledger → Ledger) : (s.updLdg f).port = s.port := rfl
@[simp] theorem updLdg_tel (s : State) (f : Ledger → Ledger) : (s.updLdg f).tel = s.tel := rfl
@[simp] theorem updLdg_ldg (s : State) (f : Ledger → Ledger) : (s.updLdg f).ldg = f s.ldg := rfl
@[simp] theorem updLdg_vault (s : State) (f : Ledger → Ledger) : (s.updLdg f).vault = s.vault := rfl
@[simp] theorem updLdg_cpt (s : State) (f : Ledger → Ledger) : (s.updLdg f).cpt = s.cpt := rfl
@[simp] theorem updLdg_prf (s : State) (f : Ledger → Ledger) : (s.updLdg f).prf = s.prf := rfl
@[simp] theorem updLdg_doors (s : State) (f : Ledger → Ledger) : (s.updLdg f).doors = s.doors := rfl
@[simp] theorem updLdg_fio (s : State) (f : Ledger → Ledger) : (s.updLdg f).fio = s.fio := rfl
@[simp] theorem updLdg_can (s : State) (f : Ledger → Ledger) : (s.updLdg f).can = s.can := rfl
@[simp] theorem updLdg_purse (s : State) (f : Ledger → Ledger) : (s.updLdg f).purse = s.purse := rfl
@[simp] theorem updLdg_vf (s : State) (f : Ledger → Ledger) : (s.updLdg f).vf = s.vf := rfl
@[simp] theorem updLdg_pwr (s : State) (f : Ledger → Ledger) : (s.updLdg f).pwr = s.pwr := rfl
@[simp] theorem updLdg_par (s : State) (f : Ledger → Ledger) : (s.updLdg f).par = s.par := rfl
@[simp] theorem updLdg_mint (s : State) (f : Ledger → Ledger) : (s.updLdg f).mint = s.mint := rfl
@[simp] theorem updLdg_banks (s : State) (f : Ledger → Ledger) : (s.updLdg f).banks = s.banks := rfl
@[simp] theorem updLdg_aud (s : State) (f : Ledger → Ledger) : (s.updLdg f).aud = s.aud := rfl
@[simp] theorem updLdg_con (s : State) (f : Ledger → Ledger) : (s.updLdg f).con = s.con := rfl
@[simp] theorem updLdg_jtag (s : State) (f : Ledger → Ledger) : (s.updLdg f).jtag = s.jtag := rfl
@[simp] theorem updLdg_tun (s : State) (f : Ledger → Ledger) : (s.updLdg f).tun = s.tun := rfl
@[simp] theorem updLdg_link (s : State) (f : Ledger → Ledger) : (s.updLdg f).link = s.link := rfl
@[simp] theorem updLdg_cs (s : State) (f : Ledger → Ledger) : (s.updLdg f).cs = s.cs := rfl
@[simp] theorem updLdg_fb (s : State) (f : Ledger → Ledger) : (s.updLdg f).fb = s.fb := rfl
@[simp] theorem updLdg_obs (s : State) (f : Ledger → Ledger) : (s.updLdg f).obs = s.obs := rfl
@[simp] theorem updLdg_fus (s : State) (f : Ledger → Ledger) : (s.updLdg f).fus = s.fus := rfl
@[simp] theorem updLdg_learn (s : State) (f : Ledger → Ledger) : (s.updLdg f).learn = s.learn := rfl
@[simp] theorem updLdg_snap (s : State) (f : Ledger → Ledger) : (s.updLdg f).snap = s.snap := rfl
@[simp] theorem updLdg_free (s : State) (f : Ledger → Ledger) : (s.updLdg f).free = s.free := rfl
@[simp] theorem updLdg_pending (s : State) (f : Ledger → Ledger) : (s.updLdg f).pending = s.pending := rfl
@[simp] theorem updLdg_r (s : State) (f : Ledger → Ledger) (x : Nat) : (s.updLdg f).r x = s.r x := rfl
@[simp] theorem updLdg_rf (s : State) (f : Ledger → Ledger) (x lo m : Nat) : (s.updLdg f).rf x lo m = s.rf x lo m := rfl
@[simp] theorem updLdg_rb (s : State) (f : Ledger → Ledger) (x i : Nat) : (s.updLdg f).rb x i = s.rb x i := rfl
@[simp] theorem updLdg_ringByte (s : State) (f : Ledger → Ledger) (x : Nat) : (s.updLdg f).ringByte x = s.ringByte x := rfl
@[simp] theorem updLdg_queue (s : State) (f : Ledger → Ledger) (x : Nat) : (s.updLdg f).queue x = s.queue x := rfl

@[simp] theorem updCpt_till (s : State) (f : Cpt → Cpt) : (s.updCpt f).till = s.till := rfl
@[simp] theorem updCpt_role (s : State) (f : Cpt → Cpt) : (s.updCpt f).role = s.role := rfl
@[simp] theorem updCpt_rst (s : State) (f : Cpt → Cpt) : (s.updCpt f).rst = s.rst := rfl
@[simp] theorem updCpt_regs (s : State) (f : Cpt → Cpt) : (s.updCpt f).regs = s.regs := rfl
@[simp] theorem updCpt_ring (s : State) (f : Cpt → Cpt) : (s.updCpt f).ring = s.ring := rfl
@[simp] theorem updCpt_mb (s : State) (f : Cpt → Cpt) : (s.updCpt f).mb = s.mb := rfl
@[simp] theorem updCpt_queues (s : State) (f : Cpt → Cpt) : (s.updCpt f).queues = s.queues := rfl
@[simp] theorem updCpt_port (s : State) (f : Cpt → Cpt) : (s.updCpt f).port = s.port := rfl
@[simp] theorem updCpt_tel (s : State) (f : Cpt → Cpt) : (s.updCpt f).tel = s.tel := rfl
@[simp] theorem updCpt_ldg (s : State) (f : Cpt → Cpt) : (s.updCpt f).ldg = s.ldg := rfl
@[simp] theorem updCpt_vault (s : State) (f : Cpt → Cpt) : (s.updCpt f).vault = s.vault := rfl
@[simp] theorem updCpt_cpt (s : State) (f : Cpt → Cpt) : (s.updCpt f).cpt = f s.cpt := rfl
@[simp] theorem updCpt_prf (s : State) (f : Cpt → Cpt) : (s.updCpt f).prf = s.prf := rfl
@[simp] theorem updCpt_doors (s : State) (f : Cpt → Cpt) : (s.updCpt f).doors = s.doors := rfl
@[simp] theorem updCpt_fio (s : State) (f : Cpt → Cpt) : (s.updCpt f).fio = s.fio := rfl
@[simp] theorem updCpt_can (s : State) (f : Cpt → Cpt) : (s.updCpt f).can = s.can := rfl
@[simp] theorem updCpt_purse (s : State) (f : Cpt → Cpt) : (s.updCpt f).purse = s.purse := rfl
@[simp] theorem updCpt_vf (s : State) (f : Cpt → Cpt) : (s.updCpt f).vf = s.vf := rfl
@[simp] theorem updCpt_pwr (s : State) (f : Cpt → Cpt) : (s.updCpt f).pwr = s.pwr := rfl
@[simp] theorem updCpt_par (s : State) (f : Cpt → Cpt) : (s.updCpt f).par = s.par := rfl
@[simp] theorem updCpt_mint (s : State) (f : Cpt → Cpt) : (s.updCpt f).mint = s.mint := rfl
@[simp] theorem updCpt_banks (s : State) (f : Cpt → Cpt) : (s.updCpt f).banks = s.banks := rfl
@[simp] theorem updCpt_aud (s : State) (f : Cpt → Cpt) : (s.updCpt f).aud = s.aud := rfl
@[simp] theorem updCpt_con (s : State) (f : Cpt → Cpt) : (s.updCpt f).con = s.con := rfl
@[simp] theorem updCpt_jtag (s : State) (f : Cpt → Cpt) : (s.updCpt f).jtag = s.jtag := rfl
@[simp] theorem updCpt_tun (s : State) (f : Cpt → Cpt) : (s.updCpt f).tun = s.tun := rfl
@[simp] theorem updCpt_link (s : State) (f : Cpt → Cpt) : (s.updCpt f).link = s.link := rfl
@[simp] theorem updCpt_cs (s : State) (f : Cpt → Cpt) : (s.updCpt f).cs = s.cs := rfl
@[simp] theorem updCpt_fb (s : State) (f : Cpt → Cpt) : (s.updCpt f).fb = s.fb := rfl
@[simp] theorem updCpt_obs (s : State) (f : Cpt → Cpt) : (s.updCpt f).obs = s.obs := rfl
@[simp] theorem updCpt_fus (s : State) (f : Cpt → Cpt) : (s.updCpt f).fus = s.fus := rfl
@[simp] theorem updCpt_learn (s : State) (f : Cpt → Cpt) : (s.updCpt f).learn = s.learn := rfl
@[simp] theorem updCpt_snap (s : State) (f : Cpt → Cpt) : (s.updCpt f).snap = s.snap := rfl
@[simp] theorem updCpt_free (s : State) (f : Cpt → Cpt) : (s.updCpt f).free = s.free := rfl
@[simp] theorem updCpt_pending (s : State) (f : Cpt → Cpt) : (s.updCpt f).pending = s.pending := rfl
@[simp] theorem updCpt_r (s : State) (f : Cpt → Cpt) (x : Nat) : (s.updCpt f).r x = s.r x := rfl
@[simp] theorem updCpt_rf (s : State) (f : Cpt → Cpt) (x lo m : Nat) : (s.updCpt f).rf x lo m = s.rf x lo m := rfl
@[simp] theorem updCpt_rb (s : State) (f : Cpt → Cpt) (x i : Nat) : (s.updCpt f).rb x i = s.rb x i := rfl
@[simp] theorem updCpt_ringByte (s : State) (f : Cpt → Cpt) (x : Nat) : (s.updCpt f).ringByte x = s.ringByte x := rfl
@[simp] theorem updCpt_queue (s : State) (f : Cpt → Cpt) (x : Nat) : (s.updCpt f).queue x = s.queue x := rfl

@[simp] theorem updPrf_till (s : State) (f : Prf → Prf) : (s.updPrf f).till = s.till := rfl
@[simp] theorem updPrf_role (s : State) (f : Prf → Prf) : (s.updPrf f).role = s.role := rfl
@[simp] theorem updPrf_rst (s : State) (f : Prf → Prf) : (s.updPrf f).rst = s.rst := rfl
@[simp] theorem updPrf_regs (s : State) (f : Prf → Prf) : (s.updPrf f).regs = s.regs := rfl
@[simp] theorem updPrf_ring (s : State) (f : Prf → Prf) : (s.updPrf f).ring = s.ring := rfl
@[simp] theorem updPrf_mb (s : State) (f : Prf → Prf) : (s.updPrf f).mb = s.mb := rfl
@[simp] theorem updPrf_queues (s : State) (f : Prf → Prf) : (s.updPrf f).queues = s.queues := rfl
@[simp] theorem updPrf_port (s : State) (f : Prf → Prf) : (s.updPrf f).port = s.port := rfl
@[simp] theorem updPrf_tel (s : State) (f : Prf → Prf) : (s.updPrf f).tel = s.tel := rfl
@[simp] theorem updPrf_ldg (s : State) (f : Prf → Prf) : (s.updPrf f).ldg = s.ldg := rfl
@[simp] theorem updPrf_vault (s : State) (f : Prf → Prf) : (s.updPrf f).vault = s.vault := rfl
@[simp] theorem updPrf_cpt (s : State) (f : Prf → Prf) : (s.updPrf f).cpt = s.cpt := rfl
@[simp] theorem updPrf_prf (s : State) (f : Prf → Prf) : (s.updPrf f).prf = f s.prf := rfl
@[simp] theorem updPrf_doors (s : State) (f : Prf → Prf) : (s.updPrf f).doors = s.doors := rfl
@[simp] theorem updPrf_fio (s : State) (f : Prf → Prf) : (s.updPrf f).fio = s.fio := rfl
@[simp] theorem updPrf_can (s : State) (f : Prf → Prf) : (s.updPrf f).can = s.can := rfl
@[simp] theorem updPrf_purse (s : State) (f : Prf → Prf) : (s.updPrf f).purse = s.purse := rfl
@[simp] theorem updPrf_vf (s : State) (f : Prf → Prf) : (s.updPrf f).vf = s.vf := rfl
@[simp] theorem updPrf_pwr (s : State) (f : Prf → Prf) : (s.updPrf f).pwr = s.pwr := rfl
@[simp] theorem updPrf_par (s : State) (f : Prf → Prf) : (s.updPrf f).par = s.par := rfl
@[simp] theorem updPrf_mint (s : State) (f : Prf → Prf) : (s.updPrf f).mint = s.mint := rfl
@[simp] theorem updPrf_banks (s : State) (f : Prf → Prf) : (s.updPrf f).banks = s.banks := rfl
@[simp] theorem updPrf_aud (s : State) (f : Prf → Prf) : (s.updPrf f).aud = s.aud := rfl
@[simp] theorem updPrf_con (s : State) (f : Prf → Prf) : (s.updPrf f).con = s.con := rfl
@[simp] theorem updPrf_jtag (s : State) (f : Prf → Prf) : (s.updPrf f).jtag = s.jtag := rfl
@[simp] theorem updPrf_tun (s : State) (f : Prf → Prf) : (s.updPrf f).tun = s.tun := rfl
@[simp] theorem updPrf_link (s : State) (f : Prf → Prf) : (s.updPrf f).link = s.link := rfl
@[simp] theorem updPrf_cs (s : State) (f : Prf → Prf) : (s.updPrf f).cs = s.cs := rfl
@[simp] theorem updPrf_fb (s : State) (f : Prf → Prf) : (s.updPrf f).fb = s.fb := rfl
@[simp] theorem updPrf_obs (s : State) (f : Prf → Prf) : (s.updPrf f).obs = s.obs := rfl
@[simp] theorem updPrf_fus (s : State) (f : Prf → Prf) : (s.updPrf f).fus = s.fus := rfl
@[simp] theorem updPrf_learn (s : State) (f : Prf → Prf) : (s.updPrf f).learn = s.learn := rfl
@[simp] theorem updPrf_snap (s : State) (f : Prf → Prf) : (s.updPrf f).snap = s.snap := rfl
@[simp] theorem updPrf_free (s : State) (f : Prf → Prf) : (s.updPrf f).free = s.free := rfl
@[simp] theorem updPrf_pending (s : State) (f : Prf → Prf) : (s.updPrf f).pending = s.pending := rfl
@[simp] theorem updPrf_r (s : State) (f : Prf → Prf) (x : Nat) : (s.updPrf f).r x = s.r x := rfl
@[simp] theorem updPrf_rf (s : State) (f : Prf → Prf) (x lo m : Nat) : (s.updPrf f).rf x lo m = s.rf x lo m := rfl
@[simp] theorem updPrf_rb (s : State) (f : Prf → Prf) (x i : Nat) : (s.updPrf f).rb x i = s.rb x i := rfl
@[simp] theorem updPrf_ringByte (s : State) (f : Prf → Prf) (x : Nat) : (s.updPrf f).ringByte x = s.ringByte x := rfl
@[simp] theorem updPrf_queue (s : State) (f : Prf → Prf) (x : Nat) : (s.updPrf f).queue x = s.queue x := rfl

@[simp] theorem updDoor_till (s : State) (n : Nat) (f : Door → Door) : (s.updDoor n f).till = s.till := rfl
@[simp] theorem updDoor_role (s : State) (n : Nat) (f : Door → Door) : (s.updDoor n f).role = s.role := rfl
@[simp] theorem updDoor_rst (s : State) (n : Nat) (f : Door → Door) : (s.updDoor n f).rst = s.rst := rfl
@[simp] theorem updDoor_regs (s : State) (n : Nat) (f : Door → Door) : (s.updDoor n f).regs = s.regs := rfl
@[simp] theorem updDoor_ring (s : State) (n : Nat) (f : Door → Door) : (s.updDoor n f).ring = s.ring := rfl
@[simp] theorem updDoor_mb (s : State) (n : Nat) (f : Door → Door) : (s.updDoor n f).mb = s.mb := rfl
@[simp] theorem updDoor_queues (s : State) (n : Nat) (f : Door → Door) : (s.updDoor n f).queues = s.queues := rfl
@[simp] theorem updDoor_port (s : State) (n : Nat) (f : Door → Door) : (s.updDoor n f).port = s.port := rfl
@[simp] theorem updDoor_tel (s : State) (n : Nat) (f : Door → Door) : (s.updDoor n f).tel = s.tel := rfl
@[simp] theorem updDoor_ldg (s : State) (n : Nat) (f : Door → Door) : (s.updDoor n f).ldg = s.ldg := rfl
@[simp] theorem updDoor_vault (s : State) (n : Nat) (f : Door → Door) : (s.updDoor n f).vault = s.vault := rfl
@[simp] theorem updDoor_cpt (s : State) (n : Nat) (f : Door → Door) : (s.updDoor n f).cpt = s.cpt := rfl
@[simp] theorem updDoor_prf (s : State) (n : Nat) (f : Door → Door) : (s.updDoor n f).prf = s.prf := rfl
@[simp] theorem updDoor_doors (s : State) (n : Nat) (f : Door → Door) : (s.updDoor n f).doors = updAt s.doors n f := rfl
@[simp] theorem updDoor_fio (s : State) (n : Nat) (f : Door → Door) : (s.updDoor n f).fio = s.fio := rfl
@[simp] theorem updDoor_can (s : State) (n : Nat) (f : Door → Door) : (s.updDoor n f).can = s.can := rfl
@[simp] theorem updDoor_purse (s : State) (n : Nat) (f : Door → Door) : (s.updDoor n f).purse = s.purse := rfl
@[simp] theorem updDoor_vf (s : State) (n : Nat) (f : Door → Door) : (s.updDoor n f).vf = s.vf := rfl
@[simp] theorem updDoor_pwr (s : State) (n : Nat) (f : Door → Door) : (s.updDoor n f).pwr = s.pwr := rfl
@[simp] theorem updDoor_par (s : State) (n : Nat) (f : Door → Door) : (s.updDoor n f).par = s.par := rfl
@[simp] theorem updDoor_mint (s : State) (n : Nat) (f : Door → Door) : (s.updDoor n f).mint = s.mint := rfl
@[simp] theorem updDoor_banks (s : State) (n : Nat) (f : Door → Door) : (s.updDoor n f).banks = s.banks := rfl
@[simp] theorem updDoor_aud (s : State) (n : Nat) (f : Door → Door) : (s.updDoor n f).aud = s.aud := rfl
@[simp] theorem updDoor_con (s : State) (n : Nat) (f : Door → Door) : (s.updDoor n f).con = s.con := rfl
@[simp] theorem updDoor_jtag (s : State) (n : Nat) (f : Door → Door) : (s.updDoor n f).jtag = s.jtag := rfl
@[simp] theorem updDoor_tun (s : State) (n : Nat) (f : Door → Door) : (s.updDoor n f).tun = s.tun := rfl
@[simp] theorem updDoor_link (s : State) (n : Nat) (f : Door → Door) : (s.updDoor n f).link = s.link := rfl
@[simp] theorem updDoor_cs (s : State) (n : Nat) (f : Door → Door) : (s.updDoor n f).cs = s.cs := rfl
@[simp] theorem updDoor_fb (s : State) (n : Nat) (f : Door → Door) : (s.updDoor n f).fb = s.fb := rfl
@[simp] theorem updDoor_obs (s : State) (n : Nat) (f : Door → Door) : (s.updDoor n f).obs = s.obs := rfl
@[simp] theorem updDoor_fus (s : State) (n : Nat) (f : Door → Door) : (s.updDoor n f).fus = s.fus := rfl
@[simp] theorem updDoor_learn (s : State) (n : Nat) (f : Door → Door) : (s.updDoor n f).learn = s.learn := rfl
@[simp] theorem updDoor_snap (s : State) (n : Nat) (f : Door → Door) : (s.updDoor n f).snap = s.snap := rfl
@[simp] theorem updDoor_free (s : State) (n : Nat) (f : Door → Door) : (s.updDoor n f).free = s.free := rfl
@[simp] theorem updDoor_pending (s : State) (n : Nat) (f : Door → Door) : (s.updDoor n f).pending = s.pending := rfl
@[simp] theorem updDoor_r (s : State) (n : Nat) (f : Door → Door) (x : Nat) : (s.updDoor n f).r x = s.r x := rfl
@[simp] theorem updDoor_rf (s : State) (n : Nat) (f : Door → Door) (x lo m : Nat) : (s.updDoor n f).rf x lo m = s.rf x lo m := rfl
@[simp] theorem updDoor_rb (s : State) (n : Nat) (f : Door → Door) (x i : Nat) : (s.updDoor n f).rb x i = s.rb x i := rfl
@[simp] theorem updDoor_ringByte (s : State) (n : Nat) (f : Door → Door) (x : Nat) : (s.updDoor n f).ringByte x = s.ringByte x := rfl
@[simp] theorem updDoor_queue (s : State) (n : Nat) (f : Door → Door) (x : Nat) : (s.updDoor n f).queue x = s.queue x := rfl

@[simp] theorem updFio_till (s : State) (f : Fio → Fio) : (s.updFio f).till = s.till := rfl
@[simp] theorem updFio_role (s : State) (f : Fio → Fio) : (s.updFio f).role = s.role := rfl
@[simp] theorem updFio_rst (s : State) (f : Fio → Fio) : (s.updFio f).rst = s.rst := rfl
@[simp] theorem updFio_regs (s : State) (f : Fio → Fio) : (s.updFio f).regs = s.regs := rfl
@[simp] theorem updFio_ring (s : State) (f : Fio → Fio) : (s.updFio f).ring = s.ring := rfl
@[simp] theorem updFio_mb (s : State) (f : Fio → Fio) : (s.updFio f).mb = s.mb := rfl
@[simp] theorem updFio_queues (s : State) (f : Fio → Fio) : (s.updFio f).queues = s.queues := rfl
@[simp] theorem updFio_port (s : State) (f : Fio → Fio) : (s.updFio f).port = s.port := rfl
@[simp] theorem updFio_tel (s : State) (f : Fio → Fio) : (s.updFio f).tel = s.tel := rfl
@[simp] theorem updFio_ldg (s : State) (f : Fio → Fio) : (s.updFio f).ldg = s.ldg := rfl
@[simp] theorem updFio_vault (s : State) (f : Fio → Fio) : (s.updFio f).vault = s.vault := rfl
@[simp] theorem updFio_cpt (s : State) (f : Fio → Fio) : (s.updFio f).cpt = s.cpt := rfl
@[simp] theorem updFio_prf (s : State) (f : Fio → Fio) : (s.updFio f).prf = s.prf := rfl
@[simp] theorem updFio_doors (s : State) (f : Fio → Fio) : (s.updFio f).doors = s.doors := rfl
@[simp] theorem updFio_fio (s : State) (f : Fio → Fio) : (s.updFio f).fio = f s.fio := rfl
@[simp] theorem updFio_can (s : State) (f : Fio → Fio) : (s.updFio f).can = s.can := rfl
@[simp] theorem updFio_purse (s : State) (f : Fio → Fio) : (s.updFio f).purse = s.purse := rfl
@[simp] theorem updFio_vf (s : State) (f : Fio → Fio) : (s.updFio f).vf = s.vf := rfl
@[simp] theorem updFio_pwr (s : State) (f : Fio → Fio) : (s.updFio f).pwr = s.pwr := rfl
@[simp] theorem updFio_par (s : State) (f : Fio → Fio) : (s.updFio f).par = s.par := rfl
@[simp] theorem updFio_mint (s : State) (f : Fio → Fio) : (s.updFio f).mint = s.mint := rfl
@[simp] theorem updFio_banks (s : State) (f : Fio → Fio) : (s.updFio f).banks = s.banks := rfl
@[simp] theorem updFio_aud (s : State) (f : Fio → Fio) : (s.updFio f).aud = s.aud := rfl
@[simp] theorem updFio_con (s : State) (f : Fio → Fio) : (s.updFio f).con = s.con := rfl
@[simp] theorem updFio_jtag (s : State) (f : Fio → Fio) : (s.updFio f).jtag = s.jtag := rfl
@[simp] theorem updFio_tun (s : State) (f : Fio → Fio) : (s.updFio f).tun = s.tun := rfl
@[simp] theorem updFio_link (s : State) (f : Fio → Fio) : (s.updFio f).link = s.link := rfl
@[simp] theorem updFio_cs (s : State) (f : Fio → Fio) : (s.updFio f).cs = s.cs := rfl
@[simp] theorem updFio_fb (s : State) (f : Fio → Fio) : (s.updFio f).fb = s.fb := rfl
@[simp] theorem updFio_obs (s : State) (f : Fio → Fio) : (s.updFio f).obs = s.obs := rfl
@[simp] theorem updFio_fus (s : State) (f : Fio → Fio) : (s.updFio f).fus = s.fus := rfl
@[simp] theorem updFio_learn (s : State) (f : Fio → Fio) : (s.updFio f).learn = s.learn := rfl
@[simp] theorem updFio_snap (s : State) (f : Fio → Fio) : (s.updFio f).snap = s.snap := rfl
@[simp] theorem updFio_free (s : State) (f : Fio → Fio) : (s.updFio f).free = s.free := rfl
@[simp] theorem updFio_pending (s : State) (f : Fio → Fio) : (s.updFio f).pending = s.pending := rfl
@[simp] theorem updFio_r (s : State) (f : Fio → Fio) (x : Nat) : (s.updFio f).r x = s.r x := rfl
@[simp] theorem updFio_rf (s : State) (f : Fio → Fio) (x lo m : Nat) : (s.updFio f).rf x lo m = s.rf x lo m := rfl
@[simp] theorem updFio_rb (s : State) (f : Fio → Fio) (x i : Nat) : (s.updFio f).rb x i = s.rb x i := rfl
@[simp] theorem updFio_ringByte (s : State) (f : Fio → Fio) (x : Nat) : (s.updFio f).ringByte x = s.ringByte x := rfl
@[simp] theorem updFio_queue (s : State) (f : Fio → Fio) (x : Nat) : (s.updFio f).queue x = s.queue x := rfl

@[simp] theorem updCan_till (s : State) (n : Nat) (f : Canc → Canc) : (s.updCan n f).till = s.till := rfl
@[simp] theorem updCan_role (s : State) (n : Nat) (f : Canc → Canc) : (s.updCan n f).role = s.role := rfl
@[simp] theorem updCan_rst (s : State) (n : Nat) (f : Canc → Canc) : (s.updCan n f).rst = s.rst := rfl
@[simp] theorem updCan_regs (s : State) (n : Nat) (f : Canc → Canc) : (s.updCan n f).regs = s.regs := rfl
@[simp] theorem updCan_ring (s : State) (n : Nat) (f : Canc → Canc) : (s.updCan n f).ring = s.ring := rfl
@[simp] theorem updCan_mb (s : State) (n : Nat) (f : Canc → Canc) : (s.updCan n f).mb = s.mb := rfl
@[simp] theorem updCan_queues (s : State) (n : Nat) (f : Canc → Canc) : (s.updCan n f).queues = s.queues := rfl
@[simp] theorem updCan_port (s : State) (n : Nat) (f : Canc → Canc) : (s.updCan n f).port = s.port := rfl
@[simp] theorem updCan_tel (s : State) (n : Nat) (f : Canc → Canc) : (s.updCan n f).tel = s.tel := rfl
@[simp] theorem updCan_ldg (s : State) (n : Nat) (f : Canc → Canc) : (s.updCan n f).ldg = s.ldg := rfl
@[simp] theorem updCan_vault (s : State) (n : Nat) (f : Canc → Canc) : (s.updCan n f).vault = s.vault := rfl
@[simp] theorem updCan_cpt (s : State) (n : Nat) (f : Canc → Canc) : (s.updCan n f).cpt = s.cpt := rfl
@[simp] theorem updCan_prf (s : State) (n : Nat) (f : Canc → Canc) : (s.updCan n f).prf = s.prf := rfl
@[simp] theorem updCan_doors (s : State) (n : Nat) (f : Canc → Canc) : (s.updCan n f).doors = s.doors := rfl
@[simp] theorem updCan_fio (s : State) (n : Nat) (f : Canc → Canc) : (s.updCan n f).fio = s.fio := rfl
@[simp] theorem updCan_can (s : State) (n : Nat) (f : Canc → Canc) : (s.updCan n f).can = updAt s.can n f := rfl
@[simp] theorem updCan_purse (s : State) (n : Nat) (f : Canc → Canc) : (s.updCan n f).purse = s.purse := rfl
@[simp] theorem updCan_vf (s : State) (n : Nat) (f : Canc → Canc) : (s.updCan n f).vf = s.vf := rfl
@[simp] theorem updCan_pwr (s : State) (n : Nat) (f : Canc → Canc) : (s.updCan n f).pwr = s.pwr := rfl
@[simp] theorem updCan_par (s : State) (n : Nat) (f : Canc → Canc) : (s.updCan n f).par = s.par := rfl
@[simp] theorem updCan_mint (s : State) (n : Nat) (f : Canc → Canc) : (s.updCan n f).mint = s.mint := rfl
@[simp] theorem updCan_banks (s : State) (n : Nat) (f : Canc → Canc) : (s.updCan n f).banks = s.banks := rfl
@[simp] theorem updCan_aud (s : State) (n : Nat) (f : Canc → Canc) : (s.updCan n f).aud = s.aud := rfl
@[simp] theorem updCan_con (s : State) (n : Nat) (f : Canc → Canc) : (s.updCan n f).con = s.con := rfl
@[simp] theorem updCan_jtag (s : State) (n : Nat) (f : Canc → Canc) : (s.updCan n f).jtag = s.jtag := rfl
@[simp] theorem updCan_tun (s : State) (n : Nat) (f : Canc → Canc) : (s.updCan n f).tun = s.tun := rfl
@[simp] theorem updCan_link (s : State) (n : Nat) (f : Canc → Canc) : (s.updCan n f).link = s.link := rfl
@[simp] theorem updCan_cs (s : State) (n : Nat) (f : Canc → Canc) : (s.updCan n f).cs = s.cs := rfl
@[simp] theorem updCan_fb (s : State) (n : Nat) (f : Canc → Canc) : (s.updCan n f).fb = s.fb := rfl
@[simp] theorem updCan_obs (s : State) (n : Nat) (f : Canc → Canc) : (s.updCan n f).obs = s.obs := rfl
@[simp] theorem updCan_fus (s : State) (n : Nat) (f : Canc → Canc) : (s.updCan n f).fus = s.fus := rfl
@[simp] theorem updCan_learn (s : State) (n : Nat) (f : Canc → Canc) : (s.updCan n f).learn = s.learn := rfl
@[simp] theorem updCan_snap (s : State) (n : Nat) (f : Canc → Canc) : (s.updCan n f).snap = s.snap := rfl
@[simp] theorem updCan_free (s : State) (n : Nat) (f : Canc → Canc) : (s.updCan n f).free = s.free := rfl
@[simp] theorem updCan_pending (s : State) (n : Nat) (f : Canc → Canc) : (s.updCan n f).pending = s.pending := rfl
@[simp] theorem updCan_r (s : State) (n : Nat) (f : Canc → Canc) (x : Nat) : (s.updCan n f).r x = s.r x := rfl
@[simp] theorem updCan_rf (s : State) (n : Nat) (f : Canc → Canc) (x lo m : Nat) : (s.updCan n f).rf x lo m = s.rf x lo m := rfl
@[simp] theorem updCan_rb (s : State) (n : Nat) (f : Canc → Canc) (x i : Nat) : (s.updCan n f).rb x i = s.rb x i := rfl
@[simp] theorem updCan_ringByte (s : State) (n : Nat) (f : Canc → Canc) (x : Nat) : (s.updCan n f).ringByte x = s.ringByte x := rfl
@[simp] theorem updCan_queue (s : State) (n : Nat) (f : Canc → Canc) (x : Nat) : (s.updCan n f).queue x = s.queue x := rfl

@[simp] theorem updObj_till (s : State) (j : Nat) (f : CanObj → CanObj) : (s.updObj j f).till = s.till := rfl
@[simp] theorem updObj_role (s : State) (j : Nat) (f : CanObj → CanObj) : (s.updObj j f).role = s.role := rfl
@[simp] theorem updObj_rst (s : State) (j : Nat) (f : CanObj → CanObj) : (s.updObj j f).rst = s.rst := rfl
@[simp] theorem updObj_regs (s : State) (j : Nat) (f : CanObj → CanObj) : (s.updObj j f).regs = s.regs := rfl
@[simp] theorem updObj_ring (s : State) (j : Nat) (f : CanObj → CanObj) : (s.updObj j f).ring = s.ring := rfl
@[simp] theorem updObj_mb (s : State) (j : Nat) (f : CanObj → CanObj) : (s.updObj j f).mb = s.mb := rfl
@[simp] theorem updObj_queues (s : State) (j : Nat) (f : CanObj → CanObj) : (s.updObj j f).queues = s.queues := rfl
@[simp] theorem updObj_port (s : State) (j : Nat) (f : CanObj → CanObj) : (s.updObj j f).port = s.port := rfl
@[simp] theorem updObj_tel (s : State) (j : Nat) (f : CanObj → CanObj) : (s.updObj j f).tel = s.tel := rfl
@[simp] theorem updObj_ldg (s : State) (j : Nat) (f : CanObj → CanObj) : (s.updObj j f).ldg = s.ldg := rfl
@[simp] theorem updObj_vault (s : State) (j : Nat) (f : CanObj → CanObj) : (s.updObj j f).vault = s.vault := rfl
@[simp] theorem updObj_cpt (s : State) (j : Nat) (f : CanObj → CanObj) : (s.updObj j f).cpt = s.cpt := rfl
@[simp] theorem updObj_prf (s : State) (j : Nat) (f : CanObj → CanObj) : (s.updObj j f).prf = s.prf := rfl
@[simp] theorem updObj_doors (s : State) (j : Nat) (f : CanObj → CanObj) : (s.updObj j f).doors = s.doors := rfl
@[simp] theorem updObj_fio (s : State) (j : Nat) (f : CanObj → CanObj) : (s.updObj j f).fio = s.fio := rfl
@[simp] theorem updObj_purse (s : State) (j : Nat) (f : CanObj → CanObj) : (s.updObj j f).purse = s.purse := rfl
@[simp] theorem updObj_vf (s : State) (j : Nat) (f : CanObj → CanObj) : (s.updObj j f).vf = s.vf := rfl
@[simp] theorem updObj_pwr (s : State) (j : Nat) (f : CanObj → CanObj) : (s.updObj j f).pwr = s.pwr := rfl
@[simp] theorem updObj_par (s : State) (j : Nat) (f : CanObj → CanObj) : (s.updObj j f).par = s.par := rfl
@[simp] theorem updObj_mint (s : State) (j : Nat) (f : CanObj → CanObj) : (s.updObj j f).mint = s.mint := rfl
@[simp] theorem updObj_banks (s : State) (j : Nat) (f : CanObj → CanObj) : (s.updObj j f).banks = s.banks := rfl
@[simp] theorem updObj_aud (s : State) (j : Nat) (f : CanObj → CanObj) : (s.updObj j f).aud = s.aud := rfl
@[simp] theorem updObj_con (s : State) (j : Nat) (f : CanObj → CanObj) : (s.updObj j f).con = s.con := rfl
@[simp] theorem updObj_jtag (s : State) (j : Nat) (f : CanObj → CanObj) : (s.updObj j f).jtag = s.jtag := rfl
@[simp] theorem updObj_tun (s : State) (j : Nat) (f : CanObj → CanObj) : (s.updObj j f).tun = s.tun := rfl
@[simp] theorem updObj_link (s : State) (j : Nat) (f : CanObj → CanObj) : (s.updObj j f).link = s.link := rfl
@[simp] theorem updObj_cs (s : State) (j : Nat) (f : CanObj → CanObj) : (s.updObj j f).cs = s.cs := rfl
@[simp] theorem updObj_fb (s : State) (j : Nat) (f : CanObj → CanObj) : (s.updObj j f).fb = s.fb := rfl
@[simp] theorem updObj_obs (s : State) (j : Nat) (f : CanObj → CanObj) : (s.updObj j f).obs = s.obs := rfl
@[simp] theorem updObj_fus (s : State) (j : Nat) (f : CanObj → CanObj) : (s.updObj j f).fus = s.fus := rfl
@[simp] theorem updObj_learn (s : State) (j : Nat) (f : CanObj → CanObj) : (s.updObj j f).learn = s.learn := rfl
@[simp] theorem updObj_snap (s : State) (j : Nat) (f : CanObj → CanObj) : (s.updObj j f).snap = s.snap := rfl
@[simp] theorem updObj_free (s : State) (j : Nat) (f : CanObj → CanObj) : (s.updObj j f).free = s.free := rfl
@[simp] theorem updObj_pending (s : State) (j : Nat) (f : CanObj → CanObj) : (s.updObj j f).pending = s.pending := rfl
@[simp] theorem updObj_r (s : State) (j : Nat) (f : CanObj → CanObj) (x : Nat) : (s.updObj j f).r x = s.r x := rfl
@[simp] theorem updObj_rf (s : State) (j : Nat) (f : CanObj → CanObj) (x lo m : Nat) : (s.updObj j f).rf x lo m = s.rf x lo m := rfl
@[simp] theorem updObj_rb (s : State) (j : Nat) (f : CanObj → CanObj) (x i : Nat) : (s.updObj j f).rb x i = s.rb x i := rfl
@[simp] theorem updObj_ringByte (s : State) (j : Nat) (f : CanObj → CanObj) (x : Nat) : (s.updObj j f).ringByte x = s.ringByte x := rfl
@[simp] theorem updObj_queue (s : State) (j : Nat) (f : CanObj → CanObj) (x : Nat) : (s.updObj j f).queue x = s.queue x := rfl

@[simp] theorem updPurse_till (s : State) (k : Nat) (f : Purse → Purse) : (s.updPurse k f).till = s.till := rfl
@[simp] theorem updPurse_role (s : State) (k : Nat) (f : Purse → Purse) : (s.updPurse k f).role = s.role := rfl
@[simp] theorem updPurse_rst (s : State) (k : Nat) (f : Purse → Purse) : (s.updPurse k f).rst = s.rst := rfl
@[simp] theorem updPurse_regs (s : State) (k : Nat) (f : Purse → Purse) : (s.updPurse k f).regs = s.regs := rfl
@[simp] theorem updPurse_ring (s : State) (k : Nat) (f : Purse → Purse) : (s.updPurse k f).ring = s.ring := rfl
@[simp] theorem updPurse_mb (s : State) (k : Nat) (f : Purse → Purse) : (s.updPurse k f).mb = s.mb := rfl
@[simp] theorem updPurse_queues (s : State) (k : Nat) (f : Purse → Purse) : (s.updPurse k f).queues = s.queues := rfl
@[simp] theorem updPurse_port (s : State) (k : Nat) (f : Purse → Purse) : (s.updPurse k f).port = s.port := rfl
@[simp] theorem updPurse_tel (s : State) (k : Nat) (f : Purse → Purse) : (s.updPurse k f).tel = s.tel := rfl
@[simp] theorem updPurse_ldg (s : State) (k : Nat) (f : Purse → Purse) : (s.updPurse k f).ldg = s.ldg := rfl
@[simp] theorem updPurse_vault (s : State) (k : Nat) (f : Purse → Purse) : (s.updPurse k f).vault = s.vault := rfl
@[simp] theorem updPurse_cpt (s : State) (k : Nat) (f : Purse → Purse) : (s.updPurse k f).cpt = s.cpt := rfl
@[simp] theorem updPurse_prf (s : State) (k : Nat) (f : Purse → Purse) : (s.updPurse k f).prf = s.prf := rfl
@[simp] theorem updPurse_doors (s : State) (k : Nat) (f : Purse → Purse) : (s.updPurse k f).doors = s.doors := rfl
@[simp] theorem updPurse_fio (s : State) (k : Nat) (f : Purse → Purse) : (s.updPurse k f).fio = s.fio := rfl
@[simp] theorem updPurse_can (s : State) (k : Nat) (f : Purse → Purse) : (s.updPurse k f).can = s.can := rfl
@[simp] theorem updPurse_purse (s : State) (k : Nat) (f : Purse → Purse) : (s.updPurse k f).purse = updAt s.purse k f := rfl
@[simp] theorem updPurse_vf (s : State) (k : Nat) (f : Purse → Purse) : (s.updPurse k f).vf = s.vf := rfl
@[simp] theorem updPurse_pwr (s : State) (k : Nat) (f : Purse → Purse) : (s.updPurse k f).pwr = s.pwr := rfl
@[simp] theorem updPurse_par (s : State) (k : Nat) (f : Purse → Purse) : (s.updPurse k f).par = s.par := rfl
@[simp] theorem updPurse_mint (s : State) (k : Nat) (f : Purse → Purse) : (s.updPurse k f).mint = s.mint := rfl
@[simp] theorem updPurse_banks (s : State) (k : Nat) (f : Purse → Purse) : (s.updPurse k f).banks = s.banks := rfl
@[simp] theorem updPurse_aud (s : State) (k : Nat) (f : Purse → Purse) : (s.updPurse k f).aud = s.aud := rfl
@[simp] theorem updPurse_con (s : State) (k : Nat) (f : Purse → Purse) : (s.updPurse k f).con = s.con := rfl
@[simp] theorem updPurse_jtag (s : State) (k : Nat) (f : Purse → Purse) : (s.updPurse k f).jtag = s.jtag := rfl
@[simp] theorem updPurse_tun (s : State) (k : Nat) (f : Purse → Purse) : (s.updPurse k f).tun = s.tun := rfl
@[simp] theorem updPurse_link (s : State) (k : Nat) (f : Purse → Purse) : (s.updPurse k f).link = s.link := rfl
@[simp] theorem updPurse_cs (s : State) (k : Nat) (f : Purse → Purse) : (s.updPurse k f).cs = s.cs := rfl
@[simp] theorem updPurse_fb (s : State) (k : Nat) (f : Purse → Purse) : (s.updPurse k f).fb = s.fb := rfl
@[simp] theorem updPurse_obs (s : State) (k : Nat) (f : Purse → Purse) : (s.updPurse k f).obs = s.obs := rfl
@[simp] theorem updPurse_fus (s : State) (k : Nat) (f : Purse → Purse) : (s.updPurse k f).fus = s.fus := rfl
@[simp] theorem updPurse_learn (s : State) (k : Nat) (f : Purse → Purse) : (s.updPurse k f).learn = s.learn := rfl
@[simp] theorem updPurse_snap (s : State) (k : Nat) (f : Purse → Purse) : (s.updPurse k f).snap = s.snap := rfl
@[simp] theorem updPurse_free (s : State) (k : Nat) (f : Purse → Purse) : (s.updPurse k f).free = s.free := rfl
@[simp] theorem updPurse_pending (s : State) (k : Nat) (f : Purse → Purse) : (s.updPurse k f).pending = s.pending := rfl
@[simp] theorem updPurse_r (s : State) (k : Nat) (f : Purse → Purse) (x : Nat) : (s.updPurse k f).r x = s.r x := rfl
@[simp] theorem updPurse_rf (s : State) (k : Nat) (f : Purse → Purse) (x lo m : Nat) : (s.updPurse k f).rf x lo m = s.rf x lo m := rfl
@[simp] theorem updPurse_rb (s : State) (k : Nat) (f : Purse → Purse) (x i : Nat) : (s.updPurse k f).rb x i = s.rb x i := rfl
@[simp] theorem updPurse_ringByte (s : State) (k : Nat) (f : Purse → Purse) (x : Nat) : (s.updPurse k f).ringByte x = s.ringByte x := rfl
@[simp] theorem updPurse_queue (s : State) (k : Nat) (f : Purse → Purse) (x : Nat) : (s.updPurse k f).queue x = s.queue x := rfl

@[simp] theorem updPar_till (s : State) (f : Par → Par) : (s.updPar f).till = s.till := rfl
@[simp] theorem updPar_role (s : State) (f : Par → Par) : (s.updPar f).role = s.role := rfl
@[simp] theorem updPar_rst (s : State) (f : Par → Par) : (s.updPar f).rst = s.rst := rfl
@[simp] theorem updPar_regs (s : State) (f : Par → Par) : (s.updPar f).regs = s.regs := rfl
@[simp] theorem updPar_ring (s : State) (f : Par → Par) : (s.updPar f).ring = s.ring := rfl
@[simp] theorem updPar_mb (s : State) (f : Par → Par) : (s.updPar f).mb = s.mb := rfl
@[simp] theorem updPar_queues (s : State) (f : Par → Par) : (s.updPar f).queues = s.queues := rfl
@[simp] theorem updPar_port (s : State) (f : Par → Par) : (s.updPar f).port = s.port := rfl
@[simp] theorem updPar_tel (s : State) (f : Par → Par) : (s.updPar f).tel = s.tel := rfl
@[simp] theorem updPar_ldg (s : State) (f : Par → Par) : (s.updPar f).ldg = s.ldg := rfl
@[simp] theorem updPar_vault (s : State) (f : Par → Par) : (s.updPar f).vault = s.vault := rfl
@[simp] theorem updPar_cpt (s : State) (f : Par → Par) : (s.updPar f).cpt = s.cpt := rfl
@[simp] theorem updPar_prf (s : State) (f : Par → Par) : (s.updPar f).prf = s.prf := rfl
@[simp] theorem updPar_doors (s : State) (f : Par → Par) : (s.updPar f).doors = s.doors := rfl
@[simp] theorem updPar_fio (s : State) (f : Par → Par) : (s.updPar f).fio = s.fio := rfl
@[simp] theorem updPar_can (s : State) (f : Par → Par) : (s.updPar f).can = s.can := rfl
@[simp] theorem updPar_purse (s : State) (f : Par → Par) : (s.updPar f).purse = s.purse := rfl
@[simp] theorem updPar_vf (s : State) (f : Par → Par) : (s.updPar f).vf = s.vf := rfl
@[simp] theorem updPar_pwr (s : State) (f : Par → Par) : (s.updPar f).pwr = s.pwr := rfl
@[simp] theorem updPar_par (s : State) (f : Par → Par) : (s.updPar f).par = f s.par := rfl
@[simp] theorem updPar_mint (s : State) (f : Par → Par) : (s.updPar f).mint = s.mint := rfl
@[simp] theorem updPar_banks (s : State) (f : Par → Par) : (s.updPar f).banks = s.banks := rfl
@[simp] theorem updPar_aud (s : State) (f : Par → Par) : (s.updPar f).aud = s.aud := rfl
@[simp] theorem updPar_con (s : State) (f : Par → Par) : (s.updPar f).con = s.con := rfl
@[simp] theorem updPar_jtag (s : State) (f : Par → Par) : (s.updPar f).jtag = s.jtag := rfl
@[simp] theorem updPar_tun (s : State) (f : Par → Par) : (s.updPar f).tun = s.tun := rfl
@[simp] theorem updPar_link (s : State) (f : Par → Par) : (s.updPar f).link = s.link := rfl
@[simp] theorem updPar_cs (s : State) (f : Par → Par) : (s.updPar f).cs = s.cs := rfl
@[simp] theorem updPar_fb (s : State) (f : Par → Par) : (s.updPar f).fb = s.fb := rfl
@[simp] theorem updPar_obs (s : State) (f : Par → Par) : (s.updPar f).obs = s.obs := rfl
@[simp] theorem updPar_fus (s : State) (f : Par → Par) : (s.updPar f).fus = s.fus := rfl
@[simp] theorem updPar_learn (s : State) (f : Par → Par) : (s.updPar f).learn = s.learn := rfl
@[simp] theorem updPar_snap (s : State) (f : Par → Par) : (s.updPar f).snap = s.snap := rfl
@[simp] theorem updPar_free (s : State) (f : Par → Par) : (s.updPar f).free = s.free := rfl
@[simp] theorem updPar_pending (s : State) (f : Par → Par) : (s.updPar f).pending = s.pending := rfl
@[simp] theorem updPar_r (s : State) (f : Par → Par) (x : Nat) : (s.updPar f).r x = s.r x := rfl
@[simp] theorem updPar_rf (s : State) (f : Par → Par) (x lo m : Nat) : (s.updPar f).rf x lo m = s.rf x lo m := rfl
@[simp] theorem updPar_rb (s : State) (f : Par → Par) (x i : Nat) : (s.updPar f).rb x i = s.rb x i := rfl
@[simp] theorem updPar_ringByte (s : State) (f : Par → Par) (x : Nat) : (s.updPar f).ringByte x = s.ringByte x := rfl
@[simp] theorem updPar_queue (s : State) (f : Par → Par) (x : Nat) : (s.updPar f).queue x = s.queue x := rfl

@[simp] theorem updMint_till (s : State) (f : Mint → Mint) : (s.updMint f).till = s.till := rfl
@[simp] theorem updMint_role (s : State) (f : Mint → Mint) : (s.updMint f).role = s.role := rfl
@[simp] theorem updMint_rst (s : State) (f : Mint → Mint) : (s.updMint f).rst = s.rst := rfl
@[simp] theorem updMint_regs (s : State) (f : Mint → Mint) : (s.updMint f).regs = s.regs := rfl
@[simp] theorem updMint_ring (s : State) (f : Mint → Mint) : (s.updMint f).ring = s.ring := rfl
@[simp] theorem updMint_mb (s : State) (f : Mint → Mint) : (s.updMint f).mb = s.mb := rfl
@[simp] theorem updMint_queues (s : State) (f : Mint → Mint) : (s.updMint f).queues = s.queues := rfl
@[simp] theorem updMint_port (s : State) (f : Mint → Mint) : (s.updMint f).port = s.port := rfl
@[simp] theorem updMint_tel (s : State) (f : Mint → Mint) : (s.updMint f).tel = s.tel := rfl
@[simp] theorem updMint_ldg (s : State) (f : Mint → Mint) : (s.updMint f).ldg = s.ldg := rfl
@[simp] theorem updMint_vault (s : State) (f : Mint → Mint) : (s.updMint f).vault = s.vault := rfl
@[simp] theorem updMint_cpt (s : State) (f : Mint → Mint) : (s.updMint f).cpt = s.cpt := rfl
@[simp] theorem updMint_prf (s : State) (f : Mint → Mint) : (s.updMint f).prf = s.prf := rfl
@[simp] theorem updMint_doors (s : State) (f : Mint → Mint) : (s.updMint f).doors = s.doors := rfl
@[simp] theorem updMint_fio (s : State) (f : Mint → Mint) : (s.updMint f).fio = s.fio := rfl
@[simp] theorem updMint_can (s : State) (f : Mint → Mint) : (s.updMint f).can = s.can := rfl
@[simp] theorem updMint_purse (s : State) (f : Mint → Mint) : (s.updMint f).purse = s.purse := rfl
@[simp] theorem updMint_vf (s : State) (f : Mint → Mint) : (s.updMint f).vf = s.vf := rfl
@[simp] theorem updMint_pwr (s : State) (f : Mint → Mint) : (s.updMint f).pwr = s.pwr := rfl
@[simp] theorem updMint_par (s : State) (f : Mint → Mint) : (s.updMint f).par = s.par := rfl
@[simp] theorem updMint_mint (s : State) (f : Mint → Mint) : (s.updMint f).mint = f s.mint := rfl
@[simp] theorem updMint_banks (s : State) (f : Mint → Mint) : (s.updMint f).banks = s.banks := rfl
@[simp] theorem updMint_aud (s : State) (f : Mint → Mint) : (s.updMint f).aud = s.aud := rfl
@[simp] theorem updMint_con (s : State) (f : Mint → Mint) : (s.updMint f).con = s.con := rfl
@[simp] theorem updMint_jtag (s : State) (f : Mint → Mint) : (s.updMint f).jtag = s.jtag := rfl
@[simp] theorem updMint_tun (s : State) (f : Mint → Mint) : (s.updMint f).tun = s.tun := rfl
@[simp] theorem updMint_link (s : State) (f : Mint → Mint) : (s.updMint f).link = s.link := rfl
@[simp] theorem updMint_cs (s : State) (f : Mint → Mint) : (s.updMint f).cs = s.cs := rfl
@[simp] theorem updMint_fb (s : State) (f : Mint → Mint) : (s.updMint f).fb = s.fb := rfl
@[simp] theorem updMint_obs (s : State) (f : Mint → Mint) : (s.updMint f).obs = s.obs := rfl
@[simp] theorem updMint_fus (s : State) (f : Mint → Mint) : (s.updMint f).fus = s.fus := rfl
@[simp] theorem updMint_learn (s : State) (f : Mint → Mint) : (s.updMint f).learn = s.learn := rfl
@[simp] theorem updMint_snap (s : State) (f : Mint → Mint) : (s.updMint f).snap = s.snap := rfl
@[simp] theorem updMint_free (s : State) (f : Mint → Mint) : (s.updMint f).free = s.free := rfl
@[simp] theorem updMint_pending (s : State) (f : Mint → Mint) : (s.updMint f).pending = s.pending := rfl
@[simp] theorem updMint_r (s : State) (f : Mint → Mint) (x : Nat) : (s.updMint f).r x = s.r x := rfl
@[simp] theorem updMint_rf (s : State) (f : Mint → Mint) (x lo m : Nat) : (s.updMint f).rf x lo m = s.rf x lo m := rfl
@[simp] theorem updMint_rb (s : State) (f : Mint → Mint) (x i : Nat) : (s.updMint f).rb x i = s.rb x i := rfl
@[simp] theorem updMint_ringByte (s : State) (f : Mint → Mint) (x : Nat) : (s.updMint f).ringByte x = s.ringByte x := rfl
@[simp] theorem updMint_queue (s : State) (f : Mint → Mint) (x : Nat) : (s.updMint f).queue x = s.queue x := rfl

@[simp] theorem updBanks_till (s : State) (f : BankSt → BankSt) : (s.updBanks f).till = s.till := rfl
@[simp] theorem updBanks_role (s : State) (f : BankSt → BankSt) : (s.updBanks f).role = s.role := rfl
@[simp] theorem updBanks_rst (s : State) (f : BankSt → BankSt) : (s.updBanks f).rst = s.rst := rfl
@[simp] theorem updBanks_regs (s : State) (f : BankSt → BankSt) : (s.updBanks f).regs = s.regs := rfl
@[simp] theorem updBanks_ring (s : State) (f : BankSt → BankSt) : (s.updBanks f).ring = s.ring := rfl
@[simp] theorem updBanks_mb (s : State) (f : BankSt → BankSt) : (s.updBanks f).mb = s.mb := rfl
@[simp] theorem updBanks_queues (s : State) (f : BankSt → BankSt) : (s.updBanks f).queues = s.queues := rfl
@[simp] theorem updBanks_port (s : State) (f : BankSt → BankSt) : (s.updBanks f).port = s.port := rfl
@[simp] theorem updBanks_tel (s : State) (f : BankSt → BankSt) : (s.updBanks f).tel = s.tel := rfl
@[simp] theorem updBanks_ldg (s : State) (f : BankSt → BankSt) : (s.updBanks f).ldg = s.ldg := rfl
@[simp] theorem updBanks_vault (s : State) (f : BankSt → BankSt) : (s.updBanks f).vault = s.vault := rfl
@[simp] theorem updBanks_cpt (s : State) (f : BankSt → BankSt) : (s.updBanks f).cpt = s.cpt := rfl
@[simp] theorem updBanks_prf (s : State) (f : BankSt → BankSt) : (s.updBanks f).prf = s.prf := rfl
@[simp] theorem updBanks_doors (s : State) (f : BankSt → BankSt) : (s.updBanks f).doors = s.doors := rfl
@[simp] theorem updBanks_fio (s : State) (f : BankSt → BankSt) : (s.updBanks f).fio = s.fio := rfl
@[simp] theorem updBanks_can (s : State) (f : BankSt → BankSt) : (s.updBanks f).can = s.can := rfl
@[simp] theorem updBanks_purse (s : State) (f : BankSt → BankSt) : (s.updBanks f).purse = s.purse := rfl
@[simp] theorem updBanks_vf (s : State) (f : BankSt → BankSt) : (s.updBanks f).vf = s.vf := rfl
@[simp] theorem updBanks_pwr (s : State) (f : BankSt → BankSt) : (s.updBanks f).pwr = s.pwr := rfl
@[simp] theorem updBanks_par (s : State) (f : BankSt → BankSt) : (s.updBanks f).par = s.par := rfl
@[simp] theorem updBanks_mint (s : State) (f : BankSt → BankSt) : (s.updBanks f).mint = s.mint := rfl
@[simp] theorem updBanks_banks (s : State) (f : BankSt → BankSt) : (s.updBanks f).banks = f s.banks := rfl
@[simp] theorem updBanks_aud (s : State) (f : BankSt → BankSt) : (s.updBanks f).aud = s.aud := rfl
@[simp] theorem updBanks_con (s : State) (f : BankSt → BankSt) : (s.updBanks f).con = s.con := rfl
@[simp] theorem updBanks_jtag (s : State) (f : BankSt → BankSt) : (s.updBanks f).jtag = s.jtag := rfl
@[simp] theorem updBanks_tun (s : State) (f : BankSt → BankSt) : (s.updBanks f).tun = s.tun := rfl
@[simp] theorem updBanks_link (s : State) (f : BankSt → BankSt) : (s.updBanks f).link = s.link := rfl
@[simp] theorem updBanks_cs (s : State) (f : BankSt → BankSt) : (s.updBanks f).cs = s.cs := rfl
@[simp] theorem updBanks_fb (s : State) (f : BankSt → BankSt) : (s.updBanks f).fb = s.fb := rfl
@[simp] theorem updBanks_obs (s : State) (f : BankSt → BankSt) : (s.updBanks f).obs = s.obs := rfl
@[simp] theorem updBanks_fus (s : State) (f : BankSt → BankSt) : (s.updBanks f).fus = s.fus := rfl
@[simp] theorem updBanks_learn (s : State) (f : BankSt → BankSt) : (s.updBanks f).learn = s.learn := rfl
@[simp] theorem updBanks_snap (s : State) (f : BankSt → BankSt) : (s.updBanks f).snap = s.snap := rfl
@[simp] theorem updBanks_free (s : State) (f : BankSt → BankSt) : (s.updBanks f).free = s.free := rfl
@[simp] theorem updBanks_pending (s : State) (f : BankSt → BankSt) : (s.updBanks f).pending = s.pending := rfl
@[simp] theorem updBanks_r (s : State) (f : BankSt → BankSt) (x : Nat) : (s.updBanks f).r x = s.r x := rfl
@[simp] theorem updBanks_rf (s : State) (f : BankSt → BankSt) (x lo m : Nat) : (s.updBanks f).rf x lo m = s.rf x lo m := rfl
@[simp] theorem updBanks_rb (s : State) (f : BankSt → BankSt) (x i : Nat) : (s.updBanks f).rb x i = s.rb x i := rfl
@[simp] theorem updBanks_ringByte (s : State) (f : BankSt → BankSt) (x : Nat) : (s.updBanks f).ringByte x = s.ringByte x := rfl
@[simp] theorem updBanks_queue (s : State) (f : BankSt → BankSt) (x : Nat) : (s.updBanks f).queue x = s.queue x := rfl

@[simp] theorem updAud_till (s : State) (f : Aud → Aud) : (s.updAud f).till = s.till := rfl
@[simp] theorem updAud_role (s : State) (f : Aud → Aud) : (s.updAud f).role = s.role := rfl
@[simp] theorem updAud_rst (s : State) (f : Aud → Aud) : (s.updAud f).rst = s.rst := rfl
@[simp] theorem updAud_regs (s : State) (f : Aud → Aud) : (s.updAud f).regs = s.regs := rfl
@[simp] theorem updAud_ring (s : State) (f : Aud → Aud) : (s.updAud f).ring = s.ring := rfl
@[simp] theorem updAud_mb (s : State) (f : Aud → Aud) : (s.updAud f).mb = s.mb := rfl
@[simp] theorem updAud_queues (s : State) (f : Aud → Aud) : (s.updAud f).queues = s.queues := rfl
@[simp] theorem updAud_port (s : State) (f : Aud → Aud) : (s.updAud f).port = s.port := rfl
@[simp] theorem updAud_tel (s : State) (f : Aud → Aud) : (s.updAud f).tel = s.tel := rfl
@[simp] theorem updAud_ldg (s : State) (f : Aud → Aud) : (s.updAud f).ldg = s.ldg := rfl
@[simp] theorem updAud_vault (s : State) (f : Aud → Aud) : (s.updAud f).vault = s.vault := rfl
@[simp] theorem updAud_cpt (s : State) (f : Aud → Aud) : (s.updAud f).cpt = s.cpt := rfl
@[simp] theorem updAud_prf (s : State) (f : Aud → Aud) : (s.updAud f).prf = s.prf := rfl
@[simp] theorem updAud_doors (s : State) (f : Aud → Aud) : (s.updAud f).doors = s.doors := rfl
@[simp] theorem updAud_fio (s : State) (f : Aud → Aud) : (s.updAud f).fio = s.fio := rfl
@[simp] theorem updAud_can (s : State) (f : Aud → Aud) : (s.updAud f).can = s.can := rfl
@[simp] theorem updAud_purse (s : State) (f : Aud → Aud) : (s.updAud f).purse = s.purse := rfl
@[simp] theorem updAud_vf (s : State) (f : Aud → Aud) : (s.updAud f).vf = s.vf := rfl
@[simp] theorem updAud_pwr (s : State) (f : Aud → Aud) : (s.updAud f).pwr = s.pwr := rfl
@[simp] theorem updAud_par (s : State) (f : Aud → Aud) : (s.updAud f).par = s.par := rfl
@[simp] theorem updAud_mint (s : State) (f : Aud → Aud) : (s.updAud f).mint = s.mint := rfl
@[simp] theorem updAud_banks (s : State) (f : Aud → Aud) : (s.updAud f).banks = s.banks := rfl
@[simp] theorem updAud_aud (s : State) (f : Aud → Aud) : (s.updAud f).aud = f s.aud := rfl
@[simp] theorem updAud_con (s : State) (f : Aud → Aud) : (s.updAud f).con = s.con := rfl
@[simp] theorem updAud_jtag (s : State) (f : Aud → Aud) : (s.updAud f).jtag = s.jtag := rfl
@[simp] theorem updAud_tun (s : State) (f : Aud → Aud) : (s.updAud f).tun = s.tun := rfl
@[simp] theorem updAud_link (s : State) (f : Aud → Aud) : (s.updAud f).link = s.link := rfl
@[simp] theorem updAud_cs (s : State) (f : Aud → Aud) : (s.updAud f).cs = s.cs := rfl
@[simp] theorem updAud_fb (s : State) (f : Aud → Aud) : (s.updAud f).fb = s.fb := rfl
@[simp] theorem updAud_obs (s : State) (f : Aud → Aud) : (s.updAud f).obs = s.obs := rfl
@[simp] theorem updAud_fus (s : State) (f : Aud → Aud) : (s.updAud f).fus = s.fus := rfl
@[simp] theorem updAud_learn (s : State) (f : Aud → Aud) : (s.updAud f).learn = s.learn := rfl
@[simp] theorem updAud_snap (s : State) (f : Aud → Aud) : (s.updAud f).snap = s.snap := rfl
@[simp] theorem updAud_free (s : State) (f : Aud → Aud) : (s.updAud f).free = s.free := rfl
@[simp] theorem updAud_pending (s : State) (f : Aud → Aud) : (s.updAud f).pending = s.pending := rfl
@[simp] theorem updAud_r (s : State) (f : Aud → Aud) (x : Nat) : (s.updAud f).r x = s.r x := rfl
@[simp] theorem updAud_rf (s : State) (f : Aud → Aud) (x lo m : Nat) : (s.updAud f).rf x lo m = s.rf x lo m := rfl
@[simp] theorem updAud_rb (s : State) (f : Aud → Aud) (x i : Nat) : (s.updAud f).rb x i = s.rb x i := rfl
@[simp] theorem updAud_ringByte (s : State) (f : Aud → Aud) (x : Nat) : (s.updAud f).ringByte x = s.ringByte x := rfl
@[simp] theorem updAud_queue (s : State) (f : Aud → Aud) (x : Nat) : (s.updAud f).queue x = s.queue x := rfl

@[simp] theorem updCon_till (s : State) (f : Console → Console) : (s.updCon f).till = s.till := rfl
@[simp] theorem updCon_role (s : State) (f : Console → Console) : (s.updCon f).role = s.role := rfl
@[simp] theorem updCon_rst (s : State) (f : Console → Console) : (s.updCon f).rst = s.rst := rfl
@[simp] theorem updCon_regs (s : State) (f : Console → Console) : (s.updCon f).regs = s.regs := rfl
@[simp] theorem updCon_ring (s : State) (f : Console → Console) : (s.updCon f).ring = s.ring := rfl
@[simp] theorem updCon_mb (s : State) (f : Console → Console) : (s.updCon f).mb = s.mb := rfl
@[simp] theorem updCon_queues (s : State) (f : Console → Console) : (s.updCon f).queues = s.queues := rfl
@[simp] theorem updCon_port (s : State) (f : Console → Console) : (s.updCon f).port = s.port := rfl
@[simp] theorem updCon_tel (s : State) (f : Console → Console) : (s.updCon f).tel = s.tel := rfl
@[simp] theorem updCon_ldg (s : State) (f : Console → Console) : (s.updCon f).ldg = s.ldg := rfl
@[simp] theorem updCon_vault (s : State) (f : Console → Console) : (s.updCon f).vault = s.vault := rfl
@[simp] theorem updCon_cpt (s : State) (f : Console → Console) : (s.updCon f).cpt = s.cpt := rfl
@[simp] theorem updCon_prf (s : State) (f : Console → Console) : (s.updCon f).prf = s.prf := rfl
@[simp] theorem updCon_doors (s : State) (f : Console → Console) : (s.updCon f).doors = s.doors := rfl
@[simp] theorem updCon_fio (s : State) (f : Console → Console) : (s.updCon f).fio = s.fio := rfl
@[simp] theorem updCon_can (s : State) (f : Console → Console) : (s.updCon f).can = s.can := rfl
@[simp] theorem updCon_purse (s : State) (f : Console → Console) : (s.updCon f).purse = s.purse := rfl
@[simp] theorem updCon_vf (s : State) (f : Console → Console) : (s.updCon f).vf = s.vf := rfl
@[simp] theorem updCon_pwr (s : State) (f : Console → Console) : (s.updCon f).pwr = s.pwr := rfl
@[simp] theorem updCon_par (s : State) (f : Console → Console) : (s.updCon f).par = s.par := rfl
@[simp] theorem updCon_mint (s : State) (f : Console → Console) : (s.updCon f).mint = s.mint := rfl
@[simp] theorem updCon_banks (s : State) (f : Console → Console) : (s.updCon f).banks = s.banks := rfl
@[simp] theorem updCon_aud (s : State) (f : Console → Console) : (s.updCon f).aud = s.aud := rfl
@[simp] theorem updCon_con (s : State) (f : Console → Console) : (s.updCon f).con = f s.con := rfl
@[simp] theorem updCon_jtag (s : State) (f : Console → Console) : (s.updCon f).jtag = s.jtag := rfl
@[simp] theorem updCon_tun (s : State) (f : Console → Console) : (s.updCon f).tun = s.tun := rfl
@[simp] theorem updCon_link (s : State) (f : Console → Console) : (s.updCon f).link = s.link := rfl
@[simp] theorem updCon_cs (s : State) (f : Console → Console) : (s.updCon f).cs = s.cs := rfl
@[simp] theorem updCon_fb (s : State) (f : Console → Console) : (s.updCon f).fb = s.fb := rfl
@[simp] theorem updCon_obs (s : State) (f : Console → Console) : (s.updCon f).obs = s.obs := rfl
@[simp] theorem updCon_fus (s : State) (f : Console → Console) : (s.updCon f).fus = s.fus := rfl
@[simp] theorem updCon_learn (s : State) (f : Console → Console) : (s.updCon f).learn = s.learn := rfl
@[simp] theorem updCon_snap (s : State) (f : Console → Console) : (s.updCon f).snap = s.snap := rfl
@[simp] theorem updCon_free (s : State) (f : Console → Console) : (s.updCon f).free = s.free := rfl
@[simp] theorem updCon_pending (s : State) (f : Console → Console) : (s.updCon f).pending = s.pending := rfl
@[simp] theorem updCon_r (s : State) (f : Console → Console) (x : Nat) : (s.updCon f).r x = s.r x := rfl
@[simp] theorem updCon_rf (s : State) (f : Console → Console) (x lo m : Nat) : (s.updCon f).rf x lo m = s.rf x lo m := rfl
@[simp] theorem updCon_rb (s : State) (f : Console → Console) (x i : Nat) : (s.updCon f).rb x i = s.rb x i := rfl
@[simp] theorem updCon_ringByte (s : State) (f : Console → Console) (x : Nat) : (s.updCon f).ringByte x = s.ringByte x := rfl
@[simp] theorem updCon_queue (s : State) (f : Console → Console) (x : Nat) : (s.updCon f).queue x = s.queue x := rfl

@[simp] theorem updTun_till (s : State) (f : Tun → Tun) : (s.updTun f).till = s.till := rfl
@[simp] theorem updTun_role (s : State) (f : Tun → Tun) : (s.updTun f).role = s.role := rfl
@[simp] theorem updTun_rst (s : State) (f : Tun → Tun) : (s.updTun f).rst = s.rst := rfl
@[simp] theorem updTun_regs (s : State) (f : Tun → Tun) : (s.updTun f).regs = s.regs := rfl
@[simp] theorem updTun_ring (s : State) (f : Tun → Tun) : (s.updTun f).ring = s.ring := rfl
@[simp] theorem updTun_mb (s : State) (f : Tun → Tun) : (s.updTun f).mb = s.mb := rfl
@[simp] theorem updTun_queues (s : State) (f : Tun → Tun) : (s.updTun f).queues = s.queues := rfl
@[simp] theorem updTun_port (s : State) (f : Tun → Tun) : (s.updTun f).port = s.port := rfl
@[simp] theorem updTun_tel (s : State) (f : Tun → Tun) : (s.updTun f).tel = s.tel := rfl
@[simp] theorem updTun_ldg (s : State) (f : Tun → Tun) : (s.updTun f).ldg = s.ldg := rfl
@[simp] theorem updTun_vault (s : State) (f : Tun → Tun) : (s.updTun f).vault = s.vault := rfl
@[simp] theorem updTun_cpt (s : State) (f : Tun → Tun) : (s.updTun f).cpt = s.cpt := rfl
@[simp] theorem updTun_prf (s : State) (f : Tun → Tun) : (s.updTun f).prf = s.prf := rfl
@[simp] theorem updTun_doors (s : State) (f : Tun → Tun) : (s.updTun f).doors = s.doors := rfl
@[simp] theorem updTun_fio (s : State) (f : Tun → Tun) : (s.updTun f).fio = s.fio := rfl
@[simp] theorem updTun_can (s : State) (f : Tun → Tun) : (s.updTun f).can = s.can := rfl
@[simp] theorem updTun_purse (s : State) (f : Tun → Tun) : (s.updTun f).purse = s.purse := rfl
@[simp] theorem updTun_vf (s : State) (f : Tun → Tun) : (s.updTun f).vf = s.vf := rfl
@[simp] theorem updTun_pwr (s : State) (f : Tun → Tun) : (s.updTun f).pwr = s.pwr := rfl
@[simp] theorem updTun_par (s : State) (f : Tun → Tun) : (s.updTun f).par = s.par := rfl
@[simp] theorem updTun_mint (s : State) (f : Tun → Tun) : (s.updTun f).mint = s.mint := rfl
@[simp] theorem updTun_banks (s : State) (f : Tun → Tun) : (s.updTun f).banks = s.banks := rfl
@[simp] theorem updTun_aud (s : State) (f : Tun → Tun) : (s.updTun f).aud = s.aud := rfl
@[simp] theorem updTun_con (s : State) (f : Tun → Tun) : (s.updTun f).con = s.con := rfl
@[simp] theorem updTun_jtag (s : State) (f : Tun → Tun) : (s.updTun f).jtag = s.jtag := rfl
@[simp] theorem updTun_tun (s : State) (f : Tun → Tun) : (s.updTun f).tun = f s.tun := rfl
@[simp] theorem updTun_link (s : State) (f : Tun → Tun) : (s.updTun f).link = s.link := rfl
@[simp] theorem updTun_cs (s : State) (f : Tun → Tun) : (s.updTun f).cs = s.cs := rfl
@[simp] theorem updTun_fb (s : State) (f : Tun → Tun) : (s.updTun f).fb = s.fb := rfl
@[simp] theorem updTun_obs (s : State) (f : Tun → Tun) : (s.updTun f).obs = s.obs := rfl
@[simp] theorem updTun_fus (s : State) (f : Tun → Tun) : (s.updTun f).fus = s.fus := rfl
@[simp] theorem updTun_learn (s : State) (f : Tun → Tun) : (s.updTun f).learn = s.learn := rfl
@[simp] theorem updTun_snap (s : State) (f : Tun → Tun) : (s.updTun f).snap = s.snap := rfl
@[simp] theorem updTun_free (s : State) (f : Tun → Tun) : (s.updTun f).free = s.free := rfl
@[simp] theorem updTun_pending (s : State) (f : Tun → Tun) : (s.updTun f).pending = s.pending := rfl
@[simp] theorem updTun_r (s : State) (f : Tun → Tun) (x : Nat) : (s.updTun f).r x = s.r x := rfl
@[simp] theorem updTun_rf (s : State) (f : Tun → Tun) (x lo m : Nat) : (s.updTun f).rf x lo m = s.rf x lo m := rfl
@[simp] theorem updTun_rb (s : State) (f : Tun → Tun) (x i : Nat) : (s.updTun f).rb x i = s.rb x i := rfl
@[simp] theorem updTun_ringByte (s : State) (f : Tun → Tun) (x : Nat) : (s.updTun f).ringByte x = s.ringByte x := rfl
@[simp] theorem updTun_queue (s : State) (f : Tun → Tun) (x : Nat) : (s.updTun f).queue x = s.queue x := rfl

@[simp] theorem updLink_till (s : State) (f : LinkSt → LinkSt) : (s.updLink f).till = s.till := rfl
@[simp] theorem updLink_role (s : State) (f : LinkSt → LinkSt) : (s.updLink f).role = s.role := rfl
@[simp] theorem updLink_rst (s : State) (f : LinkSt → LinkSt) : (s.updLink f).rst = s.rst := rfl
@[simp] theorem updLink_regs (s : State) (f : LinkSt → LinkSt) : (s.updLink f).regs = s.regs := rfl
@[simp] theorem updLink_ring (s : State) (f : LinkSt → LinkSt) : (s.updLink f).ring = s.ring := rfl
@[simp] theorem updLink_mb (s : State) (f : LinkSt → LinkSt) : (s.updLink f).mb = s.mb := rfl
@[simp] theorem updLink_queues (s : State) (f : LinkSt → LinkSt) : (s.updLink f).queues = s.queues := rfl
@[simp] theorem updLink_port (s : State) (f : LinkSt → LinkSt) : (s.updLink f).port = s.port := rfl
@[simp] theorem updLink_tel (s : State) (f : LinkSt → LinkSt) : (s.updLink f).tel = s.tel := rfl
@[simp] theorem updLink_ldg (s : State) (f : LinkSt → LinkSt) : (s.updLink f).ldg = s.ldg := rfl
@[simp] theorem updLink_vault (s : State) (f : LinkSt → LinkSt) : (s.updLink f).vault = s.vault := rfl
@[simp] theorem updLink_cpt (s : State) (f : LinkSt → LinkSt) : (s.updLink f).cpt = s.cpt := rfl
@[simp] theorem updLink_prf (s : State) (f : LinkSt → LinkSt) : (s.updLink f).prf = s.prf := rfl
@[simp] theorem updLink_doors (s : State) (f : LinkSt → LinkSt) : (s.updLink f).doors = s.doors := rfl
@[simp] theorem updLink_fio (s : State) (f : LinkSt → LinkSt) : (s.updLink f).fio = s.fio := rfl
@[simp] theorem updLink_can (s : State) (f : LinkSt → LinkSt) : (s.updLink f).can = s.can := rfl
@[simp] theorem updLink_purse (s : State) (f : LinkSt → LinkSt) : (s.updLink f).purse = s.purse := rfl
@[simp] theorem updLink_vf (s : State) (f : LinkSt → LinkSt) : (s.updLink f).vf = s.vf := rfl
@[simp] theorem updLink_pwr (s : State) (f : LinkSt → LinkSt) : (s.updLink f).pwr = s.pwr := rfl
@[simp] theorem updLink_par (s : State) (f : LinkSt → LinkSt) : (s.updLink f).par = s.par := rfl
@[simp] theorem updLink_mint (s : State) (f : LinkSt → LinkSt) : (s.updLink f).mint = s.mint := rfl
@[simp] theorem updLink_banks (s : State) (f : LinkSt → LinkSt) : (s.updLink f).banks = s.banks := rfl
@[simp] theorem updLink_aud (s : State) (f : LinkSt → LinkSt) : (s.updLink f).aud = s.aud := rfl
@[simp] theorem updLink_con (s : State) (f : LinkSt → LinkSt) : (s.updLink f).con = s.con := rfl
@[simp] theorem updLink_jtag (s : State) (f : LinkSt → LinkSt) : (s.updLink f).jtag = s.jtag := rfl
@[simp] theorem updLink_tun (s : State) (f : LinkSt → LinkSt) : (s.updLink f).tun = s.tun := rfl
@[simp] theorem updLink_link (s : State) (f : LinkSt → LinkSt) : (s.updLink f).link = f s.link := rfl
@[simp] theorem updLink_cs (s : State) (f : LinkSt → LinkSt) : (s.updLink f).cs = s.cs := rfl
@[simp] theorem updLink_fb (s : State) (f : LinkSt → LinkSt) : (s.updLink f).fb = s.fb := rfl
@[simp] theorem updLink_obs (s : State) (f : LinkSt → LinkSt) : (s.updLink f).obs = s.obs := rfl
@[simp] theorem updLink_fus (s : State) (f : LinkSt → LinkSt) : (s.updLink f).fus = s.fus := rfl
@[simp] theorem updLink_learn (s : State) (f : LinkSt → LinkSt) : (s.updLink f).learn = s.learn := rfl
@[simp] theorem updLink_snap (s : State) (f : LinkSt → LinkSt) : (s.updLink f).snap = s.snap := rfl
@[simp] theorem updLink_free (s : State) (f : LinkSt → LinkSt) : (s.updLink f).free = s.free := rfl
@[simp] theorem updLink_pending (s : State) (f : LinkSt → LinkSt) : (s.updLink f).pending = s.pending := rfl
@[simp] theorem updLink_r (s : State) (f : LinkSt → LinkSt) (x : Nat) : (s.updLink f).r x = s.r x := rfl
@[simp] theorem updLink_rf (s : State) (f : LinkSt → LinkSt) (x lo m : Nat) : (s.updLink f).rf x lo m = s.rf x lo m := rfl
@[simp] theorem updLink_rb (s : State) (f : LinkSt → LinkSt) (x i : Nat) : (s.updLink f).rb x i = s.rb x i := rfl
@[simp] theorem updLink_ringByte (s : State) (f : LinkSt → LinkSt) (x : Nat) : (s.updLink f).ringByte x = s.ringByte x := rfl
@[simp] theorem updLink_queue (s : State) (f : LinkSt → LinkSt) (x : Nat) : (s.updLink f).queue x = s.queue x := rfl

@[simp] theorem updCs_till (s : State) (k : Nat) (f : CsSt → CsSt) : (s.updCs k f).till = s.till := rfl
@[simp] theorem updCs_role (s : State) (k : Nat) (f : CsSt → CsSt) : (s.updCs k f).role = s.role := rfl
@[simp] theorem updCs_rst (s : State) (k : Nat) (f : CsSt → CsSt) : (s.updCs k f).rst = s.rst := rfl
@[simp] theorem updCs_regs (s : State) (k : Nat) (f : CsSt → CsSt) : (s.updCs k f).regs = s.regs := rfl
@[simp] theorem updCs_ring (s : State) (k : Nat) (f : CsSt → CsSt) : (s.updCs k f).ring = s.ring := rfl
@[simp] theorem updCs_mb (s : State) (k : Nat) (f : CsSt → CsSt) : (s.updCs k f).mb = s.mb := rfl
@[simp] theorem updCs_queues (s : State) (k : Nat) (f : CsSt → CsSt) : (s.updCs k f).queues = s.queues := rfl
@[simp] theorem updCs_port (s : State) (k : Nat) (f : CsSt → CsSt) : (s.updCs k f).port = s.port := rfl
@[simp] theorem updCs_tel (s : State) (k : Nat) (f : CsSt → CsSt) : (s.updCs k f).tel = s.tel := rfl
@[simp] theorem updCs_ldg (s : State) (k : Nat) (f : CsSt → CsSt) : (s.updCs k f).ldg = s.ldg := rfl
@[simp] theorem updCs_vault (s : State) (k : Nat) (f : CsSt → CsSt) : (s.updCs k f).vault = s.vault := rfl
@[simp] theorem updCs_cpt (s : State) (k : Nat) (f : CsSt → CsSt) : (s.updCs k f).cpt = s.cpt := rfl
@[simp] theorem updCs_prf (s : State) (k : Nat) (f : CsSt → CsSt) : (s.updCs k f).prf = s.prf := rfl
@[simp] theorem updCs_doors (s : State) (k : Nat) (f : CsSt → CsSt) : (s.updCs k f).doors = s.doors := rfl
@[simp] theorem updCs_fio (s : State) (k : Nat) (f : CsSt → CsSt) : (s.updCs k f).fio = s.fio := rfl
@[simp] theorem updCs_can (s : State) (k : Nat) (f : CsSt → CsSt) : (s.updCs k f).can = s.can := rfl
@[simp] theorem updCs_purse (s : State) (k : Nat) (f : CsSt → CsSt) : (s.updCs k f).purse = s.purse := rfl
@[simp] theorem updCs_vf (s : State) (k : Nat) (f : CsSt → CsSt) : (s.updCs k f).vf = s.vf := rfl
@[simp] theorem updCs_pwr (s : State) (k : Nat) (f : CsSt → CsSt) : (s.updCs k f).pwr = s.pwr := rfl
@[simp] theorem updCs_par (s : State) (k : Nat) (f : CsSt → CsSt) : (s.updCs k f).par = s.par := rfl
@[simp] theorem updCs_mint (s : State) (k : Nat) (f : CsSt → CsSt) : (s.updCs k f).mint = s.mint := rfl
@[simp] theorem updCs_banks (s : State) (k : Nat) (f : CsSt → CsSt) : (s.updCs k f).banks = s.banks := rfl
@[simp] theorem updCs_aud (s : State) (k : Nat) (f : CsSt → CsSt) : (s.updCs k f).aud = s.aud := rfl
@[simp] theorem updCs_con (s : State) (k : Nat) (f : CsSt → CsSt) : (s.updCs k f).con = s.con := rfl
@[simp] theorem updCs_jtag (s : State) (k : Nat) (f : CsSt → CsSt) : (s.updCs k f).jtag = s.jtag := rfl
@[simp] theorem updCs_tun (s : State) (k : Nat) (f : CsSt → CsSt) : (s.updCs k f).tun = s.tun := rfl
@[simp] theorem updCs_link (s : State) (k : Nat) (f : CsSt → CsSt) : (s.updCs k f).link = s.link := rfl
@[simp] theorem updCs_cs (s : State) (k : Nat) (f : CsSt → CsSt) : (s.updCs k f).cs = updAt s.cs k f := rfl
@[simp] theorem updCs_fb (s : State) (k : Nat) (f : CsSt → CsSt) : (s.updCs k f).fb = s.fb := rfl
@[simp] theorem updCs_obs (s : State) (k : Nat) (f : CsSt → CsSt) : (s.updCs k f).obs = s.obs := rfl
@[simp] theorem updCs_fus (s : State) (k : Nat) (f : CsSt → CsSt) : (s.updCs k f).fus = s.fus := rfl
@[simp] theorem updCs_learn (s : State) (k : Nat) (f : CsSt → CsSt) : (s.updCs k f).learn = s.learn := rfl
@[simp] theorem updCs_snap (s : State) (k : Nat) (f : CsSt → CsSt) : (s.updCs k f).snap = s.snap := rfl
@[simp] theorem updCs_free (s : State) (k : Nat) (f : CsSt → CsSt) : (s.updCs k f).free = s.free := rfl
@[simp] theorem updCs_pending (s : State) (k : Nat) (f : CsSt → CsSt) : (s.updCs k f).pending = s.pending := rfl
@[simp] theorem updCs_r (s : State) (k : Nat) (f : CsSt → CsSt) (x : Nat) : (s.updCs k f).r x = s.r x := rfl
@[simp] theorem updCs_rf (s : State) (k : Nat) (f : CsSt → CsSt) (x lo m : Nat) : (s.updCs k f).rf x lo m = s.rf x lo m := rfl
@[simp] theorem updCs_rb (s : State) (k : Nat) (f : CsSt → CsSt) (x i : Nat) : (s.updCs k f).rb x i = s.rb x i := rfl
@[simp] theorem updCs_ringByte (s : State) (k : Nat) (f : CsSt → CsSt) (x : Nat) : (s.updCs k f).ringByte x = s.ringByte x := rfl
@[simp] theorem updCs_queue (s : State) (k : Nat) (f : CsSt → CsSt) (x : Nat) : (s.updCs k f).queue x = s.queue x := rfl

@[simp] theorem updEnc_till (s : State) (n : Nat) (f : Enc → Enc) : (s.updEnc n f).till = s.till := rfl
@[simp] theorem updEnc_role (s : State) (n : Nat) (f : Enc → Enc) : (s.updEnc n f).role = s.role := rfl
@[simp] theorem updEnc_rst (s : State) (n : Nat) (f : Enc → Enc) : (s.updEnc n f).rst = s.rst := rfl
@[simp] theorem updEnc_regs (s : State) (n : Nat) (f : Enc → Enc) : (s.updEnc n f).regs = s.regs := rfl
@[simp] theorem updEnc_ring (s : State) (n : Nat) (f : Enc → Enc) : (s.updEnc n f).ring = s.ring := rfl
@[simp] theorem updEnc_mb (s : State) (n : Nat) (f : Enc → Enc) : (s.updEnc n f).mb = s.mb := rfl
@[simp] theorem updEnc_queues (s : State) (n : Nat) (f : Enc → Enc) : (s.updEnc n f).queues = s.queues := rfl
@[simp] theorem updEnc_port (s : State) (n : Nat) (f : Enc → Enc) : (s.updEnc n f).port = s.port := rfl
@[simp] theorem updEnc_tel (s : State) (n : Nat) (f : Enc → Enc) : (s.updEnc n f).tel = s.tel := rfl
@[simp] theorem updEnc_ldg (s : State) (n : Nat) (f : Enc → Enc) : (s.updEnc n f).ldg = s.ldg := rfl
@[simp] theorem updEnc_vault (s : State) (n : Nat) (f : Enc → Enc) : (s.updEnc n f).vault = s.vault := rfl
@[simp] theorem updEnc_cpt (s : State) (n : Nat) (f : Enc → Enc) : (s.updEnc n f).cpt = s.cpt := rfl
@[simp] theorem updEnc_prf (s : State) (n : Nat) (f : Enc → Enc) : (s.updEnc n f).prf = s.prf := rfl
@[simp] theorem updEnc_doors (s : State) (n : Nat) (f : Enc → Enc) : (s.updEnc n f).doors = s.doors := rfl
@[simp] theorem updEnc_fio (s : State) (n : Nat) (f : Enc → Enc) : (s.updEnc n f).fio = s.fio := rfl
@[simp] theorem updEnc_can (s : State) (n : Nat) (f : Enc → Enc) : (s.updEnc n f).can = s.can := rfl
@[simp] theorem updEnc_purse (s : State) (n : Nat) (f : Enc → Enc) : (s.updEnc n f).purse = s.purse := rfl
@[simp] theorem updEnc_vf (s : State) (n : Nat) (f : Enc → Enc) : (s.updEnc n f).vf = s.vf := rfl
@[simp] theorem updEnc_pwr (s : State) (n : Nat) (f : Enc → Enc) : (s.updEnc n f).pwr = s.pwr := rfl
@[simp] theorem updEnc_par (s : State) (n : Nat) (f : Enc → Enc) : (s.updEnc n f).par = s.par := rfl
@[simp] theorem updEnc_mint (s : State) (n : Nat) (f : Enc → Enc) : (s.updEnc n f).mint = s.mint := rfl
@[simp] theorem updEnc_banks (s : State) (n : Nat) (f : Enc → Enc) : (s.updEnc n f).banks = s.banks := rfl
@[simp] theorem updEnc_aud (s : State) (n : Nat) (f : Enc → Enc) : (s.updEnc n f).aud = s.aud := rfl
@[simp] theorem updEnc_con (s : State) (n : Nat) (f : Enc → Enc) : (s.updEnc n f).con = s.con := rfl
@[simp] theorem updEnc_jtag (s : State) (n : Nat) (f : Enc → Enc) : (s.updEnc n f).jtag = s.jtag := rfl
@[simp] theorem updEnc_tun (s : State) (n : Nat) (f : Enc → Enc) : (s.updEnc n f).tun = s.tun := rfl
@[simp] theorem updEnc_link (s : State) (n : Nat) (f : Enc → Enc) : (s.updEnc n f).link = s.link := rfl
@[simp] theorem updEnc_cs (s : State) (n : Nat) (f : Enc → Enc) : (s.updEnc n f).cs = s.cs := rfl
@[simp] theorem updEnc_fb (s : State) (n : Nat) (f : Enc → Enc) : (s.updEnc n f).fb = { s.fb with enc := updAt s.fb.enc n f } := rfl
@[simp] theorem updEnc_obs (s : State) (n : Nat) (f : Enc → Enc) : (s.updEnc n f).obs = s.obs := rfl
@[simp] theorem updEnc_fus (s : State) (n : Nat) (f : Enc → Enc) : (s.updEnc n f).fus = s.fus := rfl
@[simp] theorem updEnc_learn (s : State) (n : Nat) (f : Enc → Enc) : (s.updEnc n f).learn = s.learn := rfl
@[simp] theorem updEnc_snap (s : State) (n : Nat) (f : Enc → Enc) : (s.updEnc n f).snap = s.snap := rfl
@[simp] theorem updEnc_free (s : State) (n : Nat) (f : Enc → Enc) : (s.updEnc n f).free = s.free := rfl
@[simp] theorem updEnc_pending (s : State) (n : Nat) (f : Enc → Enc) : (s.updEnc n f).pending = s.pending := rfl
@[simp] theorem updEnc_r (s : State) (n : Nat) (f : Enc → Enc) (x : Nat) : (s.updEnc n f).r x = s.r x := rfl
@[simp] theorem updEnc_rf (s : State) (n : Nat) (f : Enc → Enc) (x lo m : Nat) : (s.updEnc n f).rf x lo m = s.rf x lo m := rfl
@[simp] theorem updEnc_rb (s : State) (n : Nat) (f : Enc → Enc) (x i : Nat) : (s.updEnc n f).rb x i = s.rb x i := rfl
@[simp] theorem updEnc_ringByte (s : State) (n : Nat) (f : Enc → Enc) (x : Nat) : (s.updEnc n f).ringByte x = s.ringByte x := rfl
@[simp] theorem updEnc_queue (s : State) (n : Nat) (f : Enc → Enc) (x : Nat) : (s.updEnc n f).queue x = s.queue x := rfl

@[simp] theorem updAbs_till (s : State) (n : Nat) (f : AbsSt → AbsSt) : (s.updAbs n f).till = s.till := rfl
@[simp] theorem updAbs_role (s : State) (n : Nat) (f : AbsSt → AbsSt) : (s.updAbs n f).role = s.role := rfl
@[simp] theorem updAbs_rst (s : State) (n : Nat) (f : AbsSt → AbsSt) : (s.updAbs n f).rst = s.rst := rfl
@[simp] theorem updAbs_regs (s : State) (n : Nat) (f : AbsSt → AbsSt) : (s.updAbs n f).regs = s.regs := rfl
@[simp] theorem updAbs_ring (s : State) (n : Nat) (f : AbsSt → AbsSt) : (s.updAbs n f).ring = s.ring := rfl
@[simp] theorem updAbs_mb (s : State) (n : Nat) (f : AbsSt → AbsSt) : (s.updAbs n f).mb = s.mb := rfl
@[simp] theorem updAbs_queues (s : State) (n : Nat) (f : AbsSt → AbsSt) : (s.updAbs n f).queues = s.queues := rfl
@[simp] theorem updAbs_port (s : State) (n : Nat) (f : AbsSt → AbsSt) : (s.updAbs n f).port = s.port := rfl
@[simp] theorem updAbs_tel (s : State) (n : Nat) (f : AbsSt → AbsSt) : (s.updAbs n f).tel = s.tel := rfl
@[simp] theorem updAbs_ldg (s : State) (n : Nat) (f : AbsSt → AbsSt) : (s.updAbs n f).ldg = s.ldg := rfl
@[simp] theorem updAbs_vault (s : State) (n : Nat) (f : AbsSt → AbsSt) : (s.updAbs n f).vault = s.vault := rfl
@[simp] theorem updAbs_cpt (s : State) (n : Nat) (f : AbsSt → AbsSt) : (s.updAbs n f).cpt = s.cpt := rfl
@[simp] theorem updAbs_prf (s : State) (n : Nat) (f : AbsSt → AbsSt) : (s.updAbs n f).prf = s.prf := rfl
@[simp] theorem updAbs_doors (s : State) (n : Nat) (f : AbsSt → AbsSt) : (s.updAbs n f).doors = s.doors := rfl
@[simp] theorem updAbs_fio (s : State) (n : Nat) (f : AbsSt → AbsSt) : (s.updAbs n f).fio = s.fio := rfl
@[simp] theorem updAbs_can (s : State) (n : Nat) (f : AbsSt → AbsSt) : (s.updAbs n f).can = s.can := rfl
@[simp] theorem updAbs_purse (s : State) (n : Nat) (f : AbsSt → AbsSt) : (s.updAbs n f).purse = s.purse := rfl
@[simp] theorem updAbs_vf (s : State) (n : Nat) (f : AbsSt → AbsSt) : (s.updAbs n f).vf = s.vf := rfl
@[simp] theorem updAbs_pwr (s : State) (n : Nat) (f : AbsSt → AbsSt) : (s.updAbs n f).pwr = s.pwr := rfl
@[simp] theorem updAbs_par (s : State) (n : Nat) (f : AbsSt → AbsSt) : (s.updAbs n f).par = s.par := rfl
@[simp] theorem updAbs_mint (s : State) (n : Nat) (f : AbsSt → AbsSt) : (s.updAbs n f).mint = s.mint := rfl
@[simp] theorem updAbs_banks (s : State) (n : Nat) (f : AbsSt → AbsSt) : (s.updAbs n f).banks = s.banks := rfl
@[simp] theorem updAbs_aud (s : State) (n : Nat) (f : AbsSt → AbsSt) : (s.updAbs n f).aud = s.aud := rfl
@[simp] theorem updAbs_con (s : State) (n : Nat) (f : AbsSt → AbsSt) : (s.updAbs n f).con = s.con := rfl
@[simp] theorem updAbs_jtag (s : State) (n : Nat) (f : AbsSt → AbsSt) : (s.updAbs n f).jtag = s.jtag := rfl
@[simp] theorem updAbs_tun (s : State) (n : Nat) (f : AbsSt → AbsSt) : (s.updAbs n f).tun = s.tun := rfl
@[simp] theorem updAbs_link (s : State) (n : Nat) (f : AbsSt → AbsSt) : (s.updAbs n f).link = s.link := rfl
@[simp] theorem updAbs_cs (s : State) (n : Nat) (f : AbsSt → AbsSt) : (s.updAbs n f).cs = s.cs := rfl
@[simp] theorem updAbs_fb (s : State) (n : Nat) (f : AbsSt → AbsSt) : (s.updAbs n f).fb = { s.fb with abs := updAt s.fb.abs n f } := rfl
@[simp] theorem updAbs_obs (s : State) (n : Nat) (f : AbsSt → AbsSt) : (s.updAbs n f).obs = s.obs := rfl
@[simp] theorem updAbs_fus (s : State) (n : Nat) (f : AbsSt → AbsSt) : (s.updAbs n f).fus = s.fus := rfl
@[simp] theorem updAbs_learn (s : State) (n : Nat) (f : AbsSt → AbsSt) : (s.updAbs n f).learn = s.learn := rfl
@[simp] theorem updAbs_snap (s : State) (n : Nat) (f : AbsSt → AbsSt) : (s.updAbs n f).snap = s.snap := rfl
@[simp] theorem updAbs_free (s : State) (n : Nat) (f : AbsSt → AbsSt) : (s.updAbs n f).free = s.free := rfl
@[simp] theorem updAbs_pending (s : State) (n : Nat) (f : AbsSt → AbsSt) : (s.updAbs n f).pending = s.pending := rfl
@[simp] theorem updAbs_r (s : State) (n : Nat) (f : AbsSt → AbsSt) (x : Nat) : (s.updAbs n f).r x = s.r x := rfl
@[simp] theorem updAbs_rf (s : State) (n : Nat) (f : AbsSt → AbsSt) (x lo m : Nat) : (s.updAbs n f).rf x lo m = s.rf x lo m := rfl
@[simp] theorem updAbs_rb (s : State) (n : Nat) (f : AbsSt → AbsSt) (x i : Nat) : (s.updAbs n f).rb x i = s.rb x i := rfl
@[simp] theorem updAbs_ringByte (s : State) (n : Nat) (f : AbsSt → AbsSt) (x : Nat) : (s.updAbs n f).ringByte x = s.ringByte x := rfl
@[simp] theorem updAbs_queue (s : State) (n : Nat) (f : AbsSt → AbsSt) (x : Nat) : (s.updAbs n f).queue x = s.queue x := rfl

@[simp] theorem updEmu_till (s : State) (f : Emu → Emu) : (s.updEmu f).till = s.till := rfl
@[simp] theorem updEmu_role (s : State) (f : Emu → Emu) : (s.updEmu f).role = s.role := rfl
@[simp] theorem updEmu_rst (s : State) (f : Emu → Emu) : (s.updEmu f).rst = s.rst := rfl
@[simp] theorem updEmu_regs (s : State) (f : Emu → Emu) : (s.updEmu f).regs = s.regs := rfl
@[simp] theorem updEmu_ring (s : State) (f : Emu → Emu) : (s.updEmu f).ring = s.ring := rfl
@[simp] theorem updEmu_mb (s : State) (f : Emu → Emu) : (s.updEmu f).mb = s.mb := rfl
@[simp] theorem updEmu_queues (s : State) (f : Emu → Emu) : (s.updEmu f).queues = s.queues := rfl
@[simp] theorem updEmu_port (s : State) (f : Emu → Emu) : (s.updEmu f).port = s.port := rfl
@[simp] theorem updEmu_tel (s : State) (f : Emu → Emu) : (s.updEmu f).tel = s.tel := rfl
@[simp] theorem updEmu_ldg (s : State) (f : Emu → Emu) : (s.updEmu f).ldg = s.ldg := rfl
@[simp] theorem updEmu_vault (s : State) (f : Emu → Emu) : (s.updEmu f).vault = s.vault := rfl
@[simp] theorem updEmu_cpt (s : State) (f : Emu → Emu) : (s.updEmu f).cpt = s.cpt := rfl
@[simp] theorem updEmu_prf (s : State) (f : Emu → Emu) : (s.updEmu f).prf = s.prf := rfl
@[simp] theorem updEmu_doors (s : State) (f : Emu → Emu) : (s.updEmu f).doors = s.doors := rfl
@[simp] theorem updEmu_fio (s : State) (f : Emu → Emu) : (s.updEmu f).fio = s.fio := rfl
@[simp] theorem updEmu_can (s : State) (f : Emu → Emu) : (s.updEmu f).can = s.can := rfl
@[simp] theorem updEmu_purse (s : State) (f : Emu → Emu) : (s.updEmu f).purse = s.purse := rfl
@[simp] theorem updEmu_vf (s : State) (f : Emu → Emu) : (s.updEmu f).vf = s.vf := rfl
@[simp] theorem updEmu_pwr (s : State) (f : Emu → Emu) : (s.updEmu f).pwr = s.pwr := rfl
@[simp] theorem updEmu_par (s : State) (f : Emu → Emu) : (s.updEmu f).par = s.par := rfl
@[simp] theorem updEmu_mint (s : State) (f : Emu → Emu) : (s.updEmu f).mint = s.mint := rfl
@[simp] theorem updEmu_banks (s : State) (f : Emu → Emu) : (s.updEmu f).banks = s.banks := rfl
@[simp] theorem updEmu_aud (s : State) (f : Emu → Emu) : (s.updEmu f).aud = s.aud := rfl
@[simp] theorem updEmu_con (s : State) (f : Emu → Emu) : (s.updEmu f).con = s.con := rfl
@[simp] theorem updEmu_jtag (s : State) (f : Emu → Emu) : (s.updEmu f).jtag = s.jtag := rfl
@[simp] theorem updEmu_tun (s : State) (f : Emu → Emu) : (s.updEmu f).tun = s.tun := rfl
@[simp] theorem updEmu_link (s : State) (f : Emu → Emu) : (s.updEmu f).link = s.link := rfl
@[simp] theorem updEmu_cs (s : State) (f : Emu → Emu) : (s.updEmu f).cs = s.cs := rfl
@[simp] theorem updEmu_fb (s : State) (f : Emu → Emu) : (s.updEmu f).fb = { s.fb with emu := f s.fb.emu } := rfl
@[simp] theorem updEmu_obs (s : State) (f : Emu → Emu) : (s.updEmu f).obs = s.obs := rfl
@[simp] theorem updEmu_fus (s : State) (f : Emu → Emu) : (s.updEmu f).fus = s.fus := rfl
@[simp] theorem updEmu_learn (s : State) (f : Emu → Emu) : (s.updEmu f).learn = s.learn := rfl
@[simp] theorem updEmu_snap (s : State) (f : Emu → Emu) : (s.updEmu f).snap = s.snap := rfl
@[simp] theorem updEmu_free (s : State) (f : Emu → Emu) : (s.updEmu f).free = s.free := rfl
@[simp] theorem updEmu_pending (s : State) (f : Emu → Emu) : (s.updEmu f).pending = s.pending := rfl
@[simp] theorem updEmu_r (s : State) (f : Emu → Emu) (x : Nat) : (s.updEmu f).r x = s.r x := rfl
@[simp] theorem updEmu_rf (s : State) (f : Emu → Emu) (x lo m : Nat) : (s.updEmu f).rf x lo m = s.rf x lo m := rfl
@[simp] theorem updEmu_rb (s : State) (f : Emu → Emu) (x i : Nat) : (s.updEmu f).rb x i = s.rb x i := rfl
@[simp] theorem updEmu_ringByte (s : State) (f : Emu → Emu) (x : Nat) : (s.updEmu f).ringByte x = s.ringByte x := rfl
@[simp] theorem updEmu_queue (s : State) (f : Emu → Emu) (x : Nat) : (s.updEmu f).queue x = s.queue x := rfl

@[simp] theorem updObs_till (s : State) (c : Nat) (f : Obs → Obs) : (s.updObs c f).till = s.till := rfl
@[simp] theorem updObs_role (s : State) (c : Nat) (f : Obs → Obs) : (s.updObs c f).role = s.role := rfl
@[simp] theorem updObs_rst (s : State) (c : Nat) (f : Obs → Obs) : (s.updObs c f).rst = s.rst := rfl
@[simp] theorem updObs_regs (s : State) (c : Nat) (f : Obs → Obs) : (s.updObs c f).regs = s.regs := rfl
@[simp] theorem updObs_ring (s : State) (c : Nat) (f : Obs → Obs) : (s.updObs c f).ring = s.ring := rfl
@[simp] theorem updObs_mb (s : State) (c : Nat) (f : Obs → Obs) : (s.updObs c f).mb = s.mb := rfl
@[simp] theorem updObs_queues (s : State) (c : Nat) (f : Obs → Obs) : (s.updObs c f).queues = s.queues := rfl
@[simp] theorem updObs_port (s : State) (c : Nat) (f : Obs → Obs) : (s.updObs c f).port = s.port := rfl
@[simp] theorem updObs_tel (s : State) (c : Nat) (f : Obs → Obs) : (s.updObs c f).tel = s.tel := rfl
@[simp] theorem updObs_ldg (s : State) (c : Nat) (f : Obs → Obs) : (s.updObs c f).ldg = s.ldg := rfl
@[simp] theorem updObs_vault (s : State) (c : Nat) (f : Obs → Obs) : (s.updObs c f).vault = s.vault := rfl
@[simp] theorem updObs_cpt (s : State) (c : Nat) (f : Obs → Obs) : (s.updObs c f).cpt = s.cpt := rfl
@[simp] theorem updObs_prf (s : State) (c : Nat) (f : Obs → Obs) : (s.updObs c f).prf = s.prf := rfl
@[simp] theorem updObs_doors (s : State) (c : Nat) (f : Obs → Obs) : (s.updObs c f).doors = s.doors := rfl
@[simp] theorem updObs_fio (s : State) (c : Nat) (f : Obs → Obs) : (s.updObs c f).fio = s.fio := rfl
@[simp] theorem updObs_can (s : State) (c : Nat) (f : Obs → Obs) : (s.updObs c f).can = s.can := rfl
@[simp] theorem updObs_purse (s : State) (c : Nat) (f : Obs → Obs) : (s.updObs c f).purse = s.purse := rfl
@[simp] theorem updObs_vf (s : State) (c : Nat) (f : Obs → Obs) : (s.updObs c f).vf = s.vf := rfl
@[simp] theorem updObs_pwr (s : State) (c : Nat) (f : Obs → Obs) : (s.updObs c f).pwr = s.pwr := rfl
@[simp] theorem updObs_par (s : State) (c : Nat) (f : Obs → Obs) : (s.updObs c f).par = s.par := rfl
@[simp] theorem updObs_mint (s : State) (c : Nat) (f : Obs → Obs) : (s.updObs c f).mint = s.mint := rfl
@[simp] theorem updObs_banks (s : State) (c : Nat) (f : Obs → Obs) : (s.updObs c f).banks = s.banks := rfl
@[simp] theorem updObs_aud (s : State) (c : Nat) (f : Obs → Obs) : (s.updObs c f).aud = s.aud := rfl
@[simp] theorem updObs_con (s : State) (c : Nat) (f : Obs → Obs) : (s.updObs c f).con = s.con := rfl
@[simp] theorem updObs_jtag (s : State) (c : Nat) (f : Obs → Obs) : (s.updObs c f).jtag = s.jtag := rfl
@[simp] theorem updObs_tun (s : State) (c : Nat) (f : Obs → Obs) : (s.updObs c f).tun = s.tun := rfl
@[simp] theorem updObs_link (s : State) (c : Nat) (f : Obs → Obs) : (s.updObs c f).link = s.link := rfl
@[simp] theorem updObs_cs (s : State) (c : Nat) (f : Obs → Obs) : (s.updObs c f).cs = s.cs := rfl
@[simp] theorem updObs_fb (s : State) (c : Nat) (f : Obs → Obs) : (s.updObs c f).fb = s.fb := rfl
@[simp] theorem updObs_obs (s : State) (c : Nat) (f : Obs → Obs) : (s.updObs c f).obs = updAt s.obs c f := rfl
@[simp] theorem updObs_fus (s : State) (c : Nat) (f : Obs → Obs) : (s.updObs c f).fus = s.fus := rfl
@[simp] theorem updObs_learn (s : State) (c : Nat) (f : Obs → Obs) : (s.updObs c f).learn = s.learn := rfl
@[simp] theorem updObs_snap (s : State) (c : Nat) (f : Obs → Obs) : (s.updObs c f).snap = s.snap := rfl
@[simp] theorem updObs_free (s : State) (c : Nat) (f : Obs → Obs) : (s.updObs c f).free = s.free := rfl
@[simp] theorem updObs_pending (s : State) (c : Nat) (f : Obs → Obs) : (s.updObs c f).pending = s.pending := rfl
@[simp] theorem updObs_r (s : State) (c : Nat) (f : Obs → Obs) (x : Nat) : (s.updObs c f).r x = s.r x := rfl
@[simp] theorem updObs_rf (s : State) (c : Nat) (f : Obs → Obs) (x lo m : Nat) : (s.updObs c f).rf x lo m = s.rf x lo m := rfl
@[simp] theorem updObs_rb (s : State) (c : Nat) (f : Obs → Obs) (x i : Nat) : (s.updObs c f).rb x i = s.rb x i := rfl
@[simp] theorem updObs_ringByte (s : State) (c : Nat) (f : Obs → Obs) (x : Nat) : (s.updObs c f).ringByte x = s.ringByte x := rfl
@[simp] theorem updObs_queue (s : State) (c : Nat) (f : Obs → Obs) (x : Nat) : (s.updObs c f).queue x = s.queue x := rfl

@[simp] theorem updFus_till (s : State) (f : Fusion → Fusion) : (s.updFus f).till = s.till := rfl
@[simp] theorem updFus_role (s : State) (f : Fusion → Fusion) : (s.updFus f).role = s.role := rfl
@[simp] theorem updFus_rst (s : State) (f : Fusion → Fusion) : (s.updFus f).rst = s.rst := rfl
@[simp] theorem updFus_regs (s : State) (f : Fusion → Fusion) : (s.updFus f).regs = s.regs := rfl
@[simp] theorem updFus_ring (s : State) (f : Fusion → Fusion) : (s.updFus f).ring = s.ring := rfl
@[simp] theorem updFus_mb (s : State) (f : Fusion → Fusion) : (s.updFus f).mb = s.mb := rfl
@[simp] theorem updFus_queues (s : State) (f : Fusion → Fusion) : (s.updFus f).queues = s.queues := rfl
@[simp] theorem updFus_port (s : State) (f : Fusion → Fusion) : (s.updFus f).port = s.port := rfl
@[simp] theorem updFus_tel (s : State) (f : Fusion → Fusion) : (s.updFus f).tel = s.tel := rfl
@[simp] theorem updFus_ldg (s : State) (f : Fusion → Fusion) : (s.updFus f).ldg = s.ldg := rfl
@[simp] theorem updFus_vault (s : State) (f : Fusion → Fusion) : (s.updFus f).vault = s.vault := rfl
@[simp] theorem updFus_cpt (s : State) (f : Fusion → Fusion) : (s.updFus f).cpt = s.cpt := rfl
@[simp] theorem updFus_prf (s : State) (f : Fusion → Fusion) : (s.updFus f).prf = s.prf := rfl
@[simp] theorem updFus_doors (s : State) (f : Fusion → Fusion) : (s.updFus f).doors = s.doors := rfl
@[simp] theorem updFus_fio (s : State) (f : Fusion → Fusion) : (s.updFus f).fio = s.fio := rfl
@[simp] theorem updFus_can (s : State) (f : Fusion → Fusion) : (s.updFus f).can = s.can := rfl
@[simp] theorem updFus_purse (s : State) (f : Fusion → Fusion) : (s.updFus f).purse = s.purse := rfl
@[simp] theorem updFus_vf (s : State) (f : Fusion → Fusion) : (s.updFus f).vf = s.vf := rfl
@[simp] theorem updFus_pwr (s : State) (f : Fusion → Fusion) : (s.updFus f).pwr = s.pwr := rfl
@[simp] theorem updFus_par (s : State) (f : Fusion → Fusion) : (s.updFus f).par = s.par := rfl
@[simp] theorem updFus_mint (s : State) (f : Fusion → Fusion) : (s.updFus f).mint = s.mint := rfl
@[simp] theorem updFus_banks (s : State) (f : Fusion → Fusion) : (s.updFus f).banks = s.banks := rfl
@[simp] theorem updFus_aud (s : State) (f : Fusion → Fusion) : (s.updFus f).aud = s.aud := rfl
@[simp] theorem updFus_con (s : State) (f : Fusion → Fusion) : (s.updFus f).con = s.con := rfl
@[simp] theorem updFus_jtag (s : State) (f : Fusion → Fusion) : (s.updFus f).jtag = s.jtag := rfl
@[simp] theorem updFus_tun (s : State) (f : Fusion → Fusion) : (s.updFus f).tun = s.tun := rfl
@[simp] theorem updFus_link (s : State) (f : Fusion → Fusion) : (s.updFus f).link = s.link := rfl
@[simp] theorem updFus_cs (s : State) (f : Fusion → Fusion) : (s.updFus f).cs = s.cs := rfl
@[simp] theorem updFus_fb (s : State) (f : Fusion → Fusion) : (s.updFus f).fb = s.fb := rfl
@[simp] theorem updFus_obs (s : State) (f : Fusion → Fusion) : (s.updFus f).obs = s.obs := rfl
@[simp] theorem updFus_fus (s : State) (f : Fusion → Fusion) : (s.updFus f).fus = f s.fus := rfl
@[simp] theorem updFus_learn (s : State) (f : Fusion → Fusion) : (s.updFus f).learn = s.learn := rfl
@[simp] theorem updFus_snap (s : State) (f : Fusion → Fusion) : (s.updFus f).snap = s.snap := rfl
@[simp] theorem updFus_free (s : State) (f : Fusion → Fusion) : (s.updFus f).free = s.free := rfl
@[simp] theorem updFus_pending (s : State) (f : Fusion → Fusion) : (s.updFus f).pending = s.pending := rfl
@[simp] theorem updFus_r (s : State) (f : Fusion → Fusion) (x : Nat) : (s.updFus f).r x = s.r x := rfl
@[simp] theorem updFus_rf (s : State) (f : Fusion → Fusion) (x lo m : Nat) : (s.updFus f).rf x lo m = s.rf x lo m := rfl
@[simp] theorem updFus_rb (s : State) (f : Fusion → Fusion) (x i : Nat) : (s.updFus f).rb x i = s.rb x i := rfl
@[simp] theorem updFus_ringByte (s : State) (f : Fusion → Fusion) (x : Nat) : (s.updFus f).ringByte x = s.ringByte x := rfl
@[simp] theorem updFus_queue (s : State) (f : Fusion → Fusion) (x : Nat) : (s.updFus f).queue x = s.queue x := rfl

@[simp] theorem updLearn_till (s : State) (f : Learn → Learn) : (s.updLearn f).till = s.till := rfl
@[simp] theorem updLearn_role (s : State) (f : Learn → Learn) : (s.updLearn f).role = s.role := rfl
@[simp] theorem updLearn_rst (s : State) (f : Learn → Learn) : (s.updLearn f).rst = s.rst := rfl
@[simp] theorem updLearn_regs (s : State) (f : Learn → Learn) : (s.updLearn f).regs = s.regs := rfl
@[simp] theorem updLearn_ring (s : State) (f : Learn → Learn) : (s.updLearn f).ring = s.ring := rfl
@[simp] theorem updLearn_mb (s : State) (f : Learn → Learn) : (s.updLearn f).mb = s.mb := rfl
@[simp] theorem updLearn_queues (s : State) (f : Learn → Learn) : (s.updLearn f).queues = s.queues := rfl
@[simp] theorem updLearn_port (s : State) (f : Learn → Learn) : (s.updLearn f).port = s.port := rfl
@[simp] theorem updLearn_tel (s : State) (f : Learn → Learn) : (s.updLearn f).tel = s.tel := rfl
@[simp] theorem updLearn_ldg (s : State) (f : Learn → Learn) : (s.updLearn f).ldg = s.ldg := rfl
@[simp] theorem updLearn_vault (s : State) (f : Learn → Learn) : (s.updLearn f).vault = s.vault := rfl
@[simp] theorem updLearn_cpt (s : State) (f : Learn → Learn) : (s.updLearn f).cpt = s.cpt := rfl
@[simp] theorem updLearn_prf (s : State) (f : Learn → Learn) : (s.updLearn f).prf = s.prf := rfl
@[simp] theorem updLearn_doors (s : State) (f : Learn → Learn) : (s.updLearn f).doors = s.doors := rfl
@[simp] theorem updLearn_fio (s : State) (f : Learn → Learn) : (s.updLearn f).fio = s.fio := rfl
@[simp] theorem updLearn_can (s : State) (f : Learn → Learn) : (s.updLearn f).can = s.can := rfl
@[simp] theorem updLearn_purse (s : State) (f : Learn → Learn) : (s.updLearn f).purse = s.purse := rfl
@[simp] theorem updLearn_vf (s : State) (f : Learn → Learn) : (s.updLearn f).vf = s.vf := rfl
@[simp] theorem updLearn_pwr (s : State) (f : Learn → Learn) : (s.updLearn f).pwr = s.pwr := rfl
@[simp] theorem updLearn_par (s : State) (f : Learn → Learn) : (s.updLearn f).par = s.par := rfl
@[simp] theorem updLearn_mint (s : State) (f : Learn → Learn) : (s.updLearn f).mint = s.mint := rfl
@[simp] theorem updLearn_banks (s : State) (f : Learn → Learn) : (s.updLearn f).banks = s.banks := rfl
@[simp] theorem updLearn_aud (s : State) (f : Learn → Learn) : (s.updLearn f).aud = s.aud := rfl
@[simp] theorem updLearn_con (s : State) (f : Learn → Learn) : (s.updLearn f).con = s.con := rfl
@[simp] theorem updLearn_jtag (s : State) (f : Learn → Learn) : (s.updLearn f).jtag = s.jtag := rfl
@[simp] theorem updLearn_tun (s : State) (f : Learn → Learn) : (s.updLearn f).tun = s.tun := rfl
@[simp] theorem updLearn_link (s : State) (f : Learn → Learn) : (s.updLearn f).link = s.link := rfl
@[simp] theorem updLearn_cs (s : State) (f : Learn → Learn) : (s.updLearn f).cs = s.cs := rfl
@[simp] theorem updLearn_fb (s : State) (f : Learn → Learn) : (s.updLearn f).fb = s.fb := rfl
@[simp] theorem updLearn_obs (s : State) (f : Learn → Learn) : (s.updLearn f).obs = s.obs := rfl
@[simp] theorem updLearn_fus (s : State) (f : Learn → Learn) : (s.updLearn f).fus = s.fus := rfl
@[simp] theorem updLearn_learn (s : State) (f : Learn → Learn) : (s.updLearn f).learn = s.learn.map f := rfl
@[simp] theorem updLearn_snap (s : State) (f : Learn → Learn) : (s.updLearn f).snap = s.snap := rfl
@[simp] theorem updLearn_free (s : State) (f : Learn → Learn) : (s.updLearn f).free = s.free := rfl
@[simp] theorem updLearn_pending (s : State) (f : Learn → Learn) : (s.updLearn f).pending = s.pending := rfl
@[simp] theorem updLearn_r (s : State) (f : Learn → Learn) (x : Nat) : (s.updLearn f).r x = s.r x := rfl
@[simp] theorem updLearn_rf (s : State) (f : Learn → Learn) (x lo m : Nat) : (s.updLearn f).rf x lo m = s.rf x lo m := rfl
@[simp] theorem updLearn_rb (s : State) (f : Learn → Learn) (x i : Nat) : (s.updLearn f).rb x i = s.rb x i := rfl
@[simp] theorem updLearn_ringByte (s : State) (f : Learn → Learn) (x : Nat) : (s.updLearn f).ringByte x = s.ringByte x := rfl
@[simp] theorem updLearn_queue (s : State) (f : Learn → Learn) (x : Nat) : (s.updLearn f).queue x = s.queue x := rfl

@[simp] theorem takeFree_till (s : State) : s.takeFree.till = s.till := rfl
@[simp] theorem takeFree_role (s : State) : s.takeFree.role = s.role := rfl
@[simp] theorem takeFree_rst (s : State) : s.takeFree.rst = s.rst := rfl
@[simp] theorem takeFree_regs (s : State) : s.takeFree.regs = s.regs := rfl
@[simp] theorem takeFree_ring (s : State) : s.takeFree.ring = s.ring := rfl
@[simp] theorem takeFree_mb (s : State) : s.takeFree.mb = s.mb := rfl
@[simp] theorem takeFree_queues (s : State) : s.takeFree.queues = s.queues := rfl
@[simp] theorem takeFree_port (s : State) : s.takeFree.port = s.port := rfl
@[simp] theorem takeFree_tel (s : State) : s.takeFree.tel = s.tel := rfl
@[simp] theorem takeFree_ldg (s : State) : s.takeFree.ldg = s.ldg := rfl
@[simp] theorem takeFree_vault (s : State) : s.takeFree.vault = s.vault := rfl
@[simp] theorem takeFree_cpt (s : State) : s.takeFree.cpt = s.cpt := rfl
@[simp] theorem takeFree_prf (s : State) : s.takeFree.prf = s.prf := rfl
@[simp] theorem takeFree_doors (s : State) : s.takeFree.doors = s.doors := rfl
@[simp] theorem takeFree_fio (s : State) : s.takeFree.fio = s.fio := rfl
@[simp] theorem takeFree_can (s : State) : s.takeFree.can = s.can := rfl
@[simp] theorem takeFree_purse (s : State) : s.takeFree.purse = s.purse := rfl
@[simp] theorem takeFree_vf (s : State) : s.takeFree.vf = s.vf := rfl
@[simp] theorem takeFree_pwr (s : State) : s.takeFree.pwr = s.pwr := rfl
@[simp] theorem takeFree_par (s : State) : s.takeFree.par = s.par := rfl
@[simp] theorem takeFree_mint (s : State) : s.takeFree.mint = s.mint := rfl
@[simp] theorem takeFree_banks (s : State) : s.takeFree.banks = s.banks := rfl
@[simp] theorem takeFree_aud (s : State) : s.takeFree.aud = s.aud := rfl
@[simp] theorem takeFree_con (s : State) : s.takeFree.con = s.con := rfl
@[simp] theorem takeFree_jtag (s : State) : s.takeFree.jtag = s.jtag := rfl
@[simp] theorem takeFree_tun (s : State) : s.takeFree.tun = s.tun := rfl
@[simp] theorem takeFree_link (s : State) : s.takeFree.link = s.link := rfl
@[simp] theorem takeFree_cs (s : State) : s.takeFree.cs = s.cs := rfl
@[simp] theorem takeFree_fb (s : State) : s.takeFree.fb = s.fb := rfl
@[simp] theorem takeFree_obs (s : State) : s.takeFree.obs = s.obs := rfl
@[simp] theorem takeFree_fus (s : State) : s.takeFree.fus = s.fus := rfl
@[simp] theorem takeFree_learn (s : State) : s.takeFree.learn = s.learn := rfl
@[simp] theorem takeFree_snap (s : State) : s.takeFree.snap = s.snap := rfl
@[simp] theorem takeFree_free (s : State) : s.takeFree.free = s.free + 1 := rfl
@[simp] theorem takeFree_pending (s : State) : s.takeFree.pending = s.pending := rfl
@[simp] theorem takeFree_r (s : State) (x : Nat) : s.takeFree.r x = s.r x := rfl
@[simp] theorem takeFree_rf (s : State) (x lo m : Nat) : s.takeFree.rf x lo m = s.rf x lo m := rfl
@[simp] theorem takeFree_rb (s : State) (x i : Nat) : s.takeFree.rb x i = s.rb x i := rfl
@[simp] theorem takeFree_ringByte (s : State) (x : Nat) : s.takeFree.ringByte x = s.ringByte x := rfl
@[simp] theorem takeFree_queue (s : State) (x : Nat) : s.takeFree.queue x = s.queue x := rfl

end Sys2Proof.Machine.State
end

