-- ==== Sys2Proof/Laws/Ops.lean ====
section
/-! SUPPORT. What the shared operations can do: an event's posting touches the queue counters, the rings, the Teller and the
Ledger alone; a Teller command is its row; the checks of R552 lead to one completion. -/

namespace Sys2Proof.Machine.State

/-- Only what an event's posting may change changed. -/
def PostFrame (s t : State) : Prop := t = { s with ring := t.ring, queues := t.queues, tel := t.tel, ldg := t.ldg }

theorem PostFrame.refl (s : State) : s.PostFrame s := rfl

theorem PostFrame.trans {s t u : State} (h : s.PostFrame t) (h' : t.PostFrame u) : s.PostFrame u := by
  unfold PostFrame at *
  rw [h] at h'
  exact h'

theorem PostFrame.regs {s t : State} (h : s.PostFrame t) : t.regs = s.regs := by rw [h]
theorem PostFrame.pending {s t : State} (h : s.PostFrame t) : t.pending = s.pending := by rw [h]
theorem PostFrame.cpt {s t : State} (h : s.PostFrame t) : t.cpt = s.cpt := by rw [h]
theorem PostFrame.r {s t : State} (h : s.PostFrame t) (a : Nat) : t.r a = s.r a := by unfold State.r; rw [h.regs]

theorem intakeTake_frame (e : Entry) (s : State) : s.PostFrame (intakeTake e s) := rfl
theorem intakeDrop_frame (e : Entry) (s : State) : s.PostFrame (intakeDrop e s) := rfl
theorem intakeCoalesce_frame (e : Entry) (i : Nat) (s : State) : s.PostFrame (intakeCoalesce e i s) := rfl

theorem intakeOrder_frame (e : Entry) (s : State) : s.PostFrame (intakeOrder e s) := by
  unfold intakeOrder
  simp only
  repeat' split
  all_goals first
    | exact intakeDrop_frame e s
    | exact intakeTake_frame e s
    | exact intakeCoalesce_frame e _ s
    | rfl

theorem intakeArrive_frame (e : Entry) (s : State) : s.PostFrame (intakeArrive e s) := by
  unfold intakeArrive
  split
  · exact intakeOrder_frame e s
  · rfl

theorem pushRing_frame (s : State) (n : Nat) (bs : List Byte) : s.PostFrame (s.pushRing n bs) :=
  PostFrame.trans (show s.PostFrame (s.setRingBytes (s.ringSlot n (s.queue n).prod) bs) from rfl) rfl

theorem tel_frame (s : State) (x : Teller) : s.PostFrame { s with tel := x } := rfl

theorem evtPush_frame (s : State) (e : Event) : s.PostFrame (s.evtPush e) := (pushRing_frame s 4 _).trans (tel_frame _ _)
theorem evtLost_frame (s : State) : s.PostFrame s.evtLost := PostFrame.trans (show s.PostFrame (s.qDrop 4) from rfl) (tel_frame _ _)
theorem evtOverflow_frame (s : State) : s.PostFrame s.evtOverflow := (evtPush_frame s _).trans (tel_frame _ _)

theorem ite_frame (s t u : State) (c : Prop) [Decidable c] (h : s.PostFrame t) (h' : s.PostFrame u) :
    s.PostFrame (if c then t else u) := by
  by_cases hc : c
  · rw [if_pos hc]; exact h
  · rw [if_neg hc]; exact h'

theorem evtArrive_frame (e : Event) (s : State) : s.PostFrame (evtArrive e s) :=
  ite_frame s _ _ _ (PostFrame.refl s) <| ite_frame s _ _ _ (tel_frame s _) <|
    ite_frame s _ _ _ (ite_frame s _ _ _ (tel_frame s _) (evtLost_frame s)) <|
      ite_frame s _ _ _ (evtLost_frame s) <| ite_frame s _ _ _ (evtPush_frame s e) <|
        ite_frame s _ _ _ ((evtLost_frame s).trans (evtOverflow_frame _)) (evtLost_frame s)

theorem postEvent_frame (s : State) (e : Event) : s.PostFrame (s.postEvent e) :=
  (intakeArrive_frame _ s).trans (evtArrive_frame e _)

theorem endFreeze_frame (s : State) (d : Nat) : s.PostFrame (s.endFreeze d) := by
  unfold endFreeze
  split
  · exact PostFrame.trans (show s.PostFrame (s.updLdg fun l => { l with frozen := none }) from rfl) (postEvent_frame _ _)
  · rfl

theorem freezeCheck_frame (s : State) (c : EvClass) : s.PostFrame (s.freezeCheck c) := by
  unfold freezeCheck
  split
  · exact endFreeze_frame s 2
  · rfl

/-- Posting an event (R70). -/
theorem postD_frame (s : State) (k : EvKind) (src detail : Nat) (data : List Byte) : s.PostFrame (s.postD k src detail data) :=
  (freezeCheck_frame s k.cls).trans (postEvent_frame _ _)

theorem post_frame (s : State) (k : EvKind) (src detail : Nat) : s.PostFrame (s.post k src detail) := postD_frame s k src detail []

theorem postRecord_frame (s : State) (k : EvKind) (src detail : Nat) (data : List Byte) :
    s.PostFrame (s.postRecord k src detail data) := intakeArrive_frame _ s

/-- A fault: its bit, and an event's posting. -/
theorem fault_frame (s : State) (b i : Nat) (k : EvKind) (src detail : Nat) :
    (s.setFlt b i).PostFrame (s.fault b i k src detail) := post_frame _ k src detail

@[simp] theorem post_r (s : State) (k : EvKind) (src detail a : Nat) : (s.post k src detail).r a = s.r a := (post_frame s k src detail).r a
@[simp] theorem post_regs (s : State) (k : EvKind) (src detail : Nat) : (s.post k src detail).regs = s.regs :=
  (post_frame s k src detail).regs
@[simp] theorem post_cpt (s : State) (k : EvKind) (src detail : Nat) : (s.post k src detail).cpt = s.cpt := (post_frame s k src detail).cpt
@[simp] theorem post_pending (s : State) (k : EvKind) (src detail : Nat) : (s.post k src detail).pending = s.pending :=
  (post_frame s k src detail).pending

/-- A kept event with room takes the intake's next place (R460 rule 1). -/
theorem intakeOrder_kept (e : Entry) (s : State) (h : s.pwr ≠ .hush) (hk : classKept e.ev.cls = true) (hr : s.scRing 5 = false)
    (hf : s.intakeFill < 256) : (intakeOrder e s).ldg.intake = s.ldg.intake ++ [e] := by
  unfold intakeOrder
  simp [h, hk, hr, hf, intakeTake, updLdg, qPosted, updQ]

/-- An event that does not join another and finds less than 192 entries takes the intake's next place (R460). -/
theorem intakeOrder_room (e : Entry) (s : State) (h : s.pwr ≠ .hush) (hr : s.scRing 5 = false) (hf : s.intakeFill < 192) :
    (intakeOrder e s).ldg.intake = s.ldg.intake ++ [e] := by
  unfold intakeOrder
  have h1 : s.intakeFill < 224 := by omega
  have h2 : s.intakeFill < 256 := by omega
  have h3 : ¬ 192 ≤ s.intakeFill := by omega
  by_cases hk : classKept e.ev.cls = true
  · simp [h, hk, hr, h2, intakeTake, updLdg, qPosted, updQ]
  · simp [h, hk, hr, h1, h3, intakeTake, updLdg, qPosted, updQ]

end Sys2Proof.Machine.State

namespace Sys2Proof.Machine

/-- A Teller command runs its row on its source. -/
theorem exec_rowOf {i : Instr} {src : Src} {row : CmdRow} (h : rowOf i = some (src, row)) (s : State) :
    exec i s = .next (s.runRow row src) := by
  cases i <;> simp only [rowOf, Option.some.injEq, Prod.mk.injEq, reduceCtorEq] at h <;> obtain ⟨rfl, rfl⟩ := h <;> rfl

/-- Checks 4 to 11 that pass leave the row's effect (R552). -/
theorem runChecked_passes {row : CmdRow} {c : Cmd} {s : State} (h : row.pre c s = none) (h' : s.check11 row c = none) :
    State.runChecked row c s = match row.run c s with
      | (t, some rp) => t.complete c rp
      | (t, none) => t := by
  unfold State.runChecked
  rw [h, h'] <;> rfl

theorem complete_completed (s : State) (c : Cmd) (rp : Reply) (h : c.src ≠ .peer) : (s.complete c rp).Completed c rp := by
  unfold State.Completed State.complete State.doneOf
  simp [h]

end Sys2Proof.Machine
end

