-- ==== Sys2Proof/Tests/Slice0.lean ====
section
/-! SUPPORT. The model's own tests: ill-formed operands are refused, and states that meet the hypotheses of the
statements, each with one step from a small state. -/

-- One theorem at a time: each is evaluated by the kernel.
set_option Elab.async false

namespace Sys2Proof.Tests
open Sys2Proof Sys2Proof.Machine

/-- A running SOLO module with its Host domain enabled and RESET_NOTICE out. -/
def up : State :=
  { (State.reset.setEn Acct.host true) with
    rst := { State.reset.rst with phase := .running, full := true }
    port := { State.reset.port with mbusy := false }
    tel := { State.reset.tel with noticed := true } }

/-- `s` with a command next in ring `q`, in as many slots as its payload needs. -/
def put (s : State) (op arg : Nat) (pay : List Byte) (fl : Nat := 0) (q : Nat := 0) : State :=
  let n := s.slotsFor pay.length
  let b := s.slotSize - 16
  let s := (List.range n).foldl (fun s k =>
    s.setRingBytes (State.qbase q + k * s.slotSize)
      (leBytes 2 op ++ leBytes 2 0x77 ++ leBytes 2 pay.length ++ leBytes 1 (fl + if k = 0 then 0 else 1) ++ leBytes 1 n ++
        (if k = 0 then leBytes 4 arg else leBytes 4 0) ++ leBytes 4 0 ++ (pay.drop (k * b)).take b)) s
  s.updQ q fun x => { x with prod := n }

/-- The bytes of words. -/
def wb4 (l : List Nat) : List Byte := l.flatMap fun v => leBytes 4 v

/-- Register words written for a test. -/
def setRs (s : State) (l : List (Nat × Nat)) : State := l.foldl (fun s p => s.w p.1 (wOf p.2)) s

/-- The life-cycle state set for a test. -/
def lifeTo (s : State) (n : Nat) : State := s.wf Reg.lifeState 0 3 n

/-- A service login on for a test. -/
def login (s : State) : State := s.wb Reg.lifeState 3 true

/-- The invariant, as a test that evaluates. -/
def invB (s : State) : Bool :=
  Sparse.wf Reg.resetOf s.regs && Sparse.wf Reg.resetOf s.snap && Sparse.wf (fun _ => 0#8) s.ring &&
    Sparse.wf (fun _ => 0#32) s.mb && Sparse.wf Param.factory s.par.image && Sparse.wf Param.factory s.par.a.words &&
    Sparse.wf Param.factory s.par.b.words && Sparse.wf (fun _ => Sector.blank) s.ldg.sectors &&
    (s.can.all fun c => Sparse.wf (fun _ => CanObj.init) c.objs) &&
    ([s.queues.length, s.doors.length, s.can.length, s.purse.length, s.cs.length, s.obs.length, s.fb.enc.length,
      s.fb.hallLast.length, s.fb.abs.length, s.fb.capHold.length] == [16, 2, 4, 3, 16, 5, 3, 2, 2, 4]) &&
    (!s.tripHeld || s.cpt.on == 0)

theorem inv_of_invB {s : State} (h : invB s = true) : s.Inv := by
  simp only [invB, Bool.and_eq_true, List.all_eq_true, beq_iff_eq, List.cons.injEq, Bool.or_eq_true,
    Bool.not_eq_true'] at h
  obtain ⟨⟨⟨⟨⟨⟨⟨⟨⟨⟨h1, h2⟩, h3⟩, h4⟩, h5⟩, h6⟩, h7⟩, h8⟩, h9⟩, h10⟩, h11⟩ := h
  refine ⟨⟨h1, h2, h3, h4, h5, h6, h7, h8, h9⟩, ?_, ?_⟩
  · simp only [State.Shaped]; omega
  · intro ht
    rcases h11 with h | h
    · rw [h] at ht; exact absurd ht (by decide)
    · exact h

/-- In a state with the invariant the checks let `i` run, and its next state passes the test. -/
def runs (i : Instr) (s : State) (f : Cmd → State → State → Bool := fun _ _ _ => true) : Bool :=
  invB s && match s.goes i, exec i s with
    | some (c, s1), .next t => f c s1 t
    | _, _ => false

/-- In a state with the invariant `i` answers a next state that passes the test. -/
def acts (i : Instr) (s : State) (f : State → Bool := fun _ => true) : Bool :=
  invB s && match exec i s with
    | .next t => f t
    | _ => false

/-- `s` has the invariant and this condition; its next state rests on a free value or is long to evaluate. -/
def meets (s : State) (p : Bool) : Bool := invB s && p

/-- The command is refused for its operands. -/
def illFormed (i : Instr) : Bool :=
  !i.wellFormed && match exec i State.reset with
    | .fault f => f == .illFormed
    | _ => false

/-- Each query is let run (QueriesAnswerAndChangeNothing). -/
theorem witness_queries :
    (runs (.nop .cmd) (put up 1 5 []) &&
    runs (.getInfo .cmd) (put up 2 0 []) &&
    runs (.getStatus .cmd) (put up 3 0 []) &&
    runs (.getTelemetry .cmd) (put up 6 0 []) &&
    runs (.accWalk .cmd) (put up 7 0x150 [0, 0, 0, 0]) &&
    (runs (.paramRead .cmd) (put up 0x101 0x10408 []) fun c _ _ => c.argF 24 1 == 0) &&
    (runs (.paramRead .cmd) (put up 0x101 0x1010408 []) fun c _ _ => c.argF 24 1 == 1) &&
    runs (.paramDigest .cmd) (put up 0x104 0 []) &&
    runs (.orderList .cmd) (put up 0x305 0 []) &&
    runs (.safeStatus .cmd) (put up 0x601 0 []) &&
    runs (.linkStatus .cmd) (put up 0x802 0 []) &&
    (runs (.linkStatus .cmd) (put { up with tun := { up.tun with held := [[7]] } } 0x802 1 [])
        fun _ _ t => t.tun.held == []) &&
    runs (.attestRead .cmd) (put (lifeTo { up with mint := { up.mint with report := some (List.replicate 500 7) } } 1) 0xC01 240 []) &&
    runs (.purseStatus .cmd) (put up 0x902 0 []) &&
    runs (.marchResult .cmd) (put up 0xA02 0 []) &&
    runs (.repairStatus .cmd) (put up 0xA03 0 []) &&
    runs (.ledgerRead .cmd) (put up 0xB01 0 [0, 0, 0, 0, 1, 1, 0, 0]) &&
    runs (.auditStatus .cmd) (put up 0xD02 0 [])) = true := by decide +kernel

/-- The power commands are let run (PowerCommandsEnterTheirState). -/
theorem witness_power_commands :
    ((runs (.softReset .cmd) (put up 4 0 []) fun _ _ t => t.rst.softDue) &&
    runs (.setPowerStateRun .cmd) (put up 5 0 []) &&
    (runs (.setPowerStateDoze .cmd) (put up 5 1 []) fun _ _ t => t.pwr == .doze) &&
    (runs (.setPowerStateHush .cmd) (put { up with cpt := { up.cpt with st := .parked } } 5 2 [])
        fun _ _ t => t.pwr == .hush)) = true := by decide +kernel

/-- The parameter commands are let run, each with both outcomes of programming and both readings of its argument
(ParameterCommandsKeepTheStore). -/
theorem witness_parameter_commands :
    ((runs (.paramWrite .cmd) (put up 0x102 0 ([8, 4, 1, 0] ++ wb4 [0x222])) fun _ _ t => t.imageAt 0x408 == 0x222) &&
    (runs (.paramWrite .cmd) (put up 0x102 1 [8, 4, 1, 0]) fun c _ _ => c.argF 0 1 == 1) &&
    (runs (.paramCommit .cmd true) (put up 0x103 0 []) fun _ _ t => t.parNewest.count == 1) &&
    runs (.paramCommit .cmd false) (put (lifeTo up 3) 0x103 0 []) &&
    runs (.paramDefaults .cmd true) (put up 0x105 0 []) &&
    runs (.paramDefaults .cmd true) (put (up.wb Reg.safeState 10 true) 0x105 1 []) &&
    runs (.paramDefaults .cmd false) (put (login (lifeTo up 3)) 0x105 0 [])) = true := by decide +kernel

/-- The Reckoner's configuration commands are let run (FeedbackConfigStoresAndEnables). -/
theorem witness_feedback_commands :
    ((runs (.encConfig .cmd) (put up 0x201 2 (wb4 [0x182, 0x20202, 0x2000, 0])) fun c _ t => c.argF 0 2 == 2 &&
        t.en (Acct.enc 2)) &&
    (runs (.hallConfig .cmd) (put up 0x202 1 (wb4 [0x28])) fun _ _ t => t.en (Acct.hall 1)) &&
    (runs (.absConfig .cmd) (put up 0x203 1 (wb4 [0x16031, 0x1464, 0, 0x64])) fun _ _ t => t.en (Acct.abs 1)) &&
    runs (.obsConfig .cmd) (put up 0x204 0 (wb4 [0x190, 0x320014])) &&
    runs (.obsConfig .cmd) (put up 0x204 5 (wb4 [0x190, 0x320014])) &&
    (runs (.fusionConfig .cmd) (put up 0x205 0 (wb4 [0x640A40, 0x3B9ACA00, 0x2710, 0, 0x321388, 0xC801F4, 0x1F407D0,
        0x3E8] ++
    [100, 0, 10, 0] ++ wb4 [0x13, 0x25682100]))) &&
    runs (.emuConfig .cmd) (put up 0x207 0 (wb4 [0x10, 0x400, 0xF4240, 0xF4240])) &&
    (runs (.capConfig .cmd) (put up 0x208 3 (wb4 [0x320403])) fun _ _ t => t.en (Acct.cap 3))) = true := by decide +kernel

/-- Fusion's source is FULL and its word valid. -/
def full (s : State) : State :=
  { (s.wf Reg.fusMstat 4 4 0).wb Reg.fusMstat 3 true with fus := { s.fus with source := 1 } }

/-- A state in which orders are taken: two landings, a bound drive, the profile engine enabled. -/
def orders : State :=
  setRs (((full up).setEn Acct.profileEngine true).wb Reg.prfDrive 31 true)
    [(Reg.ltCfg, 2), (Reg.ltPos 1, 3000000), (Reg.ltAttr 0, 0x302710), (Reg.ltAttr 1, 0x302710)]

/-- Two landings for LANDING_TABLE_WRITE. -/
def landings (pos : Nat) : List Byte :=
  leBytes 2 2 ++ [0, 0] ++ wb4 [0, 0] ++ leBytes 2 0 ++ leBytes 2 2 ++ wb4 [0, 0x302710, pos, 0x302710]

/-- The landing-table, profile, order and drive commands are let run, in each case that is told apart
(OrderCommandsTakeEffect). -/
theorem witness_order_commands :
    ((runs (.landingLearn .cmd) (put (lifeTo { full up with
    cpt := { up.cpt with st := .runPermitted }
    obs := updAt up.obs 0 fun o => { o with gate := .standstill } } 1) 0x206 0 [0, 0, 1, 0])
    fun c _ t => t.runState == 8 && t.tel.longs.any fun l => l.cmd == c) &&
    (runs (.landingTableWrite .cmd) (put up 0x301 1 (landings 3000000)) fun c _ _ => c.argF 0 1 == 1) &&
    (runs (.landingTableWrite .cmd) (put up 0x301 0 (landings 3000000))
        fun c s1 _ => s1.stageBad c (s1.stagePart c) == none) &&
    (runs (.landingTableWrite .cmd) (put up 0x301 0 (landings 3000))
        fun c s1 _ => (s1.stageBad c (s1.stagePart c)).isSome) &&
    runs (.profileSet .cmd) (put (full up) 0x302 0 (wb4 [2500000, 0x3E803E8, 1000, 0x6400FA, 0xA1E000A, 0])) &&
    runs (.relevelConfig .cmd) (put (full up) 0x307 0 (wb4 [(up.r Reg.prfRelevel).toNat,
        (up.r Reg.prfRelevel2).toNat])) &&
    (runs (.orderAdd .cmd) (put orders 0x303 (1 + 0x800) []) fun c s1 t =>
    s1.duplicateOf (c.argF 0 8) (c.argF 8 1) (c.argF 9 2) == none && t.slotLanding 0 == 1) &&
    (runs (.orderAdd .cmd) (put (orders.w (Reg.ordSlot 63) (wOf (1 + 0x200 + 0x4000 + 0x50000))) 0x303 (1 + 0x800) [])
    fun c s1 _ => (s1.duplicateOf (c.argF 0 8) (c.argF 8 1) (c.argF 9 2)).isSome) &&
    (runs (.orderCancel .cmd) (put (orders.w (Reg.ordSlot 3) (wOf (1 + 256 + 0x4000 + 0x50000))) 0x304 (3 + 0x50000) [])
    fun _ _ t => t.prf.marks == [3]) &&
    runs (.driveBind .cmd) (put ((full up).wb (Reg.canCfg 1) 0 true) 0x306 0 (wb4 [0x01 + 0x20 + 0x8 + 0x1800, 0x123,
        0x124]))) = true := by decide +kernel

/-- A door configuration in range: a brushless door on port `n` with its encoder. -/
def doorImages (n : Nat) : List Byte := wordsBytes ((List.range 14).map fun k => Reg.resetOf (Reg.doorCfg n + 4 * k))

/-- Door port 0 enabled with its state code set and the car at rest in the zone. -/
def door (code : Nat) : State :=
  (((up.w (Reg.doorState 0) (wOf (code + 0xE00))).setEn (Acct.doorPort 0) true).updDoor 0 fun d =>
    { d with stage := .idle })

theorem firstOf_all (l : List (Option Reply)) (h : ∀ x ∈ l, x = none) : State.firstOf l = none := by
  induction l with
  | nil => rfl
  | cons x t ih => rw [h x (by simp)]; exact ih fun y hy => h y (by simp [hy])

theorem pi_ge : (3 : Rat) ≤ Config.pi := by
  unfold Config.pi
  have : (0 : Rat) ≤ (Config.piRest.val : Rat) / 1000000000000 := by positivity
  linarith

/-- The clamp current stays within oc_limit whatever the firmware's pi is (log 28). -/
theorem ocOk_of {w : Nat → Word} (hk : 0 < fld (w 4) 0 16)
    (h : 20 * (fld (w 8) 0 8 * fld (w 6) 0 20) ≤ fld (w 3) 0 16 * fld (w 4) 0 16) : State.ocOk w = true := by
  unfold State.ocOk State.clampMa
  rw [decide_eq_true_iff]
  have hk' : (0 : Rat) < (fld (w 4) 0 16 : Rat) := by exact_mod_cast hk
  have h' : (20 : Rat) * ((fld (w 8) 0 8 : Rat) * (fld (w 6) 0 20 : Rat)) ≤ (fld (w 3) 0 16 : Rat) * (fld (w 4) 0 16 : Rat) := by
    exact_mod_cast h
  have hp := pi_ge
  rw [← mul_div_assoc, div_le_iff₀ (by positivity)]
  have := mul_le_mul_of_nonneg_right hp (by positivity : (0 : Rat) ≤ (fld (w 3) 0 16 : Rat) * (fld (w 4) 0 16 : Rat))
  linarith

/-- The checks of DOOR_CONFIG of a port without limit inputs or a lock output, with that of the clamp current (R208) by
numbers that suffice. -/
def doorChecks (s : State) : Bool :=
  match s.front .cmd State.doorConfigRow with
  | some (c, s1) =>
    s1.role != .machine && c.argOnly 1 &&
      State.imagesReply 0 (Reg.doorCfg (c.argF 0 1)) (wordsAt c.pay 0 14) == none &&
      s1.configPre (Acct.doorPort (c.argF 0 1)) == none && s1.check11 State.doorConfigRow c == none &&
      !s1.doorLive (1 - c.argF 0 1) && fld (c.img 0) 8 6 == 63 && fld (c.img 0) 16 6 == 63 && fld (c.img 0) 24 6 == 63 &&
      !s1.learned (c.argF 0 1) && decide (fld (c.img 13) 0 8 ≤ fld (c.img 8) 0 8) && decide (0 < fld (c.img 4) 0 16) &&
      decide (20 * (fld (c.img 8) 0 8 * fld (c.img 6) 0 20) ≤ fld (c.img 3) 0 16 * fld (c.img 4) 0 16)
  | none => false

theorem goes_of_doorChecks {s : State} (h : doorChecks s = true) : (s.goes (.doorConfig .cmd)).isSome = true := by
  unfold doorChecks at h
  unfold State.goes
  simp only [rowOf]
  split at h
  · rename_i c s1 hf
    simp only [hf]
    simp only [Bool.and_eq_true, beq_iff_eq, bne_iff_ne, Bool.not_eq_true', decide_eq_true_eq] at h
    obtain ⟨⟨⟨⟨⟨⟨⟨⟨⟨⟨⟨⟨h0, h1⟩, h2⟩, h3⟩, h4⟩, h5⟩, h6⟩, h7⟩, h8⟩, h9⟩, h10⟩, h11⟩, h12⟩ := h
    have hx : s1.doorCross (c.argF 0 1) c.img = none :=
      firstOf_all _ (by simp [State.failIf, h5, h6, h7, h8, h9, ocOk_of h11 h12, Nat.not_lt.mpr h10])
    have hp : State.doorConfigRow.pre c s1 = none :=
      firstOf_all [State.failIf (s1.role == .machine) (.badState 2), State.failIf (!c.argOnly 1) .badArg,
        State.imagesReply 0 (Reg.doorCfg (c.argF 0 1)) (wordsAt c.pay 0 14), s1.doorCross (c.argF 0 1) c.img,
        s1.configPre (Acct.doorPort (c.argF 0 1))] (by simp [State.failIf, h0, h1, h2, h3, hx])
    simp [hp, h4]
  · simp at h

/-- DOOR_CONFIG of port 0 with the reset values is next. -/
def configures : State := put up 0x401 0 (doorImages 0)

theorem configures_checks : (invB configures && doorChecks configures) = true := by decide +kernel

/-- DOOR_CONFIG is let run (DoorCommandsTakeEffect). -/
theorem witness_door_config : configures.Inv ∧ (configures.goes (.doorConfig .cmd)).isSome = true :=
  have h := (Bool.and_eq_true _ _).mp configures_checks
  ⟨inv_of_invB h.1, goes_of_doorChecks h.2⟩

/-- The door commands are let run (DoorCommandsTakeEffect). -/
theorem witness_door_commands :
    ((runs (.doorLearn .cmd) (put (lifeTo (door 8) 1) 0x402 0 []) fun _ _ t => t.doorCode 0 == 10) &&
    runs (.doorOpen .cmd) (put (door 3) 0x403 1 []) &&
    runs (.doorClose .cmd) (put (door 1) 0x404 1 []) &&
    runs (.doorReverse .cmd) (put (door 4) 0x405 1 []) &&
    runs (.doorReverse .urg) (put (door 4) 0x405 1 [] 2 1) &&
    runs (.doorNudge .cmd) (put (door 1) 0x406 1 []) &&
    (runs (.doorHold .cmd) (put (door 1) 0x407 0xFFFF0001 [])
        fun _ _ t => (t.doorAt 0).reqs.length == 1)) = true := by decide +kernel

/-- The Field commands are let run, in each case that is told apart (FieldCommandsTakeEffect). -/
theorem witness_field_commands :
    ((runs (.ioConfig .cmd) (put up 0x501 0 ([47, 1, 31, 1, 0, 1, 0, 0] ++ wordsBytes [Reg.resetOf (Reg.inCfg 47),
        Reg.resetOf (Reg.outCfg 31) + 1,
    Reg.resetOf Reg.fldFunc]))) &&
    runs (.outSet .cmd) (put (up.setEn (State.outBase 31) true) 0x502 0 (wb4 [0x80000000, 0x80000000])) &&
    runs (.outSet .cmd) (put (up.setEn (State.outBase 0) true) 0x502 0 (wb4 [1, 0])) &&
    (runs (.gangSetForm2 .cmd) (put up 0x503 15 []) fun _ s1 _ => s1.groupOkButEn (Acct.gp 15) true 0) &&
    (runs (.gangSetForm2 .cmd) (put (up.w (Reg.outCfg 1) 0x1000001) 0x503 0 [])
        fun _ s1 _ => !s1.groupOkButEn (Acct.gp 0) true 0) &&
    (runs (.gangSetForm4 .cmd) (put up 0x503 (14 + 0x100) []) fun _ s1 _ => s1.groupOkButEn (Acct.gp 14) true 1) &&
    (runs (.gangSetForm4 .cmd) (put (up.w (Reg.outCfg 1) 0x1000001) 0x503 0x100 [])
        fun _ s1 _ => !s1.groupOkButEn (Acct.gp 0) true 1) &&
    (runs (.gangSetDissolve .cmd) (put (up.setGroup (Acct.gp 0) true 0) 0x503 0x200 []) fun _ s1 _ =>
    s1.groupOkButEn (Acct.gp 0) false 0) &&
    runs (.gangSetOn .cmd) (put ((up.setGroup (Acct.gp 0) true 0).setEn (Acct.gp 0) true) 0x503 0x300 []) &&
    runs (.gangSetOff .cmd) (put ((up.setGroup (Acct.gp 0) true 0).setEn (Acct.gp 0) true) 0x503 0x400 []) &&
    (runs (.pairConfig .cmd) (put up 0x504 7 (wordsBytes [Reg.resetOf (Reg.pairCfg 7), Reg.resetOf (Reg.inCfg 46),
    Reg.resetOf (Reg.inCfg 47)]))) &&
    (runs (.pairConfig .cmd) (put up 0x504 0x100 (wordsBytes [Reg.resetOf (Reg.pairCfg 0), Reg.resetOf (Reg.inCfg 32),
    Reg.resetOf (Reg.inCfg 33)]))) &&
    (runs (.testpulseConfig .cmd) (put up 0x505 0 (wordsBytes (up.r Reg.tpTiming ::
    (List.range 4).map fun j => Reg.resetOf (Reg.tpoCfg j)))))) = true := by decide +kernel

/-- The state PARKED for a test. -/
def parked (s : State) : State := { s with cpt := { s.cpt with st := .parked } }

/-- A safety parameter set of MACHINE without its CRC: OUT24 the main contactor with EDM input 0, OUT25 the brake with
EDM input 1, no pair and no word (R265). -/
def setBody : List Byte :=
  let l := [(0, 1), (2, 2), (6, 124), (8, 200), (10, 100), (44, 255), (52, 255), (60, 255), (68, 255), (84, 1), (86, 2),
    (87, 1)] ++ ([2, 3, 4, 5, 6, 7].map fun j => (85 + 2 * j, 0x3F))
  l.foldl (fun t p => t.set p.1 (BitVec.ofNat 8 p.2)) (List.replicate 120 0)

/-- The set with its CRC. -/
def machSet : List Byte := setBody ++ leBytes 4 2010943137

/-- Where SAFE_PARAM_LOAD is let run: role MACHINE, FACTORY, logged in, stationary. -/
def loading : State := login (lifeTo ({ up with role := .machine }.wb Reg.safeState 10 true) 1)

/-- MACHINE with that set in force, PARKED. -/
def machine : State := parked { up with role := .machine, cpt := { up.cpt with set := machSet } }

/-- A CRC run over pieces, each from the register value that the one before it left. -/
def crcChain (p : BitVec 32) : BitVec 32 → List (List Byte × BitVec 32) → Bool
  | _, [] => true
  | c, (bs, c') :: t => bs.foldl (crcByte p) c == c' && crcChain p c' t

theorem crcChain_foldl (p : BitVec 32) (l : List (List Byte × BitVec 32)) (c : BitVec 32) (h : crcChain p c l = true) :
    (l.flatMap (·.1)).foldl (crcByte p) c = ((l.map (·.2)).getLast?).getD c := by
  induction l generalizing c with
  | nil => rfl
  | cons x t ih =>
    obtain ⟨bs, c'⟩ := x
    simp only [crcChain, Bool.and_eq_true, beq_iff_eq] at h
    rw [List.flatMap_cons, List.foldl_append, h.1, ih c' h.2, List.map_cons, List.getLast?_cons, Option.getD_some]

/-- The safety parameter set of `machSet` in pieces of 20 bytes, with the CRC register after each. -/
def setPieces : List (List Byte × BitVec 32) :=
  [((setBody.drop 0).take 20, 216058674), ((setBody.drop 20).take 20, 2945778763),
    ((setBody.drop 40).take 20, 3610314128), ((setBody.drop 60).take 20, 1245888147),
    ((setBody.drop 80).take 20, 1144474155), ((setBody.drop 100).take 20, 2284024158)]

theorem setPieces_chain : (crcChain 0x82F63B78#32 0xFFFFFFFF#32 setPieces &&
    setPieces.flatMap (·.1) == setBody) = true := by
  decide +kernel

/-- The set carries its CRC-32C (R453, R596). -/
theorem machSet_crc : crc32c setBody = 2010943137#32 := by
  have h := (Bool.and_eq_true _ _).mp setPieces_chain
  unfold crc32c
  rw [← beq_iff_eq.mp h.2, crcChain_foldl _ _ _ h.1]
  rfl

theorem machSet_head : 4 ≤ machSet.length ∧ machSet.take (machSet.length - 4) = setBody ∧
    wordAt machSet (machSet.length - 4) = 2010943137#32 := by decide +kernel

/-- With its CRC right a set is refused by the steps after it alone (R596). -/
theorem setRefused_of_crc (s : State) (b : List Byte) (h : 4 ≤ b.length)
    (hc : crc32c (b.take (b.length - 4)) = wordAt b (b.length - 4)) :
    s.setRefused b = ((SafeSet.firstBad [SafeSet.checkHead s.roleCode b]).or ((SafeSet.checkFields b).or
      ((s.setWordsBad b).or ((SafeSet.checkNeeds b).or ((s.setClassBad b).or (s.setReserveBad b)))))).map wOf := by
  unfold State.setRefused
  rw [if_neg fun hn => hn.elim (by omega) (fun hn => hn hc)]

/-- SAFE_PARAM_LOAD with the last byte of the set is next. -/
def lastPart : State :=
  put (loading.updCpt fun c => { c with staged := machSet.take 123, stagedTotal := 124 }) 0x603 0
    (leBytes 2 123 ++ leBytes 2 124 ++ machSet.drop 123)

/-- The command is let run, and what evaluates of R596 takes the set. -/
def loadChecks (s : State) (b : List Byte) : Bool :=
  match s.goes (.safeParamLoad .cmd) with
  | some (c, s1) =>
    let s2 := s1.updCpt fun x => { x with staged := [], stagedTotal := 0 }
    (if State.partOfs c = 0 then [] else s.cpt.staged) ++ c.pay.drop 4 == b && decide (State.partTotal c ≤ b.length) &&
      (SafeSet.firstBad [SafeSet.checkHead s2.roleCode b]).isNone && (SafeSet.checkFields b).isNone &&
          (s2.setWordsBad b).isNone &&
      (SafeSet.checkNeeds b).isNone && (s2.setClassBad b).isNone && (s2.setReserveBad b).isNone
  | none => false

theorem lastPart_checks : (invB lastPart && loadChecks lastPart machSet) = true := by decide +kernel

/-- A whole set that comes into force (SafetyCommandsTakeEffect). -/
theorem witness_safe_param_load :
    lastPart.Inv ∧ ∃ c s1, lastPart.goes (.safeParamLoad .cmd) = some (c, s1) ∧
      (if State.partOfs c = 0 then [] else lastPart.cpt.staged) ++
          c.pay.drop 4 = machSet ∧ State.partTotal c ≤ machSet.length ∧
      (s1.updCpt fun x => { x with staged := [], stagedTotal := 0 }).setRefused machSet = none := by
  have h := (Bool.and_eq_true _ _).mp lastPart_checks
  have hc := h.2
  unfold loadChecks at hc
  refine ⟨inv_of_invB h.1, ?_⟩
  split at hc
  · rename_i c s1 hg
    simp only [Bool.and_eq_true, beq_iff_eq, decide_eq_true_eq, Option.isNone_iff_eq_none] at hc
    obtain ⟨⟨⟨⟨⟨⟨⟨h0, h1⟩, h2⟩, h3⟩, h4⟩, h5⟩, h6⟩, h7⟩ := hc
    refine ⟨c, s1, hg, h0, h1, ?_⟩
    rw [setRefused_of_crc _ machSet machSet_head.1 (by rw [machSet_head.2.1, machSet_head.2.2, machSet_crc]), h2, h3,
        h4, h5, h6, h7]
    rfl
  · cases hc


/-- A loaded set whose CRC no longer holds, and one whose CRC does (SafetyMonitorsAct). -/
def spoilt : State := machine.updCpt fun c => { c with set := setBody ++ leBytes 4 0 }

theorem spoilt_head : (invB spoilt && invB machine && spoilt.cptRuns && spoilt.setValid && machine.cptRuns &&
    machine.setValid &&
    spoilt.cpt.set.take (spoilt.cpt.set.length - 4) == setBody &&
    wordAt spoilt.cpt.set (spoilt.cpt.set.length - 4) == 0#32) = true := by decide +kernel

/-- PARAM_CRC_CHECK that finds the set spoilt, and that finds it good (SafetyMonitorsAct). -/
theorem witness_param_crc :
    spoilt.Inv ∧ (spoilt.cptRuns && spoilt.setValid &&
      crc32c (spoilt.cpt.set.take (spoilt.cpt.set.length - 4)) != wordAt spoilt.cpt.set (spoilt.cpt.set.length - 4)) = true ∧
    machine.Inv ∧ machine.cptRuns = true ∧ machine.setValid = true ∧
      crc32c (machine.cpt.set.take (machine.cpt.set.length - 4)) = wordAt machine.cpt.set (machine.cpt.set.length - 4) := by
  have h := spoilt_head
  simp only [Bool.and_eq_true, beq_iff_eq] at h
  obtain ⟨⟨⟨⟨⟨⟨⟨h0, h1⟩, h2⟩, h3⟩, h4⟩, h5⟩, h6⟩, h7⟩ := h
  refine ⟨inv_of_invB h0, ?_, inv_of_invB h1, h4, h5, ?_⟩
  · rw [h2, h3, h6, h7, machSet_crc]; rfl
  · have e : machine.cpt.set = machSet := rfl
    rw [e, machSet_head.2.1, machSet_head.2.2, machSet_crc]

/-- The safety commands are let run, in each case that is told apart (SafetyCommandsTakeEffect). -/
theorem witness_safety_commands :
    ((runs (.safeRestart .cmd) (put { up with cpt := { up.cpt with st := .tripped } } 0x602 0 [])
        fun _ _ t => t.cpt.st == .ready) &&
    (runs (.safeParamLoad .cmd) (put loading 0x603 0 (leBytes 2 0 ++ leBytes 2 10 ++ [1, 2]))
    fun _ _ t => t.cpt.staged == [1, 2]) &&
    (runs (.safeParamLoad .cmd) (put loading 0x603 0 (leBytes 2 0 ++ leBytes 2 2 ++ [1, 2])) fun _ s1 _ =>
    ((s1.updCpt fun x => { x with staged := [], stagedTotal := 0 }).setRefused [1, 2]).isSome) &&
    (runs (.safeAckLockout .cmd) (put (login { up with cpt := { up.cpt with st := .lockout } }) 0x604 0 [])
    fun _ _ t => t.cpt.st == .startPending) &&
    (runs (.safeProofTest .cmd [⟨5, true, true⟩, ⟨6, true, true⟩]) (put machine 0x605 0 [])
        fun _ _ t => t.vault.proofPass) &&
    (runs (.safeProofTest .cmd [⟨5, true, true⟩, ⟨6, false, true⟩]) (put machine 0x605 0 []) fun _ s1 _ =>
    (s1.proofRun (s1.setOuts.zip [⟨5, true, true⟩, ⟨6, false, true⟩])).2 == some (1, false)) &&
    (runs (.safeProofTest .cmd [⟨5, true, false⟩, ⟨6, true, true⟩]) (put machine 0x605 0 []) fun _ s1 _ =>
    (s1.proofRun (s1.setOuts.zip [⟨5, true, false⟩, ⟨6, true, true⟩])).2 == some (0, true))) = true := by decide +kernel

/-- CAN_CFG, CAN_NBT, CAN_DBT and CAN_TDC of controller `n` as after reset, but for an arbitration bit of 80 clocks. -/
def canImages (n : Nat) : List Byte :=
  wordsBytes [Reg.resetOf (Reg.canCfg n), 0x3E0F0000, Reg.resetOf (Reg.canCfg n + 8), Reg.resetOf (Reg.canCfg n + 12)]

/-- Object 5 an enabled TX object of 8 bytes with identifier 0x123. -/
def txObj (s : State) : State := (setRs s [(Reg.objCfg 5, 1), (Reg.objId 5, 0x123)]).setEn (Acct.obj 5) true

/-- The same with a request pending, and in transmission. -/
def pending (s : State) : State := (txObj s).wb (Reg.objStat 5) 5 true
def sending (s : State) : State := (pending s).updCan 0 fun c => { c with attempt := some (5, 0) }

/-- The CAN commands are let run, in each case that is told apart (CanCommandsTakeEffect). -/
theorem witness_can_commands :
    ((runs (.canConfig .cmd) (put up 0x701 3 (canImages 3)) fun _ _ t => t.en (Acct.canc 3)) &&
    (runs (.canAutobaud .cmd) (put up 0x702 0 [1, 0, 0, 0]) fun _ _ t => (t.canAt 0).search == some ⟨false, 0⟩) &&
    (runs (.canObjConfig .cmd) (put up 0x703 0 ([127, 1, 0, 0] ++ wb4 [1, 0x7FF])) fun _ _ t => t.objEn 127) &&
    (runs (.canFilterSet .cmd) (put up 0x704 0 ([127, 1, 0, 0] ++ wb4 [0x7FF, 0x7FF, 9]))
        fun _ _ t => t.en (Acct.fe 127)) &&
    (runs (.canFilterSet .cmd) (put up 0x704 1 [0, 0, 3, 127]) fun _ _ t => t.rb (Reg.canCfg 1) 2) &&
    (runs (.canTx .cmd) (put (txObj up) 0x705 (5 * 4) [9, 0, 8, 0, 1, 2, 3, 4, 5, 6, 7, 8]) fun _ _ t => t.objIs 5 5) &&
    (runs (.canTx .cmd) (put (sending up) 0x705 (5 * 4 + 512) [9, 0, 1, 0, 1]) fun _ _ t => !t.tel.replaceWait.isEmpty) &&
    runs (.canRearm .cmd) (put (txObj up) 0x706 (5 * 4) []) &&
    (runs (.canRearm .cmd) (put (sending up) 0x706 512 []) fun _ _ t => (t.canObj 5).rearm) &&
    (runs (.canLoopback .cmd) (put up 0x707 0x202 [])
        fun _ _ t => t.rf (Reg.canStat 2) 0 2 == 2)) = true := by decide +kernel

/-- CAR with the link UP. -/
def linked (s : State) : State := { s with role := .car }.wf Reg.linkStat 0 3 4

/-- The payload of CS_CONN_OPEN: controller 0, object 10, identifier `id`. -/
def csOpenPay (id : Nat) : List Byte :=
  [0, 10, 0, 10] ++ wb4 [id] ++ leBytes 2 100 ++ leBytes 2 50 ++ [3, 0, 0, 0] ++ List.replicate 48 7

/-- What object `j` takes rests on the words of the objects alone. -/
theorem memUsed_congr {s t : State} (h : ∀ a, 0x100000 ≤ a → t.r a = s.r a) (n : Nat) : t.memUsed n = s.memUsed n := by
  have hc : ∀ k, t.ctl (Acct.obj k) = s.ctl (Acct.obj k) := fun k => h _ (by simp only [Acct.obj]; omega)
  have e1 : ∀ j, ¬(Acct.gp 0 ≤ Acct.obj j ∧ Acct.obj j < Acct.gp 16) := fun j => by simp only [Acct.obj, Acct.gp]; omega
  have e2 : ∀ j, ¬(Acct.sp 0 ≤ Acct.obj j ∧ Acct.obj j < Acct.sp 8) := fun j => by simp only [Acct.obj, Acct.sp]; omega
  have e3 : ∀ j, ¬(Acct.bank 0 ≤ Acct.obj j ∧ Acct.obj j < Acct.bank 24) := fun j => by
    simp only [Acct.obj, Acct.bank]; omega
  have hh : ∀ j, t.headOf (Acct.obj j) = s.headOf (Acct.obj j) := fun j => by
    simp only [State.headOf, if_neg (e1 j), if_neg (e2 j), if_neg (e3 j), State.consolidated, hc]
  have ho : ∀ j b, s.headOf (Acct.obj j) = some b → ∃ k, b = Acct.obj k := by
    intro j b hb
    simp only [State.headOf, if_neg (e1 j), if_neg (e2 j), if_neg (e3 j)] at hb
    split at hb
    · simp only [Option.map_eq_some_iff] at hb
      obtain ⟨d, -, rfl⟩ := hb
      exact ⟨_, rfl⟩
    · simp at hb
  have he : ∀ k, t.en (Acct.obj k) = s.en (Acct.obj k) := fun k => by simp only [State.en, hc]
  have hn : ∀ j, t.objEn j = s.objEn j := by
    intro j
    unfold State.objEn
    rw [hh]
    cases hb : s.headOf (Acct.obj j) with
    | none => exact he j
    | some b => obtain ⟨k, rfl⟩ := ho j b hb; exact he k
  have hr : ∀ j, t.r (Reg.objCfg j) = s.r (Reg.objCfg j) := fun j => h _ (by simp only [Reg.objCfg]; omega)
  have hm : ∀ j, t.objMem j = s.objMem j := by
    intro j
    unfold State.objMem State.objTx State.objBytes State.rb State.rf State.consolidated
    dsimp only
    rw [hr, hh, hc]
  simp only [State.memUsed, hn, hm]

/-- Words of the objects stay at a write below them. -/
def ObjKept (s t : State) : Prop :=
  Sparse.wf Reg.resetOf s.regs = true →
    Sparse.wf Reg.resetOf t.regs = true ∧ ∀ a, 0x100000 ≤ a → t.r a = s.r a

theorem objKept_w (s : State) {a : Nat} (v : Word) (h : a < 0x100000) : ObjKept s (s.w a v) := fun hw =>
  ⟨Sparse.wf_set _ _ _ hw, fun _ hb => Sparse.get_set_ne _ _ (by omega) hw⟩

theorem ObjKept.trans {s t u : State} (h : ObjKept s t) (h' : ObjKept t u) : ObjKept s u := fun hw =>
  ⟨(h' (h hw).1).1, fun a ha => ((h' (h hw).1).2 a ha).trans ((h hw).2 a ha)⟩

theorem objKept_open (s : State) : ObjKept s (s.csOpen 15) :=
  have h1 : ObjKept s (s.setEn (Acct.cs 15) true) := objKept_w s _ (by decide)
  have h2 : ObjKept _ (((s.setEn (Acct.cs 15) true).updCs 15 fun c =>
      { c with opened := true, sent := 0, seq := 0, scN := 0, scFlag := 0 }).csListen 15) :=
    .trans (objKept_w _ _ (by decide)) <| .trans (objKept_w _ _ (by decide)) <| .trans (objKept_w _ _ (by decide)) <|
      .trans (objKept_w _ _ (by decide)) (objKept_w _ _ (by decide))
  h1.trans h2

theorem objKept_updCs {s t : State} (k : Nat) (f : CsSt → CsSt) (h : ObjKept s t) : ObjKept s (t.updCs k f) := h

theorem objKept_openCan (s : State) (p : List Byte) :
    ObjKept (s.bindObj (128 * leAt p 0 1 + leAt p 1 1) (State.csObjCfg 15) (wordAt p 4)) (s.csOpenCan 15 p) := by
  unfold State.csOpenCan
  generalize s.bindObj (128 * leAt p 0 1 + leAt p 1 1) (State.csObjCfg 15) (wordAt p 4) = b
  dsimp only
  apply objKept_updCs
  refine ObjKept.trans ?_ (objKept_open _)
  refine ObjKept.trans ?_ (objKept_w _ _ (by decide))
  exact (objKept_w _ _ (by decide)).trans (objKept_w _ _ (by decide))

/-- CS_CONN_OPEN of connection 15 on object 10 of an enabled CAN0 is next. -/
def opens : State := put (up.wb (Reg.canCfg 0) 0 true) 0x803 15 (csOpenPay 0x20000001)

/-- What evaluates of the checks of CS_CONN_OPEN of connection 15: the message memory is looked at before the connection's
own words, of which CS_ID rests on this unit's identity key (log 61). -/
def openChecks (s : State) : Bool :=
  match s.front .cmd State.csConnOpenRow with
  | some (c, s1) =>
    let b := s1.bindObj (128 * leAt c.pay 0 1 + leAt c.pay 1 1) (State.csObjCfg 15) (wordAt c.pay 4)
    State.csInst c == 15 && c.argOnly 0xF && s1.csBad c == none && s1.lockReply (Acct.cs 15) == none &&
      !(s1.csAt 15).opened && !s1.objEngine (State.csPayObj c) && !s1.en (Acct.obj (State.csPayObj c)) &&
      !s1.consolidated (Acct.obj (State.csPayObj c)) && (s1.headOf (Acct.obj (State.csPayObj c))).isNone &&
      s1.check11 State.csConnOpenRow c == none && Sparse.wf Reg.resetOf b.regs &&
      !decide (12288 < b.memUsed (leAt c.pay 0 1))
  | none => false

theorem firstOf_none (l : List (Option Reply)) (b : Bool) (r : Reply) (h : ∀ x ∈ l, x = none) (hb : b = false) :
    State.firstOf (l ++ [State.failIf b r]) = none := by
  subst hb
  induction l with
  | nil => rfl
  | cons x t ih => rw [h x (by simp)]; exact ih fun y hy => h y (by simp [hy])

theorem goes_of_openChecks {s : State} (h : openChecks s = true) : (s.goes (.csConnOpen .cmd)).isSome = true := by
  unfold openChecks at h
  unfold State.goes
  simp only [rowOf]
  split at h
  · rename_i c s1 hf
    simp only [hf]
    simp only [Bool.and_eq_true, beq_iff_eq, Bool.not_eq_true', Option.isNone_iff_eq_none] at h
    obtain ⟨⟨⟨⟨⟨⟨⟨⟨⟨⟨⟨h0, h1⟩, h2⟩, h3⟩, h4⟩, h5⟩, h6⟩, h7⟩, h8⟩, h9⟩, h10⟩, h11⟩ := h
    have hm : ¬12288 < (s1.csOpenCan (State.csInst c) c.pay).memUsed (leAt c.pay 0 1) := by
      rw [h0, memUsed_congr (objKept_openCan s1 c.pay h10).2]
      exact of_decide_eq_false h11
    have hp : State.csConnOpenRow.pre c s1 = none :=
      firstOf_none [State.failIf (!c.argOnly 0xF || State.csInst c == 0 || State.csInst c == 8) .badArg,
        (s1.csBad c).map .badParam, s1.lockReply (Acct.cs (State.csInst c)),
        State.failIf (s1.csAt (State.csInst c)).opened .badState,
        State.failIf (s1.objEngine (State.csPayObj c)) (.badState 5),
        State.failIf (s1.en (Acct.obj (State.csPayObj c))) .badState,
        State.failIf (s1.consolidated (Acct.obj (State.csPayObj c)) ||
          (s1.headOf (Acct.obj (State.csPayObj c))).isSome) .badState]
        _ _ (by simp [State.failIf, h0, h1, h2, h3, h4, h5, h6, h7, h8]) (decide_eq_false hm)
    simp [hp, h9]
  · simp at h

theorem opens_checks : (invB opens && openChecks opens) = true := by decide +kernel

/-- CS_CONN_OPEN is let run (LinkCommandsTakeEffect). -/
theorem witness_cs_conn_open : opens.Inv ∧ (opens.goes (.csConnOpen .cmd)).isSome = true :=
  have h := (Bool.and_eq_true _ _).mp opens_checks
  ⟨inv_of_invB h.1, goes_of_openChecks h.2⟩

/-- The link and connection commands are let run (LinkCommandsTakeEffect). -/
theorem witness_link_commands :
    (runs (.linkConfig .cmd) (put up 0x801 0 (wordsBytes [up.r Reg.linkCfg ||| 4])) &&
    runs (.linkConfig .cmd) (put { up with role := .car } 0x801 0 (wordsBytes [up.r Reg.linkCfg])) &&
    (runs (.tunnelSend .cmd) (put (linked up) 0x805 0 [1, 2, 3]) fun _ _ t => t.tun.q8.length == 1) &&
    runs (.csConnClose .cmd) (put up 0x804 3 [])) = true := by decide +kernel

/-- FACTORY and logged in. -/
def lg : State := login (lifeTo up 1)

/-- The reserve of the field limit and the stored enables for PURSE_SET. -/
def pursePay : List Byte := wb4 [5000, 900, 140, (up.r Reg.sensCfg).toNat]

/-- The purse and bank commands are let run (PurseAndBankCommandsTakeEffect). -/
theorem witness_purse_bank_commands :
    (runs (.purseSet .cmd) (put up 0x901 0 pursePay) &&
    runs (.bankState .cmd) (put up 0x903 (9 + 256) []) &&
    (runs (.hushKeep .cmd) (put up 0x904 0x55 []) fun _ _ t => t.r Reg.hushKeep == 0x55) &&
    (runs (.marchRun .cmd) (put up 0xA01 (9 + 4096) []) fun _ _ t => t.hasRequest (0x60 + 9))) = true := by decide +kernel

/-- The Ledger commands are let run (LedgerCommandsTakeEffect). -/
theorem witness_ledger_commands :
    ((runs (.ledgerFreeze .cmd) (put up 0xB02 5 []) fun _ _ t => t.ldg.frozen == some 50) &&
    (runs (.ledgerThaw .cmd) (put { up with ldg := { up.ldg with frozen := some 3 } } 0xB03 0 [])
        fun _ _ t => t.ldg.frozen == none) &&
    (runs (.ledgerArchive .cmd) (put lg 0xB04 0 []) fun _ _ t => t.ldg.archCount == 0) &&
    (runs (.ledgerReleaseSealed .cmd) (put { lg with ldg := { lg.ldg with archValid := true, archDigest := List.replicate 48 0 } }
    0xB05 0 (List.replicate 48 0)) fun _ _ t => t.ldg.erase == some ⟨0, true, true⟩)) = true := by decide +kernel

/-- The Auditor's and Shortchange's commands are let run (AuditorWorks, ShortchangeAndScan). -/
theorem witness_auditor_commands :
    (runs (.auditConfig .cmd) (put up 0xD01 0 (wordsBytes [up.r Reg.audCfg])) &&
    (runs (.scArm .cmd) (put { up with role := .car, cpt := { up.cpt with st := .ready, peerValid := true, peer := [0, 0, 0, 7] } } 0xD03 0
    (wb4 [0x50002, 5, 0, 0, 0, 0, 0, 0, 0, 0])) fun _ _ t => t.rb Reg.scStat 1) &&
    (runs (.scDisarm .cmd) (put (up.wb Reg.scStat 0 true) 0xD04 0 [])
        fun _ _ t => !t.rb Reg.scStat 0)) = true := by decide +kernel

/-- The Mint's commands are let run (MintCommandsTakeEffect). -/
theorem witness_mint_commands :
    ((runs (.attest .cmd) (put (lifeTo up 1) 0xC01 0 (List.replicate 32 1))
        fun _ _ t => t.mint.lmsNext == up.mint.lmsNext + 1) &&
    runs (.pairCheck .cmd [] []) (put ({ lg with role := .car }.wf Reg.linkStat 0 3 4) 0xC03 0 []) &&
    runs (.pair .cmd ⟨false, true, [], [], [], [], false,
        false⟩) (put ({ lg with role := .car }.wf Reg.linkStat 0 3 5) 0xC02 0 []) &&
    runs (.pair .cmd ⟨true, true, [], [], [], [], false,
        false⟩) (put ({ lg with role := .car }.wf Reg.linkStat 0 3 5) 0xC02 0 []) &&
    runs (.lifeSet .cmd ⟨true, true⟩) (put (lg.wb Reg.safeState 10 true) 0xC04 4 [])) = true := by decide +kernel

/-- A running slot of known bytes, for the firmware commands. -/
def staged (n : Nat) (whole : Bool) : State :=
  (lifeTo { up with mint := { up.mint with stage := some (!up.mint.runB, n, whole) } } 1).setSlotOf (!up.mint.runB)
    (.bytes [1, 2, 3, 4])

/-- The firmware commands are let run (FirmwareCommandsTakeEffect). -/
theorem witness_firmware_commands :
    ((runs (.fwStage .cmd false) (put (lifeTo up 1) 0xC05 0 ([0, 0, 0, 0] ++ List.replicate 100 3))
        fun _ _ t => t.hasRequest 0x51) &&
    (runs (.fwStage .cmd false) (put (staged 4 false) 0xC05 0 ([4, 0, 0, 0] ++ List.replicate 100 3)) fun _ _ t =>
    t.mint.stage == some (!up.mint.runB, 104, false)) &&
    (runs (.fwActivateSwitch .cmd) (put ((staged 4 true).wb Reg.safeState 10 true) 0xC06 0 [])
        fun _ _ t => t.mint.unconfirmed) &&
    runs (.fwActivateConfirm .cmd) (put ((lifeTo up 1).wb Reg.mintBoot 3 true) 0xC06 1 []) &&
    runs (.fwActivateBurn .cmd) (put (lifeTo (up.setSlotOf up.mint.runB (.bytes (List.replicate 200 1))) 1) 0xC06 2 [])) = true := by decide +kernel

/-- The service login's commands are let run (ServiceLogins). -/
theorem witness_login_commands :
    (runs (.serviceLoginChallenge .cmd) (put (lifeTo up 1) 0xC07 0 []) &&
    (runs (.serviceLoginResponse .cmd) (put (lifeTo up 1) 0xC07 1 ([0, 0, 100, 0] ++ List.replicate 100 0)) fun _ _ t =>
    t.vault.refusals == 1) &&
    (runs (.serviceLoginResponse .cmd) (put (lifeTo up 1) 0xC07 1 ([0, 0, 100, 0] ++ List.replicate 50 0)) fun _ _ t =>
    t.vault.refusals == 0) &&
    runs (.serviceLoginLogout .cmd) (put { lg with mint := { lg.mint with login := some ⟨0, 5⟩ } } 0xC07 2 [])) = true := by decide +kernel

/-- `s` on a PAR16 module with the low half of `v` for `a` in the write latch. -/
def latch (s : State) (a v : Nat) : State :=
  { s with port := { s.port with hostsel := false, wrLatch := some (a, BitVec.ofNat 16 v) } }

/-- The write of the high half of `v`. -/
def high (v : Nat) : WAcc := .par16 true (BitVec.ofNat 16 (v / 65536)) true true

/-- The write of `v` at `a` commits, and the command then acts. -/
def writes (i : WAcc → Instr) (s : State) (a v : Nat) (f : State → Bool := fun _ => true) : Bool :=
  ((latch s a v).commits a (high v)).isSome && acts (i (high v)) (latch s a v) f

/-- The register row that a word has, for a test of it. -/
def rowAt (a : Nat) (p : RegRow → Bool) : Bool := (Reg.find a).any p

/-- PAR16 and QSPI modules with nothing latched. -/
def par : State := { up with port := { up.port with hostsel := false, wrLatch := none } }
def qsp : State := { up with port := { up.port with hostsel := true, wrLatch := none } }

/-- Committed writes of storing, locked and configuration registers (HostWrites, first part). -/
theorem witness_host_writes :
    ((writes (.registerWrite Reg.tellerIrqEn) up Reg.tellerIrqEn 0x3F fun t => t.r Reg.tellerIrqEn == 0x3F) &&
    (up.plainReg Reg.tellerIrqEn && rowAt Reg.tellerIrqEn fun r => r.rw != 0 && !r.cfg) &&
    (writes (.registerWrite Reg.devPart) up Reg.devPart 5 fun t => t.regs == up.regs) &&
    (up.plainReg Reg.devPart && rowAt Reg.devPart fun r => r.rw == 0) &&
    (let s := { up with cpt := { up.cpt with set := machSet }, role := .machine }; s.lockOf (Acct.ofWord (Reg.inCfg 0)) != .none &&
  writes (.registerWrite (Reg.inCfg 0)) s (Reg.inCfg 0) 5 fun t => t.rf Reg.devWrIgnored 0 32 == 1) &&
    (writes (.registerWrite (Reg.capCfg 0)) (up.setEn (Acct.cap 0) true) (Reg.capCfg 0) 0x320403
        fun t => t.hasFlt (Acct.cap 0) 0) &&
    (writes (.registerWrite (Reg.capCfg 3)) up (Reg.capCfg 3) 0x320403 fun t => t.r (Reg.capCfg 3) == 0x320403) &&
    (!up.cfgEn (Acct.cap 3) && !up.cfgFrozen (Reg.capCfg 3) (Acct.cap 3) &&
        (up.w (Reg.capCfg 3) 0x320403).jointOk (Reg.capCfg 3) &&
  rowAt (Reg.capCfg 3) fun r => r.cfg) &&
    (writes .tellerCfgWrite up Reg.tellerCfg 0x222 fun t => t.hasFlt Acct.host 0) &&
    (writes .tellerCfgWrite (up.setEn Acct.host false) Reg.tellerCfg 0x222
        fun t => t.r Reg.tellerCfg != up.r Reg.tellerCfg)) = true := by decide +kernel

/-- Host writes that are not taken (HostWrites, second part), at the edges of their ranges. -/
theorem witness_refused_writes :
    ((writes (.comptrollerRangeWrite 0x6000) up 0x6000 0x222 fun t => t.rf Reg.devWrIgnored 0 32 == 1) &&
    (writes (.comptrollerRangeWrite 0x6FFC) up 0x6FFC 0x222 fun t => t.rf Reg.devWrIgnored 0 32 == 1) &&
    (writes (fun a => .badAddressAccess 0x1F00 (.write a)) up 0x1F00 0x222 fun t => t.rf Reg.devBadAddr 0 32 == 1) &&
    (acts (.mirrorWindowWrite 0x20000 (.par16 true 0 true true)) par fun t => t.hasFlt Acct.host 1) &&
    (acts (.mirrorWindowWrite 0x23FFC (.qspi 0)) qsp fun t => t.hasFlt Acct.host 1) &&
    (acts (.par16LowHalfWrite 0x1FFFC 7 true true) par fun t => t.port.wrLatch == some (0x1FFFC, 7)) &&
    (acts (.par16LowHalfWrite 0 7 true false) par fun t => t.rf Reg.hostPortStat 8 8 == 1) &&
    (acts (.registerWrite 0x1FFFC (.par16 true 7 true true)) par fun t => t.rf Reg.hostPortStat 8 8 == 1) &&
    (acts .par16ReadWriteConflict par fun t => t.rf Reg.hostPortStat 8 8 == 1)) = true := by decide +kernel

/-- Host writes of account headers (HostWrites, third part). -/
theorem witness_header_writes :
    ((writes (.accCtlEnWrite (Acct.cap 0)) up (Acct.cap 0 + 8) 1 fun t => t.en (Acct.cap 0)) &&
    (writes (.accCtlHoldWrite (Acct.doorPort 0)) up (Acct.doorPort 0 + 8) 9 fun t => bit (t.ctl (Acct.doorPort 0)) 3) &&
    (writes (.accCtlConsolidateWrite (Acct.gp 0)) up (Acct.gp 0 + 8) 2 fun t => t.consolidated (Acct.gp 0)) &&
    (writes (.accCtlConsolidateWrite (Acct.gp 0)) (up.setEn (Acct.gp 0) true) (Acct.gp 0 + 8) 3
        fun t => t.hasFlt (Acct.gp 0) 30) &&
    (writes (fun a => .accCtlCntClr (Acct.cap 0) a true) (up.count (Acct.cap 0)) (Acct.cap 0 + 8) 0x10 fun t =>
  t.cntWord (Acct.cap 0) == 1) &&
    (writes (fun a => .accCtlCntClr 0 a false) up 8 0x10) &&
    (writes (fun a => .accFltW1c (Acct.cap 0) a 0) (up.setFlt (Acct.cap 0) 0) (Acct.cap 0 + 0x10) 0xFF fun t =>
  t.flt (Acct.cap 0) == 0) &&
    (writes (fun a => .accFltW1c (Acct.cap 0) a 1) (up.setFlt (Acct.cap 0) 0) (Acct.cap 0 + 0x10) 1 fun t =>
  t.hasFlt (Acct.cap 0) 0)) = true := by decide +kernel

/-- Reads of register words (HostReads, first part). -/
theorem witness_host_reads :
    ((acts (.rcRegisterRead 0x1020 (.par16 false)) par fun t => t.port.rdLatch.isSome) &&
    acts (.rcRegisterRead 0x1FFFC .qspi) qsp &&
    (State.occupied (qsp.resolve 0x103C) && State.plainRead 0x103C &&
        acts (.rcRegisterRead 0x103C .qspi) (qsp.w 0x103C 0xFFFFFFFF)) &&
    (acts (.snapshotRead 0x2130 .qspi) qsp fun t => (State.companionsOf 0x2130).all
        fun x => t.hostView x == qsp.peek x) &&
    (State.isLead 0x2130 && !(State.companionsOf 0x2130).isEmpty) &&
    (acts (.badAddressAccess 0x1F00 (.read (.par16 false))) par fun t => t.rf Reg.devBadAddr 0 32 == 1) &&
    (acts (.badAddressAccess 0x1F00 (.read .qspi)) qsp fun t => t.port.qout == [0]) &&
    (acts (.rcRegisterRead 0x1020 (.par16 true)) { par with port := { par.port with rdLatch := some (0x1020, 9) } }
        fun t =>
  t.port.dout == 9) &&
    (acts (.rcRegisterRead 0x1020 (.par16 false)) { par with rst := { par.rst with phase := .inReset } }
        fun t => t.port.mbusy)) = true := by decide +kernel

/-- Reads of the mirror window and of the atomic words (HostReads, second part). -/
theorem witness_mirror_reads :
    ((acts (.mirrorWindowRead 0x20004 (.par16 false) false false) par fun t => !t.port.mbusy) &&
    (par.serves false && meets par true) &&
    (acts (.mirrorWindowRead 0x20000 (.par16 false) true false) par fun t => t.port.mbusy) &&
    (acts (.mirrorWindowRead 0x2000C (.par16 false) true false) par fun t => t.rf Reg.devBadAddr 0 32 == 1) &&
    (acts (.mirrorWindowRead 0x24000 .qspi false false) qsp fun t => t.port.qout == [0]) &&
    (acts (.mirrorWindowRead 0x2000C .qspi false true) qsp fun t => t.port.qout == [0])) = true := by decide +kernel

/-- The QSPI transactions (HostReads, third part). -/
theorem witness_qspi :
    ((acts (.qspiRead 0x24000 3) qsp fun t => t.port.qout == [0, 0, 0]) &&
    acts (.qspiRead 0x27FFC 1) qsp &&
    (acts (.qspiSnap 0x20010 3) (qsp.wf Reg.fusMstat 0 3 0) fun t => t.port.qout.length == 3) &&
    (acts (.qspiSnap 0x1020 0) qsp fun t => t.rf Reg.hostPortStat 24 8 == 1) &&
    (acts (.qspiWrite 0x28000 [1, 2] true) qsp fun t => t.ringBytes 0x28000 8 == [1, 0, 0, 0, 2, 0, 0, 0]) &&
    (acts (.qspiWrite 0x28000 [] true) qsp fun t => t.rf Reg.hostPortStat 8 8 == 1) &&
    (acts .qspiStatus qsp fun t => !t.port.partWord) &&
    acts (.qspiUnknownCommand 0) qsp &&
    (acts .qspiStatus par && acts (.qspiRead 0 1) par && acts (.qspiSnap 0 1) par && acts (.qspiWrite 0 [1] false) par) &&
    acts (.qspiUnknownCommand 0xFF) par) = true := by decide +kernel

/-- Doorbells, consumer counters and ring bytes (RingsPostsAndAtomics, first part). -/
theorem witness_rings :
    ((writes .tellerDbCmd up Reg.tellerDbCmd (up.qdepth 0) fun t => (t.queue 0).prod == up.qdepth 0) &&
    (writes .tellerDbCmd up Reg.tellerDbCmd (up.qdepth 0 + 1) fun t => bit (t.queue 0).flt 1) &&
    (writes .tellerDbUrg up Reg.tellerDbUrg 1 fun t => (t.queue 1).prod == 1) &&
    (writes .tellerDbUrg { up with tel := { up.tel with noticed := false } } Reg.tellerDbUrg 1 fun t =>
  t.rf Reg.tellerErr 16 16 == 1) &&
    (writes .tellerDbUrg { up with pwr := .doze } Reg.tellerDbUrg 1 fun t => t.pwr == .run) &&
    (writes (.qconsWrite 4) (up.updQ 4 fun q => { q with prod := 2 }) (Reg.qcons 4) 2 fun t => (t.queue 4).cons == 2) &&
    (writes (.qconsWrite 4) (up.updQ 4 fun q => { q with prod := 2 }) (Reg.qcons 4) 3 fun t => bit (t.queue 4).flt 1) &&
    (writes (.qconsWrite 0) up (Reg.qcons 0) 3 fun t => t.queues == up.queues) &&
    (acts (.registerWrite 0x28000 (.par16 true 0x201 true true)) par fun t => t.ringBytes 0x28002 2 == [1,
        2])) = true := by decide +kernel

/-- A completion that waits. -/
def done1 : Done :=
  { opcode := 1, tag := 0x77, status := 0, result := 5, resp := [], peer := false, loc := false, gen := 0 }

/-- The Teller's posts (RingsPostsAndAtomics, second part). -/
theorem witness_posts :
    ((let s := { up with tel := { up.tel with noticed := false } }; s.noticeDue && acts .resetNotice s fun t =>
  (t.queue 4).prod == 1 && leAt (t.ringBytes 0x30C00 16) 0 2 == 1) &&
    (!up.noticeDue && acts .resetNotice up) &&
    (let s := { up with tel := { up.tel with done := [done1] } }; s.mayPost && s.nextDone == some done1 &&
  acts .completionPost s fun t => (t.queue 2).prod == 1 && t.tel.done == []) &&
    (up.nextDone == none && acts .completionPost up) &&
    (acts .mirrorUpdate up fun t => State.mbGroups.all fun g => t.mbWord g.1 == 2) &&
    (acts .irqHoldoffExpiry { up with port := { up.port with holdoff := true, irqLow := false } }
        fun t => !t.port.holdoff) &&
    (!up.port.holdoff && acts .irqHoldoffExpiry up)) = true := by decide +kernel

/-- The atomics on the first and the last word (RingsPostsAndAtomics, third part). -/
theorem witness_atomics :
    ((writes (fun a => .atomicAdd 0 a false false) up 0x24000 3 fun t => t.atomicWord 0 == 3) &&
    (writes (fun a => .atomicAdd 2047 a true false) up 0x25FFC 3 fun t => t.rb Reg.atomicStat 1) &&
    (writes (fun a => .atomicSwap 2047 a false false) up 0x27FFC 3 fun t => t.atomicWord 2047 == 3) &&
    (((latch up 0x26000 3).commits 0x26000 (high 3)).isSome &&
        meets (latch up 0x26000 3) true)) = true := by decide +kernel

/-- CAN controller 0 on the bus: enabled, and no idle phase awaited. -/
def onBus : State := up.setEn (Acct.canc 0) true

/-- A classical data frame with identifier `id` and one byte. -/
def frame1 (id : BitVec 29) : CanFrame := ⟨false, id, false, false, false, false, 1, [0x5A]⟩

/-- Element 3 sends identifier 0x7FF to object 9, an enabled RX object. -/
def filtered : State :=
  ((setRs onBus [(Reg.feA 3, 0x7FF), (Reg.feB 3, 0x7FF), (Reg.feC 3, 9)]).setEn (Acct.fe 3) true).setEn (Acct.obj 9) true

/-- Frames that no one takes, that the search counts, that are dropped, and that an object takes
(CanFramesAreReceived, first part). -/
theorem witness_can_receive :
    (((frame1 0x7FF).wellFormed && acts (.canRxFrame 0 (frame1 0x7FF) false) up fun t => t.regs == up.regs) &&
    (onBus.canListens 0 && acts (.canRxFrame 0 (frame1 1) false) (onBus.updCan 0
        fun c => { c with search := some ⟨false, 0⟩ })
  fun t => (t.canAt 0).search == some ⟨false, 1⟩) &&
    (acts (.canRxFrame 0 (frame1 1) false) filtered fun t => t.rf (Reg.canDrop 0) 0 16 == 1) &&
    (filtered.matches' 3 false 0x7FF && acts (.canRxFrame 0 (frame1 0x7FF) false) filtered fun t =>
  t.objIs 9 0 && t.dataBytes 9 1 == [0x5A])) = true := by decide +kernel

/-- The host's CAN aperture on controllers 0 and 3 (CanFramesAreReceived, second part). -/
theorem witness_can_aperture :
    ((writes (.canApSelWrite 3) (up.setEn (Acct.obj 511) true) (Reg.canApSel 3) (127 + 512)
        fun t => (t.canAt 3).session.isSome) &&
    (writes (.canApSelWrite 0) up (Reg.canApSel 0) 256 fun t => (t.canAt 0).session.isNone) &&
    (writes (.canApRelease 0) (up.updCan 0 fun c => { c with session := some ⟨4, 0, false⟩ }) (Reg.canApCtl 0) 1 fun t =>
  (t.canAt 0).session.isNone) &&
    (writes (.canApTxreq 0) ((txObj up).wf (Reg.canApSel 0) 0 7 5) (Reg.canApCtl 0) (2 + 8 * 256) fun t => t.objIs 5 5) &&
    writes (.canApTxreq 0) up (Reg.canApCtl 0) 2 &&
    (writes (.canApAbort 0) ((pending up).wf (Reg.canApSel 0) 0 7 5) (Reg.canApCtl 0) 4 fun t => !t.objIs 5 5) &&
    (writes (.canApAbort 0) ((sending up).wf (Reg.canApSel 0) 0 7 5) (Reg.canApCtl 0) 4
        fun t => (t.canObj 5).abort)) = true := by decide +kernel

/-- Attempts that start, and each way that one ends (CanFramesAreSent, first part). -/
theorem witness_can_send :
    ((acts (.canTxAttemptStart 0) (pending onBus) fun t => (t.canAt 0).attempt == some (5, 0)) &&
    acts (.canTxAttemptStart 3) up &&
    acts (.canTxAttemptEnd 0 .lostArbitration) up &&
    (acts (.canTxAttemptEnd 0 (.sent 0)) (sending onBus) fun t => t.rf (Reg.canTxcnt 0) 0 32 == 1) &&
    (acts (.canTxAttemptEnd 0 .lostArbitration) (sending onBus) fun t => t.objIs 5 5) &&
    (acts (.canTxAttemptEnd 0 (.failed false 7)) ((sending onBus).updObj 5 fun o => { o with abort := true })
        fun t => !t.objIs 5 5) &&
    (acts (.canTxAttemptEnd 0 (.failed true 9)) ((sending onBus).updObj 5 fun o => { o with clash := 1 }) fun t =>
  t.objIs 5 8 && t.rf (Reg.canClashPos 0) 0 10 == 9)) = true := by decide +kernel

/-- Error confinement and the bus events, each where it can occur (CanFramesAreSent, second part). -/
theorem witness_can_errors :
    ((acts (.canError 0 ⟨1, false, true, false⟩) onBus fun t => (t.canAt 0).txErr == 8) &&
    (acts (.canError 0 ⟨1, true, true, false⟩) (onBus.updCan 0 fun c => { c with txErr := 248 })
        fun t => (t.canAt 0).off) &&
    (acts (.canError 0 ⟨1, false, true, false⟩) (onBus.updCan 0 fun c => { c with txErr := 247 })
        fun t => !(t.canAt 0).off) &&
    (acts (.canError 0 ⟨2, false, false, true⟩) onBus fun t => (t.canAt 0).rxErr == 8) &&
    acts (.canError 1 ⟨2, false, false, true⟩) up &&
    (acts (.canRecover 0) (onBus.updCan 0 fun c => { c with off := true }) fun t => !(t.canAt 0).off) &&
    (acts (.canBusIdle 0) (onBus.updCan 0 fun c => { c with waitIdle := true }) fun t => !(t.canAt 0).waitIdle) &&
    (acts (.protocolException 0) onBus fun t => t.rf (Reg.canPxe 0) 0 16 == 1) &&
    (acts (.canLockExpired 0) (onBus.updCan 0 fun c => { c with session := some ⟨9, 0, false⟩ })
        fun t => t.hasFlt (Acct.obj 9) 2) &&
    acts (.canLockExpired 0) onBus &&
    (acts (.canRate 0) (onBus.updCan 0 fun c => { c with search := some ⟨false, 7⟩ })
        fun t => (t.canAt 0).search.isSome) &&
    acts (.canRate 0) onBus &&
    (let s := onBus.updCan 0 fun c => { c with search := some ⟨false, 8⟩ }; invB s && ((s.canAt 0).search.any
        fun v => v.clean == 8)) &&
    (let s := onBus.updCan 0 fun c => { c with search := some ⟨true, 8⟩ }; invB s && ((s.canAt 0).search.any
        fun v => v.data))) = true := by decide +kernel

/-- CAR with the link enabled in state `l`. -/
def link (l : Nat) : State := ({ up with role := .car }.setEn Acct.sheicLink true).wf Reg.linkStat 0 3 l

/-- A recorded active peer. -/
def paired (s : State) : State :=
  { s with mint := { s.mint with pairRec := some { active := true, peer := List.replicate 48 1, role := 2, oem := s.mint.oem } } }

/-- A frame of the link: its first byte, zeros and a CRC word. -/
def frameOf (id c : Nat) : List Byte := (leBytes 1 id ++ List.replicate 231 0) ++ leBytes 4 c

theorem frameOf_parts (id c : Nat) : (frameOf id c).length = 236 ∧ (frameOf id c).take 232 = leBytes 1 id ++
    List.replicate 231 0 ∧
    leAt (frameOf id c) 232 4 = leNat (leBytes 4 c) ∧ leAt (frameOf id c) 0 1 = leNat (leBytes 1 id) := by
  have h : (leBytes 1 id ++ List.replicate 231 (0 : Byte)).length = 232 := by
    rw [List.length_append, List.length_replicate]; rfl
  refine ⟨?_, ?_, ?_, rfl⟩
  · rw [frameOf, List.length_append, h]; rfl
  · rw [frameOf, List.take_left' h]
  · rw [leAt, frameOf, List.drop_left' h]; rfl

/-- The CRC that the frame with first byte `id` needs. -/
def frameSum (id : Nat) : Nat := frameCrc (leBytes 1 id ++ List.replicate 231 0)

theorem leNat_leBytes4 (c : Nat) : leNat (leBytes 4 c) = c % 2 ^ 32 := by
  simp only [leBytes, leNat, BitVec.toNat_ofNat]
  omega

theorem frameSum_lt (id : Nat) : frameSum id < 2 ^ 32 := BitVec.isLt _

/-- Good and bad frames in ALIGN at both sides of its sixteen good frames, and a frame of the wrong header,
    whatever the CRC's
value (LinkMoves, first part). -/
theorem witness_link_frame_rx :
    (∀ n, n = 14 ∨ n = 15 → ({ link 1 with link := { (link 1).link with good := n } } : State).Inv) ∧
    (link 1).linkRuns = true ∧ (link 1).lstate = 1 ∧ (link 1).looped = false ∧ (link 1).headerOk (leAt (frameOf 0x21 0) 0 1) = true ∧
    (link 1).headerOk (leAt (frameOf 0x11 0) 0 1) = false ∧
    (∀ id, leAt (frameOf id (frameSum id)) 232 4 = frameCrc ((frameOf id (frameSum id)).take 232)) ∧
    ∀ id, leAt (frameOf id (frameSum id + 1)) 232 4 ≠ frameCrc ((frameOf id (frameSum id + 1)).take 232) := by
  refine ⟨?_, by decide +kernel, by decide +kernel, by decide +kernel, by decide +kernel, by decide +kernel, ?_, ?_⟩
  · rintro n (rfl | rfl) <;> exact inv_of_invB (by decide +kernel)
  · intro id
    rw [(frameOf_parts id _).2.2.1, (frameOf_parts id _).2.1, leNat_leBytes4]
    exact Nat.mod_eq_of_lt (frameSum_lt id)
  · intro id
    rw [(frameOf_parts id _).2.2.1, (frameOf_parts id _).2.1, leNat_leBytes4]
    have := frameSum_lt id
    show (frameSum id + 1) % 2 ^ 32 ≠ frameSum id
    omega

/-- Frames of the link, good and bad, at the edge of ALIGN (LinkMoves, first part). -/
theorem witness_link_frames :
    ((acts .linkFrameTx (link 4) fun t => t.link.tx.length == 236) &&
    acts .linkFrameTx up &&
    (acts .linkFrameMissing (link 4) fun t => t.rf Reg.linkCnt 16 16 == 1) &&
    (acts .tunnelResend { link 4 with tun := { up.tun with unacked := [⟨1, [1]⟩], stall := 3 } }
        fun t => t.tun.stall == 0)) = true := by decide +kernel

/-- The states of the link (LinkMoves, second part; no peer signature can pass here, since its test is a free value of
log 61). -/
theorem witness_link_states :
    ((acts .commaAlignment (link 0) fun t => t.lstate == 1) &&
    (acts .commaAlignment (link 1) fun t => t.lstate == 1) &&
    (acts .linkDown { link 4 with link := { (link 4).link with missed := 4 } } fun t => t.lstate == 0) &&
    (acts .linkDown { link 4 with link := { (link 4).link with missed := 3 } } fun t => t.lstate == 4) &&
    (acts .linkLossOfSignal (link 4) fun t => t.hasFlt Acct.sheicLink 1) &&
    (acts .linkRateSwitch ((link 1).wf Reg.linkCfg 0 2 2) fun t => t.link.slow != (link 1).link.slow) &&
    (acts .linkRateSwitch ((link 4).wf Reg.linkCfg 0 2 2) fun t => t.link.slow == (link 4).link.slow) &&
    (acts (.pairingCheckEnd [] []) (link 3) fun t => t.lstate == 5) &&
    (meets (paired (link 3)) ((paired (link 3)).linkRuns && (paired (link 3)).pairActive.isSome)) &&
    (acts (.pairingCheckEnd [] []) (link 4) fun t => t.lstate == 4)) = true := by decide +kernel

/-- Connection 8 over the link UP in OPENING or UP, with its maximum age. -/
def conn (c : Nat) : State :=
  ((link 4).wf (Reg.csState 8) 0 3 c).updCs 8 fun x => { x with opened := true }

/-- A PDU with sequence number `n` and a good CRC. -/
def pdu (n : Nat) : List Byte := csSealed ([0, 0, 0, 0] ++ leBytes 2 n ++ List.replicate 22 0)

/-- Each check of a PDU in its order, the silent partner, and a PDU that a producer makes (CountersignConnections). -/
theorem witness_connections :
    (((pdu 5).length == 32 && acts (.csPdu 8 (pdu 5)) (conn 1) fun t => (t.csAt 8).base && t.csCode 8 == 1) &&
    ((conn 1).csOverCan 8 == false && acts (.csPdu 8 (pdu 5)) ((conn 1).wf (Reg.csState 8) 8 4 7)
        fun t => t.csCode 8 == 2) &&
    meets (conn 2) (!csCrcOk (List.replicate 32 1)) &&
    (meets ((conn 2).w (Reg.csId 8) 7) (csCrcOk (pdu 5) && wordAt (pdu 5) 0 != 7)) &&
    (acts (.csPdu 8 (pdu 5)) ((conn 2).updCs 8 fun x => { x with base := true, last := pdu 5 })
        fun t => t.csCode 8 == 2) &&
    ((let s := (conn 2).updCs 8 fun x => { x with base := true }; meets s ((s.csAt 8).base &&
        (s.csAt 8).last != pdu 5))) &&
    ((let s := { (conn 2).updCs 8 fun x => { x with base := true } with till := 2000000 }; meets s (s.csOld 8 (s.csAge 8 (pdu 1)).1))) &&
    acts (.csPdu 7 (pdu 5)) (conn 2) &&
    (meets (conn 2) ((conn 2).csCode 8 == 2)) &&
    (acts (.csWatchdog 8) (conn 1) fun t => t.csCode 8 == 1) &&
    acts (.csWatchdog 15) (conn 1) &&
    (acts (.csSafeReopen 8) (conn 3) fun t => t.csCode 8 == 1) &&
    (acts (.csProduce 7) ((up.wb (Reg.csCfgP 7) 1 true).updCs 7 fun x => { x with opened := true })
        fun t => csCrcOk (t.csAt 7).last) &&
    acts (.csProduce 8) (conn 2)) = true := by decide +kernel

/-- Encoder 2 counting both edges of A and B, its lines low. -/
def enc2 : State := (up.setEn (Acct.enc 2) true).w (Reg.encCfg 2) 0x18A

/-- Edges without a change, with a double change, forward and in reverse, the index, a line fault and the settle
(EncoderEdgesCount). -/
theorem witness_encoder :
    ((acts (.encEdge 0 true false) up fun t => t.regs == up.regs) &&
    (acts (.encEdge 2 false false) enc2 fun t => t.regs == enc2.regs) &&
    (acts (.encEdge 2 true true) enc2 fun t => t.rf (Reg.encQerr 2) 0 32 == 1) &&
    (acts (.encEdge 2 true false) enc2 fun t => t.r (Reg.encRaw 2) == 1) &&
    (acts (.encEdge 2 true false) ({ enc2 with fb := { enc2.fb with enc := updAt enc2.fb.enc 2 fun e => { e with dir := some false } } })
  fun t => t.r (Reg.encPos 2) == 0) &&
    (acts (.encIndexEdge 2 true) enc2 fun t => t.r (Reg.encIdxCap 2) == 0) &&
    (acts (.encIndexEdge 2 true) ((enc2.wb (Reg.encCfg 2) 5 true).w (Reg.encPos 2) 0x1000)
        fun t => t.hasFlt (Acct.enc 2) 5) &&
    acts (.encIndexEdge 0 true) up &&
    (acts (.encLine 2 7) enc2 fun t => t.hasFlt (Acct.enc 2) 4) &&
    acts (.encLine 2 0) enc2 &&
    (acts (.untrustedClear 2) (enc2.wb (Acct.enc 2 + 0xC) 8 true) fun t => !t.untrusted (Acct.enc 2)) &&
    acts (.untrustedClear 0) up &&
    (acts (.encReceiverSettle 2) (enc2.wf (Acct.enc 2 + 0xC) 4 4 1)
        fun t => t.rf (Acct.enc 2 + 0xC) 4 4 != 1)) = true := by decide +kernel

/-- Hall channel 1 enabled in the sector of state 1. -/
def hall1 : State := (up.setEn (Acct.hall 1) true).w (Reg.hallState 1) 0x11

/-- SSI channel 1 enabled with this configuration and a frame being read. -/
def ssi (cfg rule : Word) (high : Bool) : State :=
  let s := ((up.setEn (Acct.abs 1) true).w (Reg.absCfg 1) cfg).w (Reg.absStatusRule 1) rule
  { s with fb := { s.fb with abs := updAt s.fb.abs 1 fun a => { a with reading := some (0, high), seed := true } } }

/-- Hall states, SSI frames by each check, stale reads and captures (SensorEvents, first part). -/
theorem witness_sensors :
    ((acts (.hallChange 0 5) up fun t => t.rf (Reg.hallState 0) 0 3 == 5) &&
    (acts (.hallChange 1 0) hall1 fun t => t.hasFlt (Acct.hall 1) 1) &&
    (acts (.hallChange 1 7) hall1 fun t => t.hasFlt (Acct.hall 1) 1) &&
    (acts (.hallChange 1 3) hall1 fun t => t.rf (Reg.hallState 1) 4 3 == 3 && !t.hasFlt (Acct.hall 1) 2) &&
    (acts (.hallChange 1 6) hall1 fun t => t.hasFlt (Acct.hall 1) 2) &&
    (acts (.absRead 1 true) ((up.setEn (Acct.abs 1) true)) fun t => (t.absAt 1).reading == some (0, true)) &&
    (acts (.absRead 0 true) up fun t => (t.absAt 0).reading == none) &&
    acts (.absFrameEnd 0 0) up &&
    (acts (.absFrameEnd 1 0) (ssi 0x16031 0 false) fun t => t.hasFlt (Acct.abs 1) 1) &&
    (acts (.absFrameEnd 1 1) (ssi 0x36031 0 true) fun t => t.hasFlt (Acct.abs 1) 2) &&
    (acts (.absFrameEnd 1 0) (ssi 0x96031 1 true) fun t => t.hasFlt (Acct.abs 1) 3) &&
    (acts (.absFrameEnd 1 0) ((ssi 0x16031 0 true).setFlt (Acct.abs 1) 5) fun t => t.hasFlt (Acct.abs 1) 4) &&
    (acts (.absFrameEnd 1 3) (ssi 0x16031 0 true) fun t => t.r (Reg.absPosL 1) == 2) &&
    (acts (.absStale 1) (ssi 0x16031 0 true) fun t => t.hasFlt (Acct.abs 1) 6) &&
    acts (.absStale 0) up &&
    (acts (.capture 3 true) ((up.setEn (Acct.cap 3) true).w (Reg.capCfg 3) 0x322403) fun t => t.r (Reg.capSeq 3) == 2) &&
    (acts (.capture 3 true) (let s := (up.setEn (Acct.cap 3) true).w (Reg.capCfg 3) 0x322403
  { s with fb := { s.fb with capHold := updAt s.fb.capHold 3 fun _ => 1 } }) fun t => t.rf (Reg.capFlags 3) 16 16 == 1) &&
    acts (.capture 0 false) up) = true := by decide +kernel

/-- The accelerometer's port enabled, and running. -/
def accel : State := (up.setEn Acct.accPort true).wf (Acct.accPort + 0xC) 4 4 3

/-- The emulation repeating encoder edges. -/
def emul : State :=
  let s := (up.setEn Acct.emu true).w Reg.emuCfg 1
  { s with fb := { s.fb with emu := { s.fb.emu with on := true } } }

/-- Samples of the accelerometer and the emulation's edges (SensorEvents, second part). -/
theorem witness_accelerometer_emulation :
    (acts (.accSample 0x33 [1, 2, 3, 4, 5, 6]) up &&
    (acts (.accSample 0x33 [1, 2, 3, 4, 5, 6]) accel fun t => t.r Reg.accX != 0) &&
    (acts (.accSample 0x33 (List.replicate 6 0xFF)) accel fun t => t.fb.accStuck == 1) &&
    (acts (.accSample 0x33 [1, 2, 3, 4, 5, 6]) (accel.wf (Acct.accPort + 0xC) 4 4 1) fun t => t.hasFlt Acct.accPort 1) &&
    (acts .accLate (accel.wb Reg.accCfg 9 true) fun t => t.hasFlt Acct.accPort 3) &&
    acts .accLate up &&
    (acts (.emuRepeatEdge true false false) { emul with till := 40 } fun t => t.r Reg.emuCount != 0) &&
    (acts (.emuRepeatEdge true false false) { emul with fb := { emul.fb with emu := { emul.fb.emu with last := 41 } } } fun t =>
  t.hasFlt Acct.emu 1) &&
    (acts .emuDriveFault emul fun t => t.hasFlt Acct.emu 4) &&
    acts .emuDriveFault up) = true := by decide +kernel

/-- Observer 0 enabled with this memory. -/
def observer (f : Obs → Obs) : State := { up.setEn (State.obsBase 0) true with obs := updAt up.obs 0 f }

/-- An observer's gate in each of its states, with and without a measurement (PositionIsObserved, first part). An
update's gains come from the free bandwidths of log 14, so only its hypotheses are evaluated. -/
theorem witness_observers :
    ((let s := observer fun o => { o with meas := some (5, 0), invalid := false }; invB s && s.runs (State.obsBase 0) &&
  s.en (State.obsBase 0)) &&
    (let s := observer fun o => { o with invalid := true }; invB s && s.runs (State.obsBase 0) &&
        s.en (State.obsBase 0)) &&
    (acts (.gateTZeroExpiry 0) (observer fun o => { o with gate := .first }) fun t => (t.obsAt 0).gate == .standstill) &&
    (acts (.gateTZeroExpiry 0) (observer fun o => { o with gate := .reversed })
        fun t => (t.obsAt 0).gate == .standstill) &&
    (acts (.gateTZeroExpiry 0) (observer fun o => { o with gate := .standstill })
        fun t => (t.obsAt 0).gate == .standstill) &&
    (acts (.gateTZeroExpiry 0) (observer fun o => { o with gate := .tracking, v := 0 })
        fun t => (t.obsAt 0).gate == .standstill) &&
    (acts (.gateTZeroExpiry 0) (observer fun o => { o with gate := .tracking, v := 100000 })
        fun t => (t.obsAt 0).gate == .tracking)) = true := by decide +kernel

/-- A fusion update on time, and one that is missed (PositionIsObserved, second part). -/
theorem witness_fusion :
    ((acts (.fusionUpdate false) up fun t => t.regs == up.regs) &&
    (acts (.fusionUpdate false) (up.setEn Acct.fusion true) fun t => t.fus.missedLast == false) &&
    (acts (.fusionUpdate true) ((up.setEn Acct.fusion true).w Reg.carspd 1000000) fun t => t.r Reg.carpos == 1) &&
    (acts (.fusionUpdate false) (let s := (up.setEn Acct.fusion true).w (Reg.fusCfg) 0x640A40
  { s with fus := { s.fus with confirmed := true, source := 1 } })
      fun t => t.fus.tapeIn.isEmpty)) = true := by decide +kernel

/-- The run state set for a test, and the engine's memory changed. -/
def inRun (r : Nat) (f : Prf → Prf := id) : State := { up.wf Reg.prfStat 0 4 r with prf := f up.prf }

/-- A plan on time, one missed, the abort after ten, and the reference (RunsMove, first part). -/
theorem witness_plan :
    ((!{ up with role := .car }.plans && acts (.planTick true) { up with role := .car }) &&
    (up.plans && acts (.planTick false) up fun t => t.cpt.renewed) &&
    ((let s := (inRun 1).w (Reg.ordSlot 63) (wOf (1 + 0x500 + 0x50000)); meets s (s.slotState 63 == 5 &&
        s.prf.tgt == none))) &&
    ((let s := { inRun 3 with cpt := { up.cpt with st := .tripped } }.w (Reg.ordSlot 0) (wOf (0x300 + 0x50000)); meets s (s.slotState 0 == 3))) &&
    (acts (.planTick false) ((inRun 0).wb Reg.safeState 4 true) fun t => t.runState == 7) &&
    (acts (.planTick true) up fun t => t.prf.misses == 1 && t.hasFlt Acct.profileEngine 1) &&
    (acts .planMissAbort (inRun 3 fun p => { p with misses := 10 }) fun t => t.runState == 9) &&
    (acts .planMissAbort (inRun 3 fun p => { p with misses := 9 }) fun t => t.runState == 3) &&
    (acts .referenceSample up fun t => t.r Reg.prfSref == 0) &&
    acts .referenceSample { up with role := .car }) = true := by decide +kernel

/-- The run's sequences and the drive, each where its condition holds (RunsMove, second part). -/
theorem witness_runs :
    ((acts .startFail (inRun 1) fun t => t.hasFlt Acct.profileEngine 5) &&
    (acts .startFail (inRun 0) fun t => !t.hasFlt Acct.profileEngine 5) &&
    (acts .startDelayExpiry (inRun 1 fun p => { p with seqStep := 2, timer := true }) fun t => t.prf.seqStep == 3) &&
    (acts .brakeHoldExpiry (inRun 1 fun p => { p with seqStep := 12, timer := true, cmd := 7 })
        fun t => t.prf.cmd == 2) &&
    (acts .relevelBypassTimeout (inRun 5 fun p => { p with askBypass := some ⟨true, 0, true, false⟩ }) fun t =>
  t.hasFlt Acct.profileEngine 6) &&
    (acts .driveRef ({ up with prf := { up.prf with txObj := some 5 } }.setEn (Acct.obj 5) true)
        fun t => t.prf.unsent == [(0, 0)]) &&
    acts .driveRef up &&
    (acts .driveStat ((setRs ({ inRun 3 with prf := { up.prf with rxObj := some 5 } }.wb (Reg.objStat 5) 0 true)
  [(Reg.objCfg 5, 0), (Reg.objData 5 0, 0x70004)])) fun t => t.runState == 9 && t.rf Reg.prfDriveFault 0 16 == 7) &&
    acts .driveStat up &&
    (acts .driveLost ((inRun 3 fun p => { p with unsent := [(0, 0)] }).wb Reg.prfDrive 31 true)
        fun t => t.rf Reg.prfStat 24 4 == 2) &&
    acts .driveLost up) = true := by decide +kernel

/-- A control period in the states whose step is given (DoorPeriodsMove). -/
theorem witness_door_periods :
    (acts (.doorControlPeriod 1 8192 8192 8192 8192) up &&
    (meets (door 0xF) ((door 0xF).doorLive 0) && meets (door 9) (!(door 9).doorFaulted 0)) &&
    meets ((door 9).setFlt (Acct.doorPort 0) 2) (((door 9).setFlt (Acct.doorPort 0) 2).doorFaulted 0) &&
    (meets (door 1) ((door 1).lockOk 0 && ((door 1).doorAt 0).reqs == [])) &&
    ((let s := (door 0).wb (Reg.doorState 0) 11 false; meets s (s.doorCode 0 == 0 && !s.lockOk 0))) &&
    ((let s := (door 2).wb (Reg.doorState 0) 9 false; meets s (s.doorCode 0 == 2 && !s.permit 0))) &&
    ((let s := ((door 4).wf (Reg.doorCfg 0) 8 6 0).wb (Reg.doorCfg 0) 6 false; meets s (s.lcActive 0 &&
        !(s.doorAt 0).lcWas)))) = true := by decide +kernel

/-- The faults and the timers of a port, each where it can occur (DoorEventsAct). -/
theorem witness_door_events :
    ((acts (.doorOvercurrent 0 16383 8192 8192) ((door 3).wf (Reg.doorAdc 0) 0 16 65535)
        fun t => t.hasFlt (Acct.doorPort 0) 3) &&
    acts (.doorOvercurrent 1 0 0 0) up &&
    (acts (.doorPowerStageFault 0 10) (door 3) fun t => t.doorCode 0 == 9) &&
    (acts (.doorPowerStageFault 0 9) (door 3) fun t => t.doorCode 0 == 3) &&
    (acts (.doorVbusFault 0) (door 3) fun t => (t.doorAt 0).coastAt == some 0) &&
    (acts (.doorCoastEnd 0) ((door 9).updDoor 0 fun d => { d with coastAt := some 0 })
        fun t => (t.doorAt 0).stage == .off) &&
    (acts (.doorEnableSettle 0) (door 0xF) fun t => t.doorCode 0 == 0xB) &&
    (acts (.doorEnableSettle 0) ((door 0xF).wb (Reg.doorLearned 0) 16 true) fun t => t.doorCode 0 == 1 && t.homed 0) &&
    (acts (.dwellExpiry 0) ((door 3).updDoor 0 fun d => { d with dwell := true }) fun t => t.doorCode 0 == 4) &&
    (acts (.dwellExpiry 0) (((door 3).updDoor 0 fun d => { d with dwell := true }).wb (Acct.doorPort 0 + 8) 3 true)
  fun t => t.doorCode 0 == 3) &&
    (acts (.holdTimeExpiry 0) ((door 7).updDoor 0 fun d => { d with hold := some 5 }) fun t => t.doorCode 0 == 3) &&
    (acts (.doorStall 0) ((door 4).updDoor 0 fun d => { d with vref := 20000 }) fun t => t.doorCode 0 == 8) &&
    (acts (.doorStall 0) ((door 4).updDoor 0 fun d => { d with vref := 19999 }) fun t => t.doorCode 0 == 4) &&
    (acts (.doorEnergy 0) ((door 4).w (Reg.doorEnergy 0) 0xFFFF) fun t => (t.doorAt 0).energy) &&
    (acts (.contactTimeout 0) ((door 4).updDoor 0 (fun d => { d with contactWait := true }) |>.wb (Reg.doorState 0) 10 false)
  fun t => t.doorCode 0 == 8) &&
    (acts (.doorLockFail 0) ((door 1).updDoor 0 (fun d => { d with lockWait := true }) |>.wb (Reg.doorState 0) 11 false)
  fun t => t.hasFlt (Acct.doorPort 0) 10) &&
    (acts (.nudgePauseExpiry 0) ((door 6).updDoor 0 fun d => { d with paused := true }) fun t => !(t.doorAt 0).paused) &&
    (acts (.obstructionTimeExpiry 0) (((door 3).updDoor 0
        fun d => { d with obstSince := some 0 }).wf (Reg.doorNudge 0) 8 8 1)
  fun t => t.nudgeFlag 0)) = true := by decide +kernel

/-- A command of this opcode that stays in progress on this unit. -/
def longOn (s : State) (op : Nat) (u : LongUnit) (keep : List Byte := []) : State :=
  { s with tel := { s.tel with longs := [⟨⟨.cmd, op, 0x77, 0, 0, 1, 0, []⟩, [u], keep⟩] } }

/-- A grant of 1 for this unit. -/
def granted (s : State) (id : Nat) : State :=
  { s with purse := updAt s.purse (State.unitLedger id) fun p => { p with grants := [⟨id, 2, 1, []⟩] } }

/-- Learn runs that complete and that fail, and long commands that end (LearnsAndLongCommandsEnd). -/
theorem witness_learns :
    ((acts (.doorLearnEnd 0 ⟨200000, 0, [], [], true⟩) (longOn (door 10) 0x402 (.door 0)) fun t => t.learned 0 &&
        t.doorCode 0 == 1) &&
    (acts (.doorLearnEnd 0 ⟨199999, 0, [], [], true⟩) (longOn (door 10) 0x402 (.door 0))
        fun t => t.hasFlt (Acct.doorPort 0) 9) &&
    acts (.doorLearnEnd 1 ⟨0, 0, [], [], true⟩) up &&
    (acts (.learnRunEnd true) ({ longOn (inRun 8) 0x206 .profileEngine with learn := some ⟨0, false, 250, 1, [0, 20000], false, true⟩ })
  fun t => t.learn == none && t.rb (Reg.ltAttr 0) 24) &&
    (acts (.learnRunEnd false) ({ longOn (inRun 8) 0x206 .profileEngine with learn := some ⟨0, false, 250, 1, [], false, false⟩ })
  fun t => t.hasFlt Acct.landingTable 0) &&
    acts (.learnRunEnd true) up &&
    (acts (.slotEraseDone true) (longOn (granted up 0x51) 0xC05 .stagingSlot [0, 0, 0, 0, 9]) fun t =>
  t.slotOf (!up.mint.runB) == .bytes [9]) &&
    acts (.slotEraseDone false) (longOn (granted up 0x51) 0xC05 .stagingSlot [0, 0, 0, 0, 9]) &&
    acts (.slotEraseDone true) up &&
    (acts (.longCommandTimeout .mint) (longOn up 0xC02 .mint) fun t => t.tel.done.length == 1) &&
    (acts (.longCommandTimeout .ledger) (longOn up 0xB04 .ledger) fun t => !t.ldg.releasing) &&
    acts (.longCommandTimeout .stagingSlot) (longOn up 0xC05 .stagingSlot) &&
    (acts (.longCommandTimeout .profileEngine) ({ longOn (inRun 8) 0x206 .profileEngine with
  learn := some ⟨0, false, 250, 1, [], false, false⟩ }) fun t => t.learn == none) &&
    (acts (.longCommandTimeout (.door 0)) (longOn (door 10) 0x402 (.door 0)) fun t => t.doorCode 0 == 0xB) &&
    acts (.longCommandTimeout (.can 3)) up) = true := by decide +kernel

/-- MACHINE with the set in this safety state. -/
def safe (st : SafeState) : State := { machine with cpt := { machine.cpt with st := st } }

/-- SOLO stationary in the run state with its door chain closed, its contactors off and no pair assigned. -/
def stopped : State :=
  { (full up).wb Reg.fusMstat 2 true with cpt := { up.cpt with st := .runPermitted } }

/-- Cycles with a new demand and without one, in the states whose step is given (SafetyCycle). -/
theorem witness_safety_cycle :
    (acts (.safeCycle 5) { up with role := .none } &&
    ((safe .ready).cptRuns && acts (.safeCycle 5) ((safe .ready).wf (Reg.csState 8) 0 3 3) fun t =>
  t.cpt.st == .tripped && nbit t.latchedCauses 7 && t.rf Reg.tnDelay 0 16 == 5) &&
    (acts (.safeCycle 5) (safe .tripped) fun t => t.cpt.st == .tripped) &&
    (acts (.safeCycle 5) (safe .lockout) fun t => t.cpt.st == .lockout) &&
    (acts (.safeCycle 5) (safe .ready) fun t => t.cpt.st == .ready) &&
    (acts (.safeCycle 5) { stopped with cpt := { stopped.cpt with st := .ready } } fun t => t.cpt.st == .runPermitted) &&
    (acts (.safeCycle 5) (safe .runPermitted) fun t => t.cpt.st == .runPermitted) &&
    (acts (.safeCycle 5) (safe .parked) fun t => t.cpt.st == .ready)) = true := by decide +kernel

/-- The monitors and the timers, each where it can occur (SafetyMonitorsAct). -/
theorem witness_safety_monitors :
    (((let s := (safe .ready).setEn (State.inBase 0) true; meets s (s.edmInput 0 == some 0 &&
        s.inLevel 0 == s.cptOn 0))) &&
    acts (.edmTimeout 7) up &&
    ((let s := { safe .ready with cpt := { (safe .ready).cpt with on := 1, missed := 2 } }; meets s ((s.outsRole 1).any s.cptOn))) &&
    (acts .reqLost { safe .ready with cpt := { (safe .ready).cpt with on := 1, missed := 1 } }
        fun t => t.cpt.st == .ready) &&
    (stopped.stillNow && stopped.chainClosed && stopped.contactorsFree && acts .parkDelayExpiry stopped
        fun t => t.cpt.st == .parked) &&
    acts .parkDelayExpiry up &&
    (acts .proofTestDue { safe .ready with vault := { up.vault with proofDays := 366 } }
        fun t => t.ldg.intake.length == 1) &&
    (acts .proofTestDue { safe .ready with vault := { up.vault with proofDays := 365 } } fun t => t.ldg.intake == []) &&
    (acts .safeParamStagingExpiry { up with cpt := { up.cpt with staged := [1], stagedTotal := 9 } }
        fun t => t.cpt.staged == []) &&
    (acts .supplyCauseClear (up.wb Reg.safeCause 8 true) fun t => !t.rb Reg.safeCause 8) &&
    acts .supplyCauseClear (up.setFlt Acct.supplyMonitor 1) &&
    (meets up up.cptRuns && meets { up with role := .none } (!{ up with role := .none }.cptRuns)) &&
    acts (.lockstepMismatch true) { up with role := .none }) = true := by decide +kernel

/-- Input 5 enabled with the shortest filter, one tick short of its new level. -/
def input5 : State :=
  let s := (up.setEn (State.inBase 5) true).wf (Reg.inCfg 5) 0 8 1
  { s with fio := { s.fio with cnt := updAt s.fio.cnt 5 fun _ => 10 } }

/-- Pair 7 formed and enabled, in this state. -/
def pair7 (st : Nat) : State := ((up.setGroup (Acct.sp 7) true 0).setEn (Acct.sp 7) true).setPairState 7 st

/-- Source 3 switched on and pulsing. -/
def tpo3 : State := ((up.setEn (Acct.tpc 3) true).wb Reg.tpStat 3 true).wb (Reg.tpoCfg 3) 0 true

/-- Input ticks, samples in HUSH, pairs that disagree and recover, and the sources (InputsAreFiltered). -/
theorem witness_inputs :
    ((acts (.inputTick 0x20) input5 fun t => t.inLevel 5) &&
    (acts (.inputTick 0x20) (input5.setFlt (State.inBase 5) 1) fun t => !t.inLevel 5) &&
    acts (.inputTick 0) { up with pwr := .hush } &&
    (acts (.hushInputSample 0x800000000020) { input5 with pwr := .hush } fun t => t.r Reg.inRawL == 0x20) &&
    acts (.hushInputSample 0) up &&
    (acts (.pairDisc 7) (pair7 1) fun t => t.pairState 7 == 2) &&
    (acts (.pairDisc 7) ((pair7 0).setFlt (Acct.ina 7) 1) fun t => t.pairState 7 == 2) &&
    acts (.pairDisc 0) up &&
    (acts (.pairRecover 7) (pair7 3) fun t => t.pairState 7 == 0) &&
    (acts (.pairRecover 7) (pair7 2) fun t => t.pairState 7 == 2) &&
    (acts (.tpoPulse 3 true) tpo3 fun t => t.rb Reg.tpStat 7) &&
    acts (.tpoPulse 0 true) up &&
    (acts (.tpoFault 3 .overload) tpo3 fun t => !t.rb Reg.tpStat 3) &&
    (acts (.tpoFault 3 .pulse) tpo3 fun t => t.hasFlt (Acct.tpc 3) 2) &&
    acts (.tpoFault 0 .pulse) up) = true := by decide +kernel

/-- Output 31, of no safety role, switched on; and OUT24 of the set. -/
def out31 : State := granted (((up.setEn (State.outBase 31) true).wb Reg.outOn 31 true).wb Reg.outCmd 31 true) 31
def out24 : State := { safe .ready with cpt := { (safe .ready).cpt with on := 1 } }

/-- Outputs 0 and 1 a gang that is on. -/
def gang0 : State := setRs ((up.setGroup (Acct.gp 0) true 0).setEn (Acct.gp 0) true) [(Reg.outOn, 3), (Reg.outCmd, 3)]

/-- A slot, and each fault of an output, of a SAFETY output and of a gang (OutputFaultsReact). -/
theorem witness_output_faults :
    ((acts (.darkPulseSlot 31 0 [] []) up fun t => t.r Reg.outRb == 0) &&
    (acts (.darkPulseSlot 31 0x80000000 [] []) up
        fun t => t.hasFlt (State.outBase 31) 1 || t.hasFlt (State.outBase 31) 2) &&
    acts (.darkPulseSlot 1 3 [] []) gang0 &&
    acts (.darkPulseSlot 0 0 [] []) gang0 &&
    (acts (.outOverload 31) out31 fun t => t.rb Reg.outLatch 31 && !t.outOn 31) &&
    (acts (.outThermal 31) out31 fun t => t.hasFlt (State.outBase 31) 4) &&
    (meets out24 (out24.outOn 24 && out24.safetyOut 24)) &&
    acts (.outThermal 0) up &&
    (acts (.outOpenLoad 31) ((out31.wb (Reg.outCfg 31) 25 true).wf (Reg.outCfg 31) 2 6 2)
        fun t => t.hasFlt (State.outBase 31) 5) &&
    (acts (.outOpenLoad 31) ((out31.wb (Reg.outCfg 31) 25 true).wf (Reg.outCfg 31) 2 6 1)
        fun t => !t.hasFlt (State.outBase 31) 5) &&
    (acts (.gangShare 0 1) gang0 fun t => t.hasFlt (Acct.gp 0) 0) &&
    acts (.gangShare 15 31) gang0 &&
    (acts (.couplerLoss (.input 47)) up fun t => t.hasFlt (State.inBase 47) 3) &&
    acts (.couplerLoss (.capture 3)) up &&
    (acts (.couplerLoss (.output 31)) out31 fun t => !t.outOn 31) &&
    (acts (.couplerLoss (.testpulse 3)) tpo3 fun t => !t.rb Reg.tpStat 3)) = true := by decide +kernel

/-- A request of 100 for output 5 that waits, and the same consumer shed with its conditions clear. -/
def waiting : State :=
  { up with purse := updAt up.purse 0 fun p => { p with waits := [⟨5, 2, 100, [], 0, false, false, none⟩] } }
def shed : State :=
  { waiting with purse := updAt waiting.purse 0 fun p => { p with shed := [⟨5, 2, 1, some 0⟩] } }

/-- A decision, a restore, a deficit at its edge and an inrush's end (PowerIsGranted, first part). -/
theorem witness_purse :
    ((acts (.purseDecision 7 8) waiting fun t => t.hasGrant 5 && t.rf (Reg.purseMeas 1) 0 16 == 8) &&
    (acts .purseRestore shed fun t => t.hasGrant 5 && !t.isShed 5) &&
    acts .purseRestore up &&
    (acts (.overMeasure 1) (up.wf (Reg.purseMeas 1) 0 16 (up.purseLim 1 / 10 + 1)) fun t => t.hasFlt (Acct.purse 1) 2) &&
    (acts (.overMeasure 1) (up.wf (Reg.purseMeas 1) 0 16 (up.purseLim 1 / 10)) fun t => !t.hasFlt (Acct.purse 1) 2) &&
    (acts (.inrushEnd 5) { up with purse := updAt up.purse 0 fun p => { p with grants := [⟨5, 2, 100, [(50, 3)]⟩] } } fun t =>
  t.granted 0 == 100)) = true := by decide +kernel

/-- VF samples at the edges of a threshold, and each supply (PowerIsGranted, second part). -/
theorem witness_supplies :
    (meets up (decide (up.vfLevel ≤ 4)) &&
    acts (.vfSample 24000) { up with vf := List.replicate 20 24000 } &&
    meets up (!nbit up.latchedCauses 8) &&
    (acts (.supplyFault .vbatLow 2000) up fun t => t.hasFlt Acct.supplyMonitor 2) &&
    acts (.supplyFault .vfOver 1) up &&
    (acts (.supplyFault .vddLow 3000) up fun t => t.hasFlt Acct.supplyMonitor 6) &&
    (acts (.sensOvercurrent 1) (up.wb Reg.supStat 17 true) fun t => t.hasFlt Acct.supplyMonitor 5) &&
    acts (.sensOvercurrent 0) up) = true := by decide +kernel

/-- The clocks on and the vault crystal running. -/
def clocks : State := (up.wb Reg.clkStat 0 true).setXtal true

/-- The counts of a window with every clock exact, rounded to a count. -/
def exact : List Nat := [390625, 195313, 97656, 78125, 39063, 24414, 24414]

/-- Windows good and bad, the crystal, the PLL and the cross-check (ClocksAndPowerStates, first part;
VaultCrystalStops). -/
theorem witness_clocks :
    ((clocks.clocksRun && clocks.xtalOk && clocks.cptRuns && exact.length == 7 && acts (.clockWindow exact) clocks
        fun t =>
  !nbit t.activeCauses 9) &&
    (meets clocks (State.clockBad 6 0 && !State.clockBad 6 24414)) &&
    acts (.clockWindow exact) (up.wb Reg.clkStat 0 false) &&
    (acts .vaultXtalResumed (clocks.setXtal false) fun t => t.xtalOk) &&
    acts .vaultXtalResumed clocks &&
    meets up (up.rst.phase != .inReset) &&
    (acts .pllLoss { up with pwr := .vault } fun t => t.pwr == .vault) &&
    meets clocks (clocks.audRuns 1)) = true := by decide +kernel

/-- The ways out of DOZE and HUSH (ClocksAndPowerStates, second part). -/
theorem witness_wakes :
    ((acts .dozeWake { up with pwr := .doze } fun t => t.pwr == .run) &&
    acts .dozeWake up &&
    (acts (.hushWake 9) { up with pwr := .hush } fun t => t.rf Reg.pwrStat 4 4 == 9) &&
    (acts (.hushWake 0) { up with pwr := .hush } fun t => t.pwr == .hush) &&
    (acts (.canWake 3) { (up.setEn (Acct.canc 3) true).wb (Reg.canCfg 3) 3 true with pwr := .hush }
        fun t => t.rf Reg.pwrStat 4 4 == 5) &&
    (acts (.canWake 0) { up with pwr := .hush } fun t => t.pwr == .hush)) = true := by decide +kernel

/-- A March pass of bank 9 in progress, with its grant. -/
def marching : State :=
  { granted up 0x69 with tel := { up.tel with longs := [⟨⟨.cmd, 0xA01, 0x77, 0, 0, 1, 9, []⟩, [.bank 9], []⟩] } }

/-- Stalls at the edge of R422, refusals, March passes, the round and the scrub (BanksAreTested). -/
theorem witness_banks :
    ((acts (.bankStall 26 4 65) up fun t => t.hasFlt (Acct.bank 26) 2) &&
    (acts (.bankStall 0 1 64) up fun t => !t.hasFlt (Acct.bank 0) 2) &&
    (acts (.bankStall 0 5 65535) up fun t => t.rf (Reg.bankStall 0) 16 16 == 65535) &&
    (acts (.srAccessRefused 1) up fun t => t.hasFlt (Acct.bank 25) 6) &&
    (acts (.marchDone []) marching fun t => t.rb Reg.marchLast 8) &&
    (acts (.marchDone [16383]) marching fun t => t.hasFlt Acct.marchEngine 1) &&
    acts (.marchDone []) up &&
    (meets (granted up 0x64) (State.wordsIn [16383] 1 && up.audRuns 2 && !up.unitHeld (State.bankUnits [4]))) &&
    (acts (.preservingMarchB04 []) (granted up 0x64) fun t => !t.hasGrant 0x64) &&
    acts (.preservingMarchB04 []) { up with rst := { up.rst with phase := .bootHold } } &&
    meets (up.wf Reg.marchRound 16 16 20) up.cptRuns &&
    (acts .b04MarchOverdue (up.wf Reg.marchRound 16 16 19) fun t => !nbit t.latchedCauses 10) &&
    (State.wordsIn [32767] 2 && up.roundBank == some 0 && acts (.preservingMarchRound []) (granted up 0x60) fun t =>
  t.rf Reg.marchRound 0 5 == 1) &&
    acts (.preservingMarchRound []) { up with rst := { up.rst with phase := .bootHold } } &&
    (acts (.eccScrub [] []) up fun t => t.rf (Reg.bankScrub 26) 16 16 == 1) &&
    (acts (.eccScrub [(26, 16383)] []) up fun t => t.rf (Reg.bankEcc 26) 0 16 == 1) &&
    (([0, 1, 2, 3] : List Nat).all fun u => (let s := up.wf (Reg.bankUse 0) 0 8 u; meets s (s.bankUnit 0 == u &&
        s.bankPwrNow 0 == 0))) &&
    acts (.eccScrub [] []) { up with pwr := .vault }) = true := by decide +kernel

/-- The Auditor's activities, each with values that pass and that do not (AuditorWorks, second part). -/
theorem witness_auditor :
    ((acts (.doorAdcCalibration 0 [8392, 8192, 7992, 8192] [200, 0, 0, -200]) ((door 1).updDoor 0
        fun d => { d with stage := .off })) &&
    acts (.doorAdcCalibration 1 [0, 0, 0, 0] [0, 0, 0, 0]) up &&
    (let s := (door 1).updDoor 0 fun d => { d with stage := .off }; s.doorLive 0 && s.doorStill 0 && s.audRuns 4 &&
  acts (.doorAdcCalibration 0 [8393, 8192, 8192, 8192] [0, 0, 0, 0]) s fun t => t.hasFlt (Acct.doorPort 0) 6) &&
    (acts (.thresholdSelfCheck (List.replicate 48 (10, 3))) (up.wb Reg.audCfg 0 true) fun t => t.aud.thr.length == 48) &&
    (acts (.thresholdSelfCheck (List.replicate 48 (0, 0))) (up.wb Reg.audCfg 0 true) fun t => t.aud.bad.contains 47) &&
    (acts (.telemetrySample [32767, -32768, 0, 0]) up fun t => t.rf (Reg.telTemp 1) 0 16 == 0x8000) &&
    (acts .auditHour (up.wb Reg.audCfg 1 true) fun t => t.aud.vfLo == 0xFFFF) &&
    acts .auditHour (up.wb Reg.audCfg 1 false) &&
    (acts (.flashPatrol [1, 5]) (up.wb Reg.audCfg 2 true) fun t => t.hasFlt Acct.auditorCore 3) &&
    (meets (granted (up.wb Reg.audCfg 2 true) 0x50) ((up.wb Reg.audCfg 2 true).audRuns 9 && up.ldg.erase == none)) &&
    acts (.flashPatrol []) (up.wb Reg.audCfg 2 false) &&
    (acts .paramWearManagement (granted up 0x50) fun t => !t.hasGrant 0x50) &&
    acts .paramWearManagement { up with pwr := .hush } &&
    (acts (.auditLate 9) (up.wb Reg.audCfg 2 true) fun t => t.rb Reg.audLate 9) &&
    (acts (.auditLate 7) up fun t => !t.rb Reg.audLate 7)) = true := by decide +kernel

/-- The Ledger running, with one event that waits. -/
def ledger1 : State :=
  match exec (.ledgerIntakeArrival 0x10 3 9) { up with ldg := { up.ldg with running := true } } with
  | .next t => t
  | _ => up

/-- Arrivals, commits, erases, the summary of drops and the end of a freeze (LedgerKeepsRecords). -/
theorem witness_ledger :
    ((acts (.ledgerIntakeArrival 1 3 9) up fun t => t.ldg.intake.length == 1) &&
    (acts (.ledgerIntakeArrival 0x1FFF 3 9) up fun t => t.ldg.intake == []) &&
    acts (.ledgerCommit true) ledger1 &&
    acts (.ledgerCommit false) up &&
    acts .ledgerErase { up with ldg := { up.ldg with running := true, erase := some ⟨255, true, false⟩ } } &&
    (let s := { up with ldg := { up.ldg with running := true, erase := some ⟨255, true, false⟩ } }; acts .ledgerErase (granted s 0x50)
  fun t => t.ldg.erase == some ⟨255, false, false⟩) &&
    (acts (.ledgerEraseDone true) { up with ldg := { up.ldg with erase := some ⟨255, false, false⟩ } }
        fun t => t.ldg.erase == none) &&
    (acts (.ledgerEraseDone false) { up with ldg := { up.ldg with erase := some ⟨0, false, false⟩ } } fun t =>
  (t.secAt 0).st == .retired) &&
    (acts (.ledgerEraseDone true) { up with ldg := { up.ldg with erase := some ⟨255, false, true⟩, releasing := true } } fun t =>
  !t.ldg.releasing) &&
    acts (.ledgerEraseDone true) up &&
    (acts .ledgerDrop { up with ldg := { up.ldg with sumArmed := true } } fun t => !t.ldg.sumArmed) &&
    acts .ledgerDrop up &&
    (acts .freezeTimeout { up with ldg := { up.ldg with frozen := some 1 } } fun t => t.ldg.frozen == none) &&
    acts .freezeTimeout up) = true := by decide +kernel

/-- An operand that the host's port cannot bring is refused, a check each. -/
theorem test_ill_formed_host :
    ((illFormed (.registerWrite 2 (.par16 true 0 true true)) && illFormed (.registerWrite 0x1000000 (.qspi 0))) &&
    (illFormed (.par16LowHalfWrite 0x40000 0 true true) && illFormed (.rcRegisterRead 3 (.par16 false))) &&
    (illFormed (.snapshotRead 0x1000000 .qspi) && illFormed (.mirrorWindowRead 0x20002 (.par16 false) false false)) &&
    (illFormed (.mirrorWindowWrite 0x40000 (.par16 true 0 true true)) &&
        illFormed (.badAddressAccess 1 (.read (.par16 true)))) &&
    (illFormed (.badAddressAccess 1 (.write (.par16 true 0 true true))) &&
        illFormed (.comptrollerRangeWrite 0x6001 (.par16 true 0 true true))) &&
    (illFormed (.qspiRead 0x1000000 1) && illFormed (.qspiSnap 0x1000000 1) &&
        illFormed (.qspiWrite 0x1000000 [] false)) &&
    (([0x6B, 0x6C, 0x32, 0x05] : List Byte).all fun c => illFormed (.qspiUnknownCommand c)) &&
    (illFormed (.accCtlEnWrite 1 (.par16 true 0 true true)) &&
        illFormed (.accCtlConsolidateWrite 1 (.par16 true 0 true true))) &&
    (illFormed (.accCtlHoldWrite 1 (.par16 true 0 true true)) &&
        illFormed (.accCtlCntClr 1 (.par16 true 0 true true) false)) &&
    illFormed (.accFltW1c 1 (.par16 true 0 true true) 0)) = true := by decide +kernel

/-- An occurrence that its cell, bus or clock cannot bring is refused, a check each. -/
theorem test_ill_formed_occurrences :
    ((illFormed (.accSample 0 [1, 2, 3, 4, 5]) && illFormed (.clockWindow [1, 2, 3, 4, 5, 6]) &&
        illFormed (.clockCrossCheck [])) &&
    illFormed (.canRxFrame 0 ⟨false, 0x800, false, false, false, false, 0, []⟩ false) &&
    illFormed (.canRxFrame 0 ⟨false, 1, true, true, false, false, 0, []⟩ false) &&
    illFormed (.canRxFrame 0 ⟨false, 1, false, false, true, false, 0, []⟩ false) &&
    illFormed (.canRxFrame 0 ⟨false, 1, false, false, false, true, 0, []⟩ false) &&
    illFormed (.canRxFrame 0 ⟨false, 1, false, false, false, false, 2, [1]⟩ false) &&
    (illFormed (.linkFrameRx (List.replicate 235 0)) && illFormed (.csPdu 0 (List.replicate 33 0))) &&
    (illFormed (.preservingMarchB04 [16384]) && illFormed (.preservingMarchRound [32768])) &&
    (illFormed (.eccScrub [(0, 16384)] []) && illFormed (.eccScrub [] [(26, 16384)])) &&
    (illFormed (.doorAdcCalibration 0 [1, 2, 3] [1, 2, 3, 4]) && illFormed (.doorAdcCalibration 0 [1, 2, 3, 4] [])) &&
    (illFormed (.thresholdSelfCheck []) && illFormed (.telemetrySample [1, 2, 3]) && illFormed (.telemetrySample [0, 0,
        0, 32768])) &&
    (illFormed (.telemetrySample [0, -32769, 0, 0]) && illFormed (.flashPatrol [0]))) = true := by decide +kernel

/-- The table gives no row any bits, so no word spells a command and none is put in front. -/
theorem test_decode_none :
    (decodeTableWord 32 0xFFFFFFFF == none && (up.withFetchWord 32 7).pending == []) = true := by decide +kernel

/-- A step runs the command in front on the queue's rest, and on an empty queue counts the Till (StepRunsFront,
IdleStepIsOneTillCount). -/
theorem witness_step :
    (match step { up with pending := [.nop .cmd, .mirrorUpdate] }, step up with
      | .next t, .next u => t.pending == [.mirrorUpdate] && u.till == up.till + 1 && up.tillRuns && up.link.trim == 0
      | _, _ => false) = true := by decide +kernel

/-- A state with the invariant in which a step answers a next state (EveryStepKeepsInvariant, ExecKeepsTheQueue). -/
theorem witness_invariant : invB State.reset && invB up && acts .mirrorUpdate up = true := by decide +kernel

/-- Commands that each of the checks refuses (CommandsAreChecked; CommandHasItsRowsEffect has its witness in each
command that runs). -/
theorem witness_checked_commands :
    ((let s := put up 0x101 0x7F0000 []; let i := Instr.paramRead .cmd; invB s &&
        (match s.front .cmd State.paramReadRow with
  | some (c, s1) => (State.paramReadRow.pre c s1).isSome && acts i s fun t => t.tel.done.length == 1
  | none => false)) &&
    (let s := { put up 0x105 0 [] with tel := { up.tel with longs := [⟨⟨.cmd, 0x103, 1, 0, 0, 1, 0, []⟩, [.paramStore], []⟩] } }; invB s &&
  (match s.front .cmd (State.paramDefaultsRow true) with
    | some (c, s1) => s1.unitHeld ((State.paramDefaultsRow true).units c) && acts (.paramDefaults .cmd true) s fun t =>
      t.tel.done.any fun d => d.status == 1
    | none => false)) &&
    (acts (.nop .cmd) (put up 1 5 [] 4) fun t => t.tel.done.any fun d => d.status == 10 && d.peer && d.loc) &&
    (acts (.nop .cmd) (put { up with rst := { up.rst with phase := .bootHold } } 1 5 []) fun t => t.tel.done.any fun d =>
  d.status == 5 && d.result == 4) &&
    (acts (.nop .cmd) (put { up with role := .none } 1 5 []) fun t => t.tel.done.any fun d => d.status == 5 &&
        d.result == 6) &&
    (let s := { put up 1 5 [] with tel := { up.tel with bad := [up.ringSlot 0 0] } }; meets s ((s.badSlots 0 1 != []) && s.mayFetch &&
  (match s.ringFront .cmd with | some (c, n, _, _) => c.opcode == 1 && n == 1 && !c.peer | none => false))) &&
    (acts (.paramRead .urg) (put up 0x101 0x10408 [] 2 1) fun t => t.tel.done.any fun d => d.status == 2 &&
        d.result == 1)) = true := by decide +kernel

/-- The module in VAULT, and held by BOR. -/
def vaulted : State := { up with pwr := .vault }
def held : State := { up with rst := { up.rst with borHeld := true } }

/-- What the world shows at a release. -/
def env (pll : Bool) : BootEnv := ⟨3, false, false, pll, false, [], false, false, [], false⟩

/-- Each reset trigger, in a running module and where it does nothing (ResetsReachTheirScope). -/
theorem witness_resets :
    ((acts (.powerOn true) up fun t => t.vault.lost && t.vault.gen == 1) &&
    (acts (.powerOn false) up fun t => t.rst.kind == .por && t.regs == []) &&
    (acts (.powerOn false) { vaulted with vault := { up.vault with gen := 5 } } fun t => t.vault.gen == 5 &&
        t.pwr != .vault) &&
    (acts .brownOut up fun t => t.rst.borHeld && t.rst.kind == .bor) &&
    (acts .brownOut vaulted fun t => t.pwr == .vault) &&
    (acts .borRelease held fun t => !t.rst.borHeld) &&
    (acts (.vaultEntry true) held fun t => t.pwr == .vault) &&
    (acts (.vaultEntry false) held fun t => t.vault.lost) &&
    (acts (.vaultEntry true) up fun t => t.pwr != .vault) &&
    (acts .nrstLow up fun t => t.rst.nrst && t.rst.kind == .pin) &&
    (acts .tellerWatchdogExpiry up fun t => t.rst.kind == .wdt && t.rst.phase == .inReset) &&
    (acts .delayedSoftReset { up with rst := { up.rst with softDue := true } } fun t => t.rst.kind == .soft) &&
    acts .delayedSoftReset up &&
    (acts .lifeReset { up with rst := { up.rst with lifeDue := true } } fun t => t.rst.kind == .life) &&
    acts .lifeReset up) = true := by decide +kernel

/-- Releases that boot, that find no PLL, that stay in BOOT_HOLD, that find bad copies and that do nothing
(ReleaseBootsTheModule). -/
theorem witness_release :
    ((meets State.reset (State.reset.pwr != .vault && !State.reset.rst.borHeld)) &&
    (acts (.resetRelease (env false)) State.reset fun t => t.rst.phase == .noPll) &&
    (acts (.resetRelease (env true)) { State.reset with banks := { State.reset.banks with wipeFail := true } } fun t =>
  t.rst.phase == .bootHold) &&
    (acts (.resetRelease { env true with badCopies := [(.pairRecord, false), (.pairRecord, true), (.repairMap, true)] })
  { State.reset with banks := { State.reset.banks with mapB := false, wipeFail := true },
                     mint := { State.reset.mint with pairRec := some ⟨true, [], 2, []⟩ } }
  fun t => t.mint.pairRec == none && t.banks.mapB && t.rst.phase == .bootHold) &&
    (acts (.resetRelease (env true)) up fun t => t.rst.phase == .running) &&
    acts (.resetRelease (env true)) held &&
    acts (.resetRelease (env true)) vaulted) = true := by decide +kernel

/-- Tamper decisions with VDD up and in VAULT, and ones that are not taken (TamperIsAnswered). -/
theorem witness_tamper :
    ((acts (.tamperInput 1 ⟨false, false⟩) { up with vault := { up.vault with tampCfg := 3 } } fun t =>
  t.banks.wipeFail && nbit t.vault.tamper 1) &&
    (acts (.tamperInput 0 ⟨true, true⟩) { up with vault := { up.vault with tampCfg := 0 } }
        fun t => t.rst.phase == .running) &&
    (acts (.tamperMonitor .voltage ⟨true, true⟩) up fun t => nbit t.vault.tamper 2 && t.rst.kind == .tamper) &&
    (acts (.tamperMonitor .clock ⟨true, true⟩) up fun t => nbit t.vault.tamper 3) &&
    (acts (.tamperMonitor .clock ⟨true, true⟩) vaulted fun t => !nbit t.vault.tamper 3) &&
    (acts (.tamperMonitor .temperature ⟨true, true⟩) vaulted fun t => nbit t.vault.tamper 4 &&
        t.pwr == .vault)) = true := by decide +kernel

/-- The Shortchange armed and acting with perturbation `k`. -/
def armed (k : Nat) : State :=
  { (up.wb Reg.scStat 0 true).wb Reg.scStat k true with aud := { up.aud with scLive := true }, cpt := { up.cpt with st := .ready } }

/-- The arming's end, the perturbations that occupy, and the scan by its codes (ShortchangeAndScan). -/
theorem witness_shortchange :
    ((acts .scDurationExpiry (armed 8) fun t => !t.rb Reg.scStat 0) &&
    acts .scDurationExpiry up &&
    ((armed 3).scOn 3 && acts .scCanLockHold ((armed 3).setEn (Acct.obj 0) true)
        fun t => (t.canAt 0).session == some ⟨0, 0, true⟩) &&
    acts .scCanLockHold up &&
    (acts .scCanHoldEnd (up.updCan 0 fun c => { c with session := some ⟨0, 0, true⟩ })
        fun t => (t.canAt 0).session == none) &&
    (acts .scCanHoldEnd (up.updCan 0 (fun c => { c with session := some ⟨0, 0, true⟩, wanted := some 7 }) |>.setEn (Acct.obj 7) true)
  fun t => (t.canAt 0).session == some ⟨7, 0, false⟩) &&
    (acts .scCanHoldEnd (up.updCan 0 fun c => { c with session := some ⟨0, 0, false⟩ })) &&
    (acts .scBankStall (armed 8) fun t => t.rf Reg.scCnt 0 32 == 1) &&
    acts .scBankStall up &&
    ((match exec (.boundaryScan 3 0 0) up with | .refused .debugUnit => up.life == 0 | _ => false)) &&
    acts (.boundaryScan 3 0 0) vaulted &&
    (acts (.boundaryScan 0 5 7) up fun t => t.jtag.cells == 5) &&
    (acts (.boundaryScan 2 5 7) up fun t => t.jtagDrive == none) &&
    (acts (.boundaryScan 1 0 0) up fun t => t.jtag.dout == 0x14832A6B) &&
    (acts (.boundaryScan 15 2 0) up fun t => t.jtag.dout.getLsbD 2) &&
    (acts (.boundaryScan 3 2 0) (lifeTo up 1) fun t => t.jtag.dout.getLsbD 2) &&
    acts (.boundaryScan 14 2 0) State.reset) = true := by decide +kernel

/-- A complete line waits in Q14. -/
def typed (s : State) (l : String) : State := { s with con := { s.con with input := ascii l ++ [0x0D], chars := 0 } }

/-- `s`'s console takes this line as a command of `k`, and the command acts. -/
def takes (i : Instr) (k : ConCmd) (s : State) (l : String) (f : State → Bool := fun _ => true) : Bool :=
  (typed s l).conWords k == some (ConText.words (ascii l)) && acts i (typed s l) f

/-- `s` has the invariant and its console takes this line as a command of `k`. -/
def asks (k : ConCmd) (s : State) (l : String) : Bool :=
  meets (typed s l) ((typed s l).conWords k == some (ConText.words (ascii l)))

/-- SERVICE with a login made on the console. -/
def serving : State := (login (lifeTo up 3)).wf Reg.lifeState 4 2 1

/-- A SERVICE output that OUT may switch: 31 of class SERVICE, enabled. -/
def service31 : State := parked ((serving.wf (Reg.outCfg 31) 0 2 3).setEn (State.outBase 31) true)

/-- Bytes at the edges of R541, output and a display (ConsoleTakesBytes). -/
theorem witness_console_bytes :
    ((acts (.consoleByte 0x41) { up with rst := { up.rst with phase := .inReset } } fun t => t.con.input == []) &&
    (acts (.consoleByte 0x20) up fun t => t.con.input == [0x20]) &&
    (acts (.consoleByte 0x7E) { up with con := { up.con with input := List.replicate 256 0x41 } }
        fun t => t.con.overrun) &&
    (acts (.consoleByte 0x41) { up with con := { up.con with input := List.replicate 250 0x41, chars := 250 } }
        fun t => t.con.long) &&
    (acts (.consoleByte 0x41) { up with con := { up.con with input := List.replicate 249 0x41, chars := 249 } } fun t =>
  t.con.chars == 250) &&
    (acts (.consoleByte 0x41) { up with con := { up.con with display := some .safe } } fun t => t.con.display == none) &&
    (acts (.consoleByte 0x0D) { up with con := { up.con with overrun := true } } fun t => !t.con.overrun) &&
    (acts (.consoleByte 0x0D) { up with con := { up.con with long := true } } fun t => !t.con.long) &&
    (acts (.consoleByte 0x0D) { up with con := { up.con with input := ascii "WHO", chars := 3 } } fun t =>
  t.con.input == ascii "WHO" ++ [0x0D]) &&
    (acts .consoleOutputSent { up with con := { up.con with output := [1, 2] } } fun t => t.con.output == [2]) &&
    acts .consoleOutputSent { up with con := { up.con with output := [] } } &&
    meets { up with con := { up.con with display := some .safe } } true &&
    acts .consoleDisplayLine up) = true := by decide +kernel

/-- Each showing command is taken from its line, and without it does nothing (ConsoleShows). -/
theorem witness_console_shows :
    ((takes .help .help up "HELP" && acts .help up) &&
    (takes .who .who up "WHO" && takes .who .who { up with rst := { up.rst with phase := .bootHold } } "WHO 1") &&
    (takes .stat .stat up "STAT" && takes .consolePair .pair (paired up) "PAIR" && takes .life .life serving "LIFE") &&
    (takes .audit .audit up "AUDIT" && takes .auditBanks .auditBanks up "AUDIT BANKS" &&
        takes .auditSc .auditSc up "AUDIT SC") &&
    (takes .io .io up "IO CAP" && takes .io .io up "IO IN" && takes .io .io up "IO OUT" && takes .io .io up "IO X") &&
    (takes .ledger .ledger up "LEDGER" && takes .ledger .ledger up "LEDGER 100" &&
        takes .ledger .ledger up "LEDGER 101") &&
    asks .meter up "METER" &&
    takes (.meter [1, 2]) .meter up "METER OUT31" &&
    (asks .display up "STAT SAFE" && asks .display up "STAT X")) = true := by decide +kernel

/-- OUT with each of R543's errors, and accepted (ConsoleActs, first part). -/
theorem witness_console_out :
    ((ConText.number (ascii "31") == some 31 && asks .out up "OUT 31 ON" && up.life != 3) &&
    (asks .out { service31 with cpt := up.cpt } "OUT 31 ON" && serving.life == 3 && serving.conLogin) &&
    asks .out (service31.wf (Reg.outCfg 31) 0 2 2) "OUT 31 ON" &&
    asks .out (service31.setEn (State.outBase 31) false) "OUT 31 ON" &&
    (asks .out service31 "OUT 31 ON" && service31.outClass 31 == 3 && !service31.outMember 31 &&
        !service31.rb Reg.outLatch 31) &&
    asks .out service31 "OUT 31 OFF") = true := by decide +kernel

/-- The console's login commands in each case that is told apart (ConsoleActs, second part). No signature can pass
here, since its test is a free value of log 61. -/
theorem witness_console_login :
    ((asks .login up "LOGIN" && up.conMayLogin && up.vault.lockSecs == 0) &&
    asks .login { up with vault := { up.vault with lockSecs := 9 } } "LOGIN" &&
    (asks .login (lifeTo up 4) "LOGIN" && !(lifeTo up 4).conMayLogin) &&
    (takes .loginPlus .loginPlus up "LOGIN +00FF" fun t => t.con.cert == [0, 255]) &&
    asks .loginPlus { up with con := { up.con with cert := List.replicate 2399 0 } } "LOGIN +00FF" &&
    (asks .loginEnd up "LOGIN END 5" && !up.conChal) &&
    asks .loginEnd { up with mint := { up.mint with chal := some (1, [], 0) } } "LOGIN END 0" &&
    takes .loginOff .loginOff up "LOGIN OFF" &&
    (takes .loginOff .loginOff { serving with mint := { up.mint with login := some ⟨1, 5⟩ } } "LOGIN OFF"
        fun t => t.mint.login == none)) = true := by decide +kernel

/-- BOOT_HOLD, with LOAD waiting for the bytes from `n` on. -/
def rom (n : Nat) : State :=
  { up with rst := { up.rst with phase := .bootHold }, con := { up.con with load := some (true, n) } }

/-- LOAD, its D lines and its E line (RomLoadsImages; the D line's CRC is that of R454's check bytes). -/
theorem witness_rom :
    ((asks .load (rom 0) "LOAD A" && asks .load (rom 0) "LOAD C") &&
    (asks .dataLine (rom 0) "D 00000000 313233343536373839 E3069283" &&
        ConText.hexBytes (ascii "E3069283") == some [0xE3, 6, 0x92, 0x83]) &&
    asks .dataLine (rom 0) "D 00000000 313233343536373839 E3069284" &&
    (asks .dataLine (rom 3) "D 00000000 313233343536373839 E3069283" && ConText.digits 16 (ascii "00000000") == some 0) &&
    asks .endLine (rom 0) "E") = true := by decide +kernel

/-- The conditions of the rules stated whole (InvalidHallStates, MirrorWindowIsReadOnly, BadIndexesAreIgnored; CRC-32C
of nine bytes). -/
theorem witness_stated :
    ((hall1.runs (Acct.hall 1) && hall1.en (Acct.hall 1) && hall1.rf (Reg.hallState 1) 0 3 == 1 && invB hall1) &&
    (writeAddrOk 0x23FFC (.qspi 0) && qsp.serves true && writeAddrOk 0x20000 (.par16 true 0 true true) &&
        par.serves false) &&
    (up.tel.noticed && up.pwr == .run && invB up &&
        ((latch up Reg.tellerDbCmd 5).commits Reg.tellerDbCmd (high 5)).isSome) &&
    (crc32c (ascii "123456789") == 0xE3069283)) = true := by decide +kernel

end Sys2Proof.Tests
end

section
/-! PROOF. Which counters of a queue belong to the host (R57): QPROD of CMD and URG, QCONS of every other ring. Neither
posting an event nor answering commands changes one. -/

namespace Sys2Proof.Machine.State

theorem queue_updQ_self (s : State) {n : Nat} (f : Queue → Queue) (h : n < s.queues.length) :
    (s.updQ n f).queue n = f (s.queue n) := getD_updAt_eq _ _ _ _ h

theorem queue_updQ_ne (s : State) {n k : Nat} (f : Queue → Queue) (h : k ≠ n) : (s.updQ n f).queue k = s.queue k :=
  getD_updAt_ne _ _ _ h

theorem updQ_keeps {α : Type} (g : Queue → α) (s : State) (n k : Nat) {f : Queue → Queue} (hf : ∀ x, g (f x) = g x) :
    g ((s.updQ n f).queue k) = g (s.queue k) := by
  by_cases hk : k = n
  · subst hk
    by_cases hl : k < s.queues.length
    · rw [queue_updQ_self s f hl, hf]
    · have hout : (s.updQ k f).queue k = s.queue k := by
        unfold queue
        rw [updQ_queues, List.getD_eq_default _ _ (by rw [updAt_length]; omega), List.getD_eq_default _ _ (by omega)]
      rw [hout]
  · rw [queue_updQ_ne s f hk]

/-- From `s` to `t` no counter that the host owns changed (R57). -/
def HostCounters (s t : State) : Prop :=
  (∀ q, q < 2 → (t.queue q).prod = (s.queue q).prod) ∧ ∀ q, 2 ≤ q → (t.queue q).cons = (s.queue q).cons

namespace HostCounters

theorem of_queues {s t : State} (h : t.queues = s.queues) : s.HostCounters t := by
  simp [HostCounters, queue, h]

theorem refl (s : State) : s.HostCounters s := of_queues rfl

theorem trans {s t u : State} (h : s.HostCounters t) (h' : t.HostCounters u) : s.HostCounters u :=
  ⟨fun q hq => (h'.1 q hq).trans (h.1 q hq), fun q hq => (h'.2 q hq).trans (h.2 q hq)⟩

theorem ite {s t u : State} {c : Prop} [Decidable c] (h : s.HostCounters t) (h' : s.HostCounters u) :
    s.HostCounters (if c then t else u) := by
  split
  · exact h
  · exact h'

end HostCounters

/-- The device produces into a ring whose consumer is the host. -/
theorem updQ_hostCounters_device (s : State) {n : Nat} {f : Queue → Queue} (hn : 2 ≤ n) (hf : ∀ x, (f x).cons = x.cons) :
    s.HostCounters (s.updQ n f) :=
  ⟨fun q hq => by rw [queue_updQ_ne s f (by omega)], fun q _ => updQ_keeps Queue.cons s n q hf⟩

/-- The device consumes from a ring whose producer is the host. -/
theorem updQ_hostCounters_host (s : State) {n : Nat} {f : Queue → Queue} (hn : n < 2) (hf : ∀ x, (f x).prod = x.prod) :
    s.HostCounters (s.updQ n f) :=
  ⟨fun q _ => updQ_keeps Queue.prod s n q hf, fun q hq => by rw [queue_updQ_ne s f (by omega)]⟩

theorem qPosted_hostCounters (s : State) {n : Nat} (k : Nat) (hn : 2 ≤ n) : s.HostCounters (s.qPosted n k) :=
  updQ_hostCounters_device s hn fun _ => rfl

theorem qDrop_hostCounters (s : State) {n : Nat} (hn : 2 ≤ n) : s.HostCounters (s.qDrop n) :=
  updQ_hostCounters_device s hn fun _ => rfl

/-! Posting an event (R70). -/

theorem intakeTake_hostCounters (e : Entry) (s : State) : s.HostCounters (intakeTake e s) :=
  (qPosted_hostCounters s 1 (n := 5) (by decide)).trans (.of_queues rfl)

theorem intakeDrop_hostCounters (e : Entry) (s : State) : s.HostCounters (intakeDrop e s) :=
  (qDrop_hostCounters s (n := 5) (by decide)).trans (.of_queues rfl)

theorem intakeOrder_hostCounters (e : Entry) (s : State) : s.HostCounters (intakeOrder e s) := by
  have hdrop := intakeDrop_hostCounters e s
  have htake := intakeTake_hostCounters e s
  unfold intakeOrder
  refine .ite (.ite (.of_queues rfl) hdrop) (.ite (.ite htake (.of_queues rfl)) ?_)
  split
  · exact .of_queues rfl
  · exact .ite htake hdrop

theorem intakeArrive_hostCounters (e : Entry) (s : State) : s.HostCounters (intakeArrive e s) :=
  .ite (intakeOrder_hostCounters e s) (.refl s)

theorem tel_hostCounters (s : State) (x : Teller) : s.HostCounters { s with tel := x } := .of_queues rfl

theorem pushRing_hostCounters (s : State) {n : Nat} (bs : List Byte) (hn : 2 ≤ n) : s.HostCounters (s.pushRing n bs) :=
  .trans (t := s.setRingBytes (s.ringSlot n (s.queue n).prod) bs) (.of_queues rfl) (updQ_hostCounters_device _ hn fun _ => rfl)

theorem evtPush_hostCounters (s : State) (e : Event) : s.HostCounters (s.evtPush e) :=
  (pushRing_hostCounters s (n := 4) _ (by decide)).trans (tel_hostCounters _ _)

theorem evtLost_hostCounters (s : State) : s.HostCounters s.evtLost :=
  (qDrop_hostCounters s (n := 4) (by decide)).trans (.of_queues rfl)

theorem evtOverflow_hostCounters (s : State) : s.HostCounters s.evtOverflow :=
  (evtPush_hostCounters s _).trans (tel_hostCounters _ _)

theorem evtArrive_hostCounters (e : Event) (s : State) : s.HostCounters (evtArrive e s) := by
  have hlost := evtLost_hostCounters s
  unfold evtArrive
  exact .ite (.refl s) <| .ite (.of_queues rfl) <| .ite (.ite (.of_queues rfl) hlost) <| .ite hlost <|
    .ite (evtPush_hostCounters s e) <| .ite (hlost.trans (evtOverflow_hostCounters _)) hlost

theorem postEvent_hostCounters (s : State) (e : Event) : s.HostCounters (s.postEvent e) :=
  (intakeArrive_hostCounters _ s).trans (evtArrive_hostCounters e _)

theorem endFreeze_hostCounters (s : State) (d : Nat) : s.HostCounters (s.endFreeze d) :=
  .ite (.trans (t := s.updLdg fun l => { l with frozen := none }) (.of_queues rfl) (postEvent_hostCounters _ _)) (.refl s)

theorem post_hostCounters (s : State) (k : EvKind) (src detail : Nat) : s.HostCounters (s.post k src detail) :=
  .trans (t := s.freezeCheck k.cls) (.ite (endFreeze_hostCounters s 2) (.refl s)) (postEvent_hostCounters _ _)

/-! Answering the commands at the front of CMD and URG (R64, R421, R552). -/

theorem eccFlag_hostCounters (s : State) (k word detail : Nat) : s.HostCounters (s.eccFlag k word detail) :=
  .trans (t := ((s.addF (Reg.bankEcc k) 16 16 1).eccAddr k word true).setFlt (Acct.bank k) 1) (.of_queues rfl)
    (post_hostCounters _ _ _ _)

theorem eccReads_hostCounters (l : List Nat) (s : State) : s.HostCounters (s.eccReads l) := by
  induction l generalizing s with
  | nil => exact .refl s
  | cons a l ih => exact (eccFlag_hostCounters s _ _ _).trans (ih _)

theorem release_hostCounters (s : State) {q : Nat} (n : Nat) (hq : q < 2) : s.HostCounters (s.release q n) :=
  .trans (t := s.updQ q fun x => { x with cons := (x.cons + n) % 65536 }) (updQ_hostCounters_host s hq fun _ => rfl)
    (.of_queues rfl)

theorem dropOrphans_hostCounters (s : State) {q : Nat} (hq : q < 2) : s.HostCounters (s.dropOrphans q) :=
  .ite (.refl s) ((release_hostCounters s _ hq).trans (.of_queues rfl))

theorem tunPost_hostCounters (s : State) (kind : Nat) (body : List Byte) : s.HostCounters (s.tunPost kind body) :=
  (qPosted_hostCounters s 1 (n := 8) (by decide)).trans (.of_queues rfl)

theorem complete_hostCounters (s : State) (c : Cmd) (rp : Reply) : s.HostCounters (s.complete c rp) :=
  .ite (.trans (.ite (.refl s) (tunPost_hostCounters s _ _)) (tunPost_hostCounters _ _ _)) (.of_queues rfl)

theorem drainRing_hostCounters {src : Src} (hsrc : srcRing src < 2) (k : Nat) (s : State) :
    s.HostCounters (drainRing src k s) := by
  induction k generalizing s with
  | zero => exact .refl s
  | succ k ih =>
    have horph := dropOrphans_hostCounters s hsrc
    unfold drainRing
    refine .ite (.refl s) ?_
    dsimp only
    split
    · refine .ite horph (horph.trans ?_)
      exact ((eccReads_hostCounters _ _).trans (release_hostCounters _ _ hsrc)).trans <|
        (complete_hostCounters _ _ _).trans (ih _)
    · exact horph

theorem drain_hostCounters (s : State) : s.HostCounters s.drain :=
  (drainRing_hostCounters (src := .urg) (by decide) 8 s).trans (drainRing_hostCounters (src := .cmd) (by decide) 64 _)

end Sys2Proof.Machine.State
end

section
/-! PROOF. A host write that commits (R43, R46), the doorbells and the QCONS writes (R58). -/

namespace Sys2Proof.Machine.State

/-- The pad nHIRQ is of the port alone. -/
theorem irqStep_port (s : State) : ∃ p, s.irqStep = { s with port := p } := by
  unfold irqStep
  dsimp only
  split
  · split
    · exact ⟨s.port, rfl⟩
    · exact ⟨_, rfl⟩
  · split
    · exact ⟨_, rfl⟩
    · exact ⟨s.port, rfl⟩

@[simp] theorem irqStep_queue (s : State) (q : Nat) : s.irqStep.queue q = s.queue q := by
  obtain ⟨p, hp⟩ := irqStep_port s
  rw [hp]
  rfl

theorem qspiWake_of_awake {s : State} (h : s.pwr ≠ .hush) : s.qspiWake = s := by
  simp [qspiWake, wake, h]

/-- The state in which a word commits differs in the port alone. -/
theorem commits_port {s s1 : State} {a : Nat} {acc : WAcc} {v : Word} (h : s.commits a acc = some (v, s1)) :
    ∃ f, s1 = s.updPort f := by
  unfold commits at h
  split at h
  · split at h
    · simp only [Option.ite_none_right_eq_some, Option.some.injEq, Prod.mk.injEq] at h
      obtain ⟨-, -, rfl⟩ := h
      exact ⟨_, rfl⟩
    · cases h
  · cases h
  · simp only [Option.ite_none_right_eq_some, Option.some.injEq, Prod.mk.injEq] at h
    obtain ⟨-, -, rfl⟩ := h
    exact ⟨id, rfl⟩

/-- A word that commits is a write that the port carries; nHIRQ follows it. -/
theorem writeAt_of_commits {s s1 : State} {a : Nat} {acc : WAcc} {v : Word} (x : WriteEnv)
    (h : s.commits a acc = some (v, s1)) : writeAt a acc x s = .next (s1.commitWord a v x).irqStep := by
  unfold commits at h
  split at h
  case h_1 d =>
    split at h
    case h_1 b l hl =>
      simp only [Option.ite_none_right_eq_some, Option.some.injEq, Prod.mk.injEq, Bool.and_eq_true, Bool.not_eq_true',
        beq_iff_eq, decide_eq_true_eq] at h
      obtain ⟨⟨⟨⟨⟨hsel, hlive⟩, rfl⟩, halign⟩, hrange⟩, rfl, rfl⟩ := h
      have hcarried : writeAddrOk b (.par16 true d true true) = true := by
        simp only [writeAddrOk, par16Addr, Bool.and_eq_true, decide_eq_true_eq, beq_iff_eq]; omega
      have hwin : ¬ 0x28000 ≤ b := by omega
      have hmirror : ¬ (0x20000 ≤ b ∧ b < 0x24000) := by omega
      simp [writeAt, hcarried, hostWrite, hsel, par16Write, hlive, hwin, hmirror, hl, updPort]
    case h_2 => cases h
  case h_2 => cases h
  case h_3 w =>
    simp only [Option.ite_none_right_eq_some, Option.some.injEq, Prod.mk.injEq, Bool.and_eq_true, bne_iff_ne,
      beq_iff_eq, decide_eq_true_eq] at h
    obtain ⟨⟨⟨⟨⟨hsel, hlive⟩, hawake⟩, halign⟩, hrange⟩, rfl, rfl⟩ := h
    have hcarried : writeAddrOk a (.qspi w) = true := by
      simp only [writeAddrOk, qspiAddr, decide_eq_true_eq]; omega
    have hword : a / 4 * 4 = a := by omega
    simp [writeAt, hcarried, hostWrite, hsel, hlive, qspiWake_of_awake hawake, hword]

/-- A word of the class registers below the Comptroller goes by its register row. -/
theorem commitWord_class (s : State) {a : Nat} {r : RegRow} (v : Word) (x : WriteEnv) (ha : a < 0x6000)
    (hh : headerAt a = none) (hr : Reg.find a = some r) : s.commitWord a v x = s.writeClass a r v := by
  have hap : s.apertureAt a = none := by
    unfold apertureAt
    rw [if_neg (by omega)]
  have hres : s.resolve a = a := by simp [resolve, hap]
  unfold commitWord writeReg
  rw [if_pos (by omega), if_neg (by omega)]
  simp only [hres, hh, hr]

theorem commitWord_dbCmd (s : State) (v : Word) (x : WriteEnv) : s.commitWord Reg.tellerDbCmd v x = s.doorbell 0 v := by
  obtain ⟨r, hr⟩ := Option.isSome_iff_exists.mp (show (Reg.find Reg.tellerDbCmd).isSome = true by decide +kernel)
  rw [commitWord_class s v x (by decide) (by decide +kernel) hr, writeClass, if_pos rfl]

theorem commitWord_dbUrg (s : State) (v : Word) (x : WriteEnv) : s.commitWord Reg.tellerDbUrg v x = s.doorbell 1 v := by
  obtain ⟨r, hr⟩ := Option.isSome_iff_exists.mp (show (Reg.find Reg.tellerDbUrg).isSome = true by decide +kernel)
  rw [commitWord_class s v x (by decide) (by decide +kernel) hr, writeClass, if_neg (by decide), if_pos rfl]

/-- Each queue has a word QCONS, outside the headers. -/
theorem qcons_isRegister (q : Fin 16) : headerAt (Reg.qcons q.val) = none ∧ (Reg.find (Reg.qcons q.val)).isSome = true := by
  revert q
  decide +kernel

theorem commitWord_qcons (s : State) (q : Fin 16) (v : Word) (x : WriteEnv) :
    s.commitWord (Reg.qcons q.val) v x = s.writeQcons q.val v := by
  obtain ⟨hh, hr⟩ := qcons_isRegister q
  obtain ⟨r, hr⟩ := Option.isSome_iff_exists.mp hr
  have hq := q.isLt
  have hidx : (Reg.qcons q.val - 0x1100) / 0x40 = q.val := by simp only [Reg.qcons]; omega
  rw [commitWord_class s v x (by simp only [Reg.qcons]; omega) hh hr, writeClass]
  rw [if_neg (by simp only [Reg.qcons, Reg.tellerDbCmd]; omega), if_neg (by simp only [Reg.qcons, Reg.tellerDbUrg]; omega),
    if_pos (by simp only [Reg.qcons]; omega), hidx]

/-- ACC_FLT.bad_index of queue `q` sets (R58). -/
def flagIndex (s : State) (q : Nat) : State := s.updQ q fun x => { x with flt := putBit x.flt 1 true }

/-- The doorbell value `p` of ring `q` is beyond the depth or a step backwards (R58). -/
abbrev BadDoorbell (s : State) (q p : Nat) : Prop :=
  s.qdepth q < (p + 65536 - (s.queue q).cons) % 65536 ∨ s.qdepth q < (p + 65536 - (s.queue q).prod) % 65536

theorem doorbell_running {s : State} (q : Nat) (v : Word) (hn : s.tel.noticed = true) (hp : s.pwr = .run) :
    s.doorbell q v = if s.BadDoorbell q (fld v 0 16) then s.flagIndex q
      else (s.updQ q fun x =>
        { x with prod := fld v 0 16, cnt := satN 0xFFFFFFFF (x.cnt + (fld v 0 16 + 65536 - (s.queue q).prod) % 65536) }).drain := by
  simp only [doorbell, hn, wake, leaveDoze, hp, flagIndex, Bool.not_true, Bool.false_eq_true, if_false, ne_eq, reduceCtorEq,
    not_false_eq_true, if_true]

theorem doorbell_good {s : State} {q : Nat} {v : Word} (hn : s.tel.noticed = true) (hp : s.pwr = .run)
    (hl : q < s.queues.length) (hq : q < 2) (hgood : ¬ s.BadDoorbell q (fld v 0 16)) :
    ((s.doorbell q v).queue q).prod = fld v 0 16 := by
  rw [doorbell_running q v hn hp, if_neg hgood, (drain_hostCounters _).1 q hq, queue_updQ_self s _ hl]

/-- The rings whose QCONS the host writes (R57). -/
abbrev hostConsumed : List Nat := [2, 3, 4, 10, 11, 12, 13]

theorem writeQcons_hostConsumed (s : State) {q : Nat} (v : Word) (hm : q ∈ hostConsumed) :
    s.writeQcons q v = if s.qfill q < (fld v 0 16 + 65536 - (s.queue q).cons) % 65536 then s.flagIndex q
      else (s.updQ q fun x => { x with cons := fld v 0 16 }).drain := by
  have hc : hostConsumed.contains q = true := List.contains_iff_mem.mpr hm
  exact if_neg (by rw [hc]; decide)

theorem writeQcons_good {s : State} {q : Nat} {v : Word} (hm : q ∈ hostConsumed) (hl : q < s.queues.length)
    (hgood : ¬ s.qfill q < (fld v 0 16 + 65536 - (s.queue q).cons) % 65536) :
    ((s.writeQcons q v).queue q).cons = fld v 0 16 := by
  have hq : 2 ≤ q := (show ∀ n ∈ hostConsumed, 2 ≤ n by decide) q hm
  rw [writeQcons_hostConsumed s v hm, if_neg hgood, (drain_hostCounters _).2 q hq, queue_updQ_self s _ hl]

/-- A flagged write changes the queue's ACC_FLT and the port alone. -/
theorem flagIndex_irqStep_frame (s : State) (f : Port → Port) (q : Nat) :
    let t := ((s.updPort f).flagIndex q).irqStep
    t = { s with queues := t.queues, port := t.port } ∧ t.queues = (s.flagIndex q).queues := by
  obtain ⟨p, hp⟩ := irqStep_port ((s.updPort f).flagIndex q)
  dsimp only
  rw [hp]
  exact ⟨rfl, rfl⟩

end Sys2Proof.Machine.State

namespace Sys2Proof.Machine
open State

/-- A doorbell of ring `q` under R58. -/
theorem doorbell_answers {i : Instr} {q a : Nat} {acc : WAcc} {v : Word} {s s1 : State} (hinv : s.Inv)
    (hn : s.tel.noticed = true) (hp : s.pwr = .run) (hq : q < 2) (hexec : exec i s = writeAt a acc {} s)
    (hreg : ∀ u : State, u.commitWord a v {} = u.doorbell q v) (hc : s.commits a acc = some (v, s1)) :
    Answers i s fun t =>
      if s.BadDoorbell q (fld v 0 16) then
        t = { s with queues := t.queues, port := t.port } ∧ t.queues = (s.flagIndex q).queues
      else (t.queue q).prod = fld v 0 16 := by
  obtain ⟨f, rfl⟩ := commits_port hc
  obtain ⟨-, ⟨hlen, -⟩, -⟩ := hinv
  refine ⟨_, hexec.trans (writeAt_of_commits {} hc), ?_⟩
  rw [hreg]
  split
  case isTrue hbad =>
    have hbad' : (s.updPort f).BadDoorbell q (fld v 0 16) := hbad
    rw [doorbell_running q v (show (s.updPort f).tel.noticed = true from hn) hp, if_pos hbad']
    exact flagIndex_irqStep_frame s f q
  case isFalse hgood =>
    rw [irqStep_queue]
    exact doorbell_good (s := s.updPort f) hn hp (show q < s.queues.length by omega) hq hgood

/-- A QCONS write of a ring that the device produces under R58. -/
theorem qcons_answers {q : Fin 16} {acc : WAcc} {v : Word} {s s1 : State} (hinv : s.Inv) (hm : q.val ∈ hostConsumed)
    (hc : s.commits (Reg.qcons q.val) acc = some (v, s1)) :
    Answers (.qconsWrite q acc) s fun t =>
      if s.qfill q.val < (fld v 0 16 + 65536 - (s.queue q.val).cons) % 65536 then
        t = { s with queues := t.queues, port := t.port } ∧ t.queues = (s.flagIndex q.val).queues
      else (t.queue q.val).cons = fld v 0 16 := by
  obtain ⟨f, rfl⟩ := commits_port hc
  obtain ⟨-, ⟨hlen, -⟩, -⟩ := hinv
  have hq := q.isLt
  have hexec : exec (.qconsWrite q acc) s = writeAt (Reg.qcons q.val) acc {} s := rfl
  refine ⟨_, hexec.trans (writeAt_of_commits {} hc), ?_⟩
  rw [commitWord_qcons]
  split
  case isTrue hbad =>
    have hbad' : (s.updPort f).qfill q.val < (fld v 0 16 + 65536 - ((s.updPort f).queue q.val).cons) % 65536 := hbad
    rw [writeQcons_hostConsumed (s.updPort f) v hm, if_pos hbad']
    exact flagIndex_irqStep_frame s f q.val
  case isFalse hgood =>
    rw [irqStep_queue]
    exact writeQcons_good (s := s.updPort f) hm (show q.val < s.queues.length by omega) hgood

/-- Settles O57: an ignored index only flags its queue, and the answering of commands that follows an accepted one keeps
the counter that the host wrote. -/
theorem badIndexesAreIgnored : Obligations.BadIndexesAreIgnored := by
  unfold Obligations.BadIndexesAreIgnored
  intro s s1 acc v hinv hn hp
  refine ⟨fun i q a hi hc => ?_, fun q hm hc => qcons_answers hinv hm hc⟩
  simp only [List.mem_cons, Prod.mk.injEq, List.not_mem_nil, or_false] at hi
  obtain ⟨rfl, rfl, rfl⟩ | ⟨rfl, rfl, rfl⟩ := hi
  · exact doorbell_answers (i := .tellerDbCmd acc) hinv hn hp (by decide) rfl (commitWord_dbCmd · v {}) hc
  · exact doorbell_answers (i := .tellerDbUrg acc) hinv hn hp (by decide) rfl (commitWord_dbUrg · v {}) hc

end Sys2Proof.Machine
end

section
/-! PROOF. Bit fields and the counters of the host port (R43, R52), and a write in the mirror window (R52). -/

namespace Sys2Proof.Machine

/-- A word with a field replaced: the bits above, the new field, the bits below. -/
theorem putFld_toNat (w : Word) {lo n : Nat} (v : Nat) (h : lo + n ≤ 32) :
    (putFld w lo n v).toNat = 2 ^ lo * (2 ^ n * (w.toNat / 2 ^ (lo + n)) + v % 2 ^ n) + w.toNat % 2 ^ lo := by
  have hw : w.toNat / 2 ^ (lo + n) < 2 ^ (32 - (lo + n)) := by
    rw [Nat.div_lt_iff_lt_mul (Nat.two_pow_pos _), ← pow_add, Nat.sub_add_cancel h]
    exact w.isLt
  have hv : v % 2 ^ n < 2 ^ n := Nat.mod_lt _ (Nat.two_pow_pos n)
  have hlow : w.toNat % 2 ^ lo < 2 ^ lo := Nat.mod_lt _ (Nat.two_pow_pos lo)
  have hsplit : w.toNat = 2 ^ lo * (2 ^ n * (w.toNat / 2 ^ (lo + n)) + fld w lo n) + w.toNat % 2 ^ lo := by
    rw [fld, pow_add, ← Nat.div_div_eq_div_mul, Nat.div_add_mod, Nat.div_add_mod]
  have hbound : 2 ^ lo * (2 ^ n * (w.toNat / 2 ^ (lo + n)) + v % 2 ^ n) + w.toNat % 2 ^ lo < 2 ^ 32 := by
    calc 2 ^ lo * (2 ^ n * (w.toNat / 2 ^ (lo + n)) + v % 2 ^ n) + w.toNat % 2 ^ lo
        < 2 ^ lo * (2 ^ n * (w.toNat / 2 ^ (lo + n)) + v % 2 ^ n + 1) := by rw [Nat.mul_succ]; omega
      _ ≤ 2 ^ lo * (2 ^ n * (w.toNat / 2 ^ (lo + n) + 1)) := Nat.mul_le_mul_left _ (by rw [Nat.mul_succ]; omega)
      _ ≤ 2 ^ lo * (2 ^ n * 2 ^ (32 - (lo + n))) := Nat.mul_le_mul_left _ (Nat.mul_le_mul_left _ hw)
      _ = 2 ^ 32 := by rw [← pow_add, ← pow_add]; congr 1; omega
  rw [putFld, BitVec.toNat_ofNat, ← Nat.mod_eq_of_lt hbound]
  congr 1
  rw [Nat.mul_add] at hsplit ⊢
  rw [Nat.mul_comm (fld w lo n), Nat.mul_comm (v % 2 ^ n)]
  omega

theorem fld_putFld_same (w : Word) {lo n : Nat} (v : Nat) (h : lo + n ≤ 32) : fld (putFld w lo n v) lo n = v % 2 ^ n := by
  rw [fld, putFld_toNat w v h, Nat.mul_add_div (Nat.two_pow_pos lo), Nat.div_eq_of_lt (Nat.mod_lt _ (Nat.two_pow_pos lo)),
    Nat.add_zero, Nat.mul_add_mod, Nat.mod_mod]

/-- A field above the replaced one keeps its value. -/
theorem fld_putFld_above (w : Word) {lo n lo' : Nat} (n' v : Nat) (h : lo + n ≤ 32) (hlo : lo + n ≤ lo') :
    fld (putFld w lo n v) lo' n' = fld w lo' n' := by
  have htop : (putFld w lo n v).toNat / 2 ^ (lo + n) = w.toNat / 2 ^ (lo + n) := by
    rw [putFld_toNat w v h, pow_add 2 lo n, ← Nat.div_div_eq_div_mul _ (2 ^ lo), Nat.mul_add_div (Nat.two_pow_pos lo),
      Nat.div_eq_of_lt (Nat.mod_lt _ (Nat.two_pow_pos lo)), Nat.add_zero, Nat.mul_add_div (Nat.two_pow_pos n),
      Nat.div_eq_of_lt (Nat.mod_lt _ (Nat.two_pow_pos n)), Nat.add_zero]
  obtain ⟨k, rfl⟩ := Nat.exists_eq_add_of_le hlo
  rw [fld, fld, pow_add, ← Nat.div_div_eq_div_mul, htop, Nat.div_div_eq_div_mul]

namespace State

theorem addF_rf_same {s : State} (hs : s.RegsWf) (a : Nat) {lo n : Nat} (k : Nat) (h : lo + n ≤ 32) :
    (s.addF a lo n k).rf a lo n = satN (2 ^ n - 1) (s.rf a lo n + k) := by
  have hsat : satN (2 ^ n - 1) (s.rf a lo n + k) < 2 ^ n := by
    have := Nat.two_pow_pos n
    unfold satN
    split <;> omega
  unfold rf at hsat ⊢
  rw [addF, wf, r_w_eq hs, fld_putFld_same _ _ h]
  exact Nat.mod_eq_of_lt hsat

theorem addF_rf_above {s : State} (hs : s.RegsWf) (a : Nat) {lo n lo' : Nat} (n' k : Nat) (h : lo + n ≤ 32)
    (hlo : lo + n ≤ lo') : (s.addF a lo n k).rf a lo' n' = s.rf a lo' n' := by
  unfold rf
  rw [addF, wf, r_w_eq hs, fld_putFld_above _ _ _ h hlo]

theorem addF_wf {s : State} (hs : s.RegsWf) (a lo n k : Nat) : (s.addF a lo n k).RegsWf := w_wf hs _ _

theorem setFlt_wf {s : State} (hs : s.RegsWf) (b i : Nat) : (s.setFlt b i).RegsWf := w_wf hs _ _

theorem setFlt_rf_ne {s : State} (hs : s.RegsWf) {b a : Nat} (i lo n : Nat) (ha : a ≠ b + 0x10) :
    (s.setFlt b i).rf a lo n = s.rf a lo n := by
  unfold rf
  rw [setFlt, wb, r_w_ne hs _ ha]

/-- The words that a count of the port touches: HOST_PORT_STAT, and ACC_FLT with port_error. -/
abbrev portRegs : List Nat := [Reg.hostPortStat, Acct.host + 0x10]

/-- From `s` to `t` only the port and its counters changed. -/
structure PortOnly (s t : State) : Prop where
  frame : t = { s with regs := t.regs, port := t.port }
  regs : s.RegsBut t portRegs

namespace PortOnly

theorem of_port (s : State) (p : Port) : s.PortOnly { s with port := p } := ⟨rfl, fun _ _ => rfl⟩

theorem trans {s t u : State} (h : s.PortOnly t) (h' : t.PortOnly u) : s.PortOnly u where
  frame := by
    have hu := h'.frame
    rw [h.frame] at hu
    exact hu
  regs := fun a ha => (h'.regs a ha).trans (h.regs a ha)

end PortOnly

/-- One count of a port field sets port_error (R60). -/
theorem portCount_one (s : State) (lo : Nat) : s.portCount lo 1 = (s.addF Reg.hostPortStat lo 8 1).setFlt Acct.host 1 := rfl

theorem portCount_portOnly {s : State} (hs : s.RegsWf) (lo : Nat) : s.PortOnly (s.portCount lo 1) where
  frame := rfl
  regs := by
    intro a ha
    simp only [List.mem_cons, List.not_mem_nil, or_false, not_or] at ha
    obtain ⟨hstat, hflt⟩ := ha
    rw [portCount_one, setFlt, wb, r_w_ne (addF_wf hs _ _ _ _) _ hflt, addF, wf, r_w_ne hs _ hstat]

theorem portCount_wf {s : State} (hs : s.RegsWf) (lo : Nat) : (s.portCount lo 1).RegsWf :=
  setFlt_wf (addF_wf hs _ _ _ _) _ _

theorem portCount_rf_same {s : State} (hs : s.RegsWf) {lo : Nat} (h : lo + 8 ≤ 32) :
    (s.portCount lo 1).rf Reg.hostPortStat lo 8 = satN 255 (s.rf Reg.hostPortStat lo 8 + 1) := by
  rw [portCount_one, setFlt_rf_ne (addF_wf hs _ _ _ _) _ _ _ (by decide), addF_rf_same hs _ _ h]
  rfl

theorem portCount_rf_above {s : State} (hs : s.RegsWf) {lo lo' : Nat} (n' : Nat) (h : lo + 8 ≤ 32) (hlo : lo + 8 ≤ lo') :
    (s.portCount lo 1).rf Reg.hostPortStat lo' n' = s.rf Reg.hostPortStat lo' n' := by
  rw [portCount_one, setFlt_rf_ne (addF_wf hs _ _ _ _) _ _ _ (by decide), addF_rf_above hs _ _ _ h hlo]

/-- What comes before a count of mirror_wr: the port alone changes, and the field keeps its value. -/
structure BeforeMirrorWr (s t : State) : Prop where
  only : s.PortOnly t
  wf : t.RegsWf
  count : t.rf Reg.hostPortStat 16 8 = s.rf Reg.hostPortStat 16 8

namespace BeforeMirrorWr

theorem of_port {s : State} (hs : s.RegsWf) (p : Port) : s.BeforeMirrorWr { s with port := p } :=
  ⟨.of_port s p, hs, rfl⟩

theorem trans {s t u : State} (h : s.BeforeMirrorWr t) (h' : t.BeforeMirrorWr u) : s.BeforeMirrorWr u :=
  ⟨h.only.trans h'.only, h'.wf, h'.count.trans h.count⟩

/-- A held low half counts in half_lost, the field below (R43). -/
theorem dropHeld {s : State} (hs : s.RegsWf) : s.BeforeMirrorWr s.dropHeld := by
  unfold State.dropHeld
  split
  · have hp : s.BeforeMirrorWr (s.updPort fun p => { p with wrLatch := none }) := .of_port hs _
    exact hp.trans ⟨portCount_portOnly hp.wf 8, portCount_wf hp.wf 8, portCount_rf_above hp.wf 8 (by decide) (by decide)⟩
  · exact .of_port hs s.port

end BeforeMirrorWr

/-- A write in the mirror window over the port that serves the host is a count of mirror_wr. -/
theorem hostWrite_mirror {s : State} {a : Nat} {acc : WAcc} (x : WriteEnv) (hs : s.RegsWf) (halign : a % 4 = 0)
    (hlo : 0x20000 ≤ a) (hhi : a < 0x24000)
    (hserves : s.serves (match acc with | .qspi _ => true | .par16 .. => false) = true) :
    ∃ u, s.BeforeMirrorWr u ∧ s.hostWrite a acc x = (u.portCount 16 1).irqStep := by
  cases acc with
  | par16 hi d ble bhe =>
    simp only [serves, Bool.and_eq_true, beq_iff_eq] at hserves
    obtain ⟨⟨hsel, hlive⟩, -⟩ := hserves
    have hp : s.BeforeMirrorWr (s.updPort fun p => { p with rdLatch := none }) := .of_port hs _
    refine ⟨_, hp.trans (.dropHeld hp.wf), ?_⟩
    have hwin : ¬ 0x28000 ≤ a := by omega
    simp [hostWrite, hsel, par16Write, hlive, hwin, hlo, hhi]
  | qspi v =>
    simp only [serves, Bool.and_eq_true, beq_iff_eq, Bool.not_true, Bool.false_or, bne_iff_ne] at hserves
    obtain ⟨⟨hsel, hlive⟩, hawake⟩ := hserves
    refine ⟨s, .of_port hs s.port, ?_⟩
    have hword : a / 4 * 4 = a := by omega
    have hreg : ¬ a < 0x20000 := by omega
    simp [hostWrite, hsel, hlive, qspiWake_of_awake hawake, hword, commitWord, hreg, hhi]

end State

open State

/-- Settles O56: the write is one count of mirror_wr, after at most a discarded low half, and nHIRQ follows. -/
theorem mirrorWindowIsReadOnly : Obligations.MirrorWindowIsReadOnly := by
  unfold Obligations.MirrorWindowIsReadOnly
  intro s a acc hinv hok halign hlo hhi hserves
  obtain ⟨⟨hs, -⟩, -⟩ := hinv
  obtain ⟨u, hu, hwrite⟩ := hostWrite_mirror {} hs halign hlo hhi hserves
  obtain ⟨p, hp⟩ := irqStep_port (u.portCount 16 1)
  have hexec : exec (.mirrorWindowWrite a acc) s = .next { u.portCount 16 1 with port := p } := by
    rw [← hp, ← hwrite]
    exact if_pos hok
  have honly : s.PortOnly { u.portCount 16 1 with port := p } :=
    (hu.only.trans (portCount_portOnly hu.wf 16)).trans (.of_port _ p)
  refine ⟨_, hexec, ?_, honly.frame, honly.regs⟩
  rw [← hu.count]
  exact portCount_rf_same hu.wf (by decide)

end Sys2Proof.Machine
end

section
/-! PROOF. The invalid Hall states (R98): what an event's posting leaves in the Ledger's intake, what a stopped door port
leaves of the HALL accounts, and which fields of a HALL account its events keep. -/

namespace Sys2Proof.Machine

/-- A field below the replaced one keeps its value. -/
theorem fld_putFld_below (w : Word) {lo n lo' n' : Nat} (v : Nat) (h : lo + n ≤ 32) (hlo : lo' + n' ≤ lo) :
    fld (putFld w lo n v) lo' n' = fld w lo' n' := by
  have hlow : (putFld w lo n v).toNat % 2 ^ lo = w.toNat % 2 ^ lo := by
    rw [putFld_toNat w v h, Nat.mul_add_mod, Nat.mod_mod]
  have hfld (x : Word) : fld x lo' n' = x.toNat % 2 ^ lo % (2 ^ lo' * 2 ^ n') / 2 ^ lo' := by
    rw [← pow_add, Nat.mod_mod_of_dvd _ (pow_dvd_pow 2 hlo), pow_add, Nat.mod_mul_right_div_self, fld]
  rw [hfld, hfld, hlow]

theorem bit_eq_fld (w : Word) (i : Nat) : bit w i = decide (fld w i 1 = 1) := by
  simp [bit, fld, BitVec.getLsbD, Nat.testBit_eq_decide_div_mod_eq]

theorem updAt_map {α β : Type} (l : List α) (i : Nat) {f : α → α} (g : α → β) (h : ∀ x, g (f x) = g x) :
    (updAt l i f).map g = l.map g := by
  induction l generalizing i with
  | nil => rfl
  | cons x t ih =>
    cases i with
    | zero => simp [updAt, h]
    | succ i => simp [updAt, ih]

namespace State

/-! The events in the Ledger's intake (R460, R461). -/

/-- From `s` to `t` no event left the Ledger's intake. -/
def EventsKept (s t : State) : Prop := s.ldg.intake.map Entry.ev ⊆ t.ldg.intake.map Entry.ev

namespace EventsKept

theorem of_events {s t : State} (h : t.ldg.intake.map Entry.ev = s.ldg.intake.map Entry.ev) : s.EventsKept t := by
  rw [EventsKept, h]
  exact List.Subset.refl _

theorem of_ldg {s t : State} (h : t.ldg = s.ldg) : s.EventsKept t := of_events (by rw [h])

theorem refl (s : State) : s.EventsKept s := of_ldg rfl

theorem trans {s t u : State} (h : s.EventsKept t) (h' : t.EventsKept u) : s.EventsKept u := List.Subset.trans h h'

theorem ite {s t u : State} {c : Prop} [Decidable c] (h : s.EventsKept t) (h' : s.EventsKept u) :
    s.EventsKept (if c then t else u) := by
  split
  · exact h
  · exact h'

end EventsKept

theorem intakeTake_eventsKept (e : Entry) (s : State) : s.EventsKept (intakeTake e s) := by
  simp [EventsKept, intakeTake, updLdg, qPosted]

/-- Joining an entry changes its count, not its event (R461). -/
theorem intakeCoalesce_eventsKept (e : Entry) (i : Nat) (s : State) : s.EventsKept (intakeCoalesce e i s) :=
  .of_events (updAt_map _ i Entry.ev fun _ => rfl)

theorem intakeOrder_eventsKept (e : Entry) (s : State) : s.EventsKept (intakeOrder e s) := by
  have hdrop : s.EventsKept (intakeDrop e s) := .of_events rfl
  have htake := intakeTake_eventsKept e s
  unfold intakeOrder
  refine .ite (.ite (.of_events rfl) hdrop) (.ite (.ite htake (.of_events rfl)) ?_)
  split
  · exact intakeCoalesce_eventsKept e _ s
  · exact .ite htake hdrop

theorem evtPush_ldg (s : State) (e : Event) : (s.evtPush e).ldg = s.ldg := by
  simp [evtPush, pushRing, setRingBytes]

theorem evtOverflow_ldg (s : State) : s.evtOverflow.ldg = s.ldg := by
  simp [evtOverflow, evtPush_ldg]

/-- The EVT ring is none of the Ledger's (R70). -/
theorem evtArrive_ldg (e : Event) (s : State) : (evtArrive e s).ldg = s.ldg := by
  have hlost : s.evtLost.ldg = s.ldg := rfl
  simp only [evtArrive, apply_ite State.ldg, evtPush_ldg, evtOverflow_ldg, hlost, ite_self]

theorem postEvent_ldg (s : State) (e : Event) : (s.postEvent e).ldg = (s.intakeArrive (s.entryOf e false)).ldg :=
  evtArrive_ldg e _

theorem postEvent_eventsKept (s : State) (e : Event) : s.EventsKept (s.postEvent e) :=
  .trans (t := s.intakeArrive (s.entryOf e false)) (.ite (intakeOrder_eventsKept _ s) (.refl s))
    (.of_ldg (evtArrive_ldg e _))

theorem post_eventsKept (s : State) (k : EvKind) (src detail : Nat) : s.EventsKept (s.post k src detail) := by
  have hfreeze : s.EventsKept (s.endFreeze 2) :=
    .ite (.trans (t := s.updLdg fun l => { l with frozen := none }) (.of_events rfl) (postEvent_eventsKept _ _)) (.refl s)
  exact .trans (t := s.freezeCheck k.cls) (.ite hfreeze (.refl s)) (postEvent_eventsKept _ _)

theorem fault_eventsKept (s : State) (b i : Nat) (k : EvKind) (src detail : Nat) :
    s.EventsKept (s.fault b i k src detail) :=
  .trans (t := s.setFlt b i) (.of_ldg rfl) (post_eventsKept _ k src detail)

/-- A posted event is told. -/
theorem post_raised (s : State) (k : EvKind) (src : Nat) {detail : Nat} (hd : detail < 256) :
    s.Raised (s.post k src detail) k src detail := by
  intro hrun hpwr htaken hring hroom
  have hfreeze : s.freezeCheck k.cls = s := if_neg fun h => by unfold intakeFill at h; omega
  let e : Event := { code := k.code, src := src, cls := k.cls, detail := detail % 256, till := s.till, data := [] }
  have hpost : (s.post k src detail).ldg = (s.intakeArrive (s.entryOf e false)).ldg := by
    rw [post, postD, hfreeze, postEvent_ldg]
  have harrive : s.intakeArrive (s.entryOf e false) = s.intakeOrder (s.entryOf e false) := if_pos ⟨hrun, htaken⟩
  refine ⟨s.entryOf e false, ?_, rfl, rfl, Nat.mod_eq_of_lt hd, rfl⟩
  rw [hpost, harrive, intakeOrder_room _ s hpwr hring (by unfold intakeFill; omega)]
  exact List.mem_append_right _ (List.mem_singleton_self _)

/-- An event told stays told while the intake keeps its events. -/
theorem Raised.later {s t u : State} {k : EvKind} {src detail : Nat} (h : s.Raised t k src detail)
    (htu : t.EventsKept u) : s.Raised u k src detail := by
  intro hrun hpwr htaken hring hroom
  obtain ⟨e, hmem, hev⟩ := h hrun hpwr htaken hring hroom
  obtain ⟨e', hmem', heq⟩ := List.mem_map.mp (htu (List.mem_map_of_mem hmem))
  exact ⟨e', hmem', by rw [heq]; exact hev⟩

/-- The registers that decide which events the intake takes: LDG_CFG, and the Shortchange's two. -/
abbrev intakeRegs : List Nat := [Reg.ldgCfg, Reg.scStat, Reg.scRing]

/-- An event told after register writes that do not bear on the intake is told from before them. -/
theorem Raised.after_regs {s u t : State} {k : EvKind} {src detail : Nat} (h : u.Raised t k src detail)
    (hu : u = { s with regs := u.regs }) (hr : ∀ a ∈ intakeRegs, u.r a = s.r a) : s.Raised t k src detail := by
  simp only [List.mem_cons, List.not_mem_nil, or_false, forall_eq_or_imp, forall_eq] at hr
  obtain ⟨hcfg, hstat, hscring⟩ := hr
  have htaken : u.classTaken k.cls = s.classTaken k.cls := by rw [classTaken, hcfg, classTaken]
  have hring : u.scRing 5 = s.scRing 5 := by
    have haud : u.aud = s.aud := by rw [hu]
    simp only [scRing, scOn, rb, haud, hstat, hscring]
  rw [Raised, htaken, hring, hu] at h
  exact h

/-! What a stopped door port leaves of the HALL accounts (R227): their words are 0x2400 to 0x24FF. -/

/-- From `s` to `t` the register words of the HALL accounts and the events in the intake stay. -/
structure SparesHalls (s t : State) : Prop where
  wf : s.RegsWf → t.RegsWf
  words : s.RegsWf → ∀ a, 0x2400 ≤ a → a < 0x2500 → t.r a = s.r a
  events : s.EventsKept t

namespace SparesHalls

theorem of_same {s t : State} (hr : t.regs = s.regs) (hl : t.ldg = s.ldg) : s.SparesHalls t where
  wf h := by rwa [RegsWf, hr]
  words _ a _ _ := by rw [r, hr, r]
  events := .of_ldg hl

theorem refl (s : State) : s.SparesHalls s := of_same rfl rfl

theorem trans {s t u : State} (h : s.SparesHalls t) (h' : t.SparesHalls u) : s.SparesHalls u where
  wf hs := h'.wf (h.wf hs)
  words hs a hlo hhi := (h'.words (h.wf hs) a hlo hhi).trans (h.words hs a hlo hhi)
  events := h.events.trans h'.events

theorem ite {s t u : State} {c : Prop} [Decidable c] (h : s.SparesHalls t) (h' : s.SparesHalls u) :
    s.SparesHalls (if c then t else u) := by
  split
  · exact h
  · exact h'

theorem foldl {β : Type} {f : State → β → State} (h : ∀ (s : State) x, s.SparesHalls (f s x)) (l : List β)
    (s : State) : s.SparesHalls (l.foldl f s) := by
  induction l generalizing s with
  | nil => exact refl s
  | cons x l ih => exact (h s x).trans (ih _)

end SparesHalls

theorem w_sparesHalls (s : State) {a : Nat} (v : Word) (ha : 0x2500 ≤ a) : s.SparesHalls (s.w a v) where
  wf h := w_wf h a v
  words h x _ hx := r_w_ne h v (by omega)
  events := .of_ldg rfl

theorem wf_sparesHalls (s : State) {a : Nat} (lo n v : Nat) (ha : 0x2500 ≤ a) : s.SparesHalls (s.wf a lo n v) :=
  w_sparesHalls s _ ha

theorem wb_sparesHalls (s : State) {a : Nat} (i : Nat) (b : Bool) (ha : 0x2500 ≤ a) : s.SparesHalls (s.wb a i b) :=
  w_sparesHalls s _ ha

theorem post_sparesHalls (s : State) (k : EvKind) (src detail : Nat) : s.SparesHalls (s.post k src detail) where
  wf h := by rwa [RegsWf, post_regs]
  words _ a _ _ := post_r s k src detail a
  events := post_eventsKept s k src detail

theorem fault_sparesHalls (s : State) {b : Nat} (i : Nat) (k : EvKind) (src detail : Nat) (hb : 0x2500 ≤ b + 0x10) :
    s.SparesHalls (s.fault b i k src detail) :=
  (wb_sparesHalls s i true hb).trans (post_sparesHalls _ k src detail)

theorem doorPort_pastHalls (n k : Nat) : 0x2500 ≤ Acct.doorPort n + k := by
  simp only [Acct.doorPort]
  omega

theorem doorState_pastHalls (n : Nat) : 0x2500 ≤ Reg.doorState n := by
  simp only [Reg.doorState]
  omega

theorem purse_pastHalls (k : Nat) :
    0x2500 ≤ Reg.purseLevel k ∧ 0x2500 ≤ Reg.purseReserve k ∧ 0x2500 ≤ Acct.purse k + 0xC := by
  simp only [Reg.purseLevel, Reg.purseReserve, Acct.purse]
  omega

theorem updDoor_sparesHalls (s : State) (n : Nat) (f : Door → Door) : s.SparesHalls (s.updDoor n f) := .of_same rfl rfl

theorem showDoorAcct_sparesHalls (s : State) (n : Nat) : s.SparesHalls (s.showDoorAcct n) :=
  wf_sparesHalls s _ _ _ (doorPort_pastHalls n 0xC)

theorem setOut_sparesHalls (s : State) (n : Nat) (b : Bool) : s.SparesHalls (s.setOut n b) :=
  .ite (.ite (.refl s) (.of_same rfl rfl)) (wb_sparesHalls s n b (by decide))

theorem showPurse_sparesHalls (s : State) (k : Nat) : s.SparesHalls (s.showPurse k) := by
  obtain ⟨hlevel, hreserve, hstat⟩ := purse_pastHalls k
  unfold showPurse
  dsimp only
  refine .trans (.trans ?_ (wf_sparesHalls _ _ _ _ hreserve)) (wb_sparesHalls _ _ _ hstat)
  exact (wf_sparesHalls s _ _ _ hlevel).trans (.ite (.of_same rfl rfl) (.refl _))

theorem updPurse_sparesHalls (s : State) (k : Nat) (f : Purse → Purse) : s.SparesHalls (s.updPurse k f) :=
  .of_same rfl rfl

theorem release1_sparesHalls (s : State) (id : Nat) : s.SparesHalls (s.release1 id) :=
  (updPurse_sparesHalls s _ _).trans (showPurse_sparesHalls _ _)

theorem setCmd_sparesHalls (s : State) (id : Nat) (b : Bool) : s.SparesHalls (s.setCmd id b) :=
  .foldl (fun s n => wb_sparesHalls s n b (by decide)) _ s

theorem unitOff_sparesHalls (s : State) (id : Nat) : s.SparesHalls (s.unitOff id) :=
  .trans (.foldl (fun s n => setOut_sparesHalls s n false) (s.unitOuts id) s) (release1_sparesHalls _ id)

theorem unitOffCmd_sparesHalls (s : State) (id : Nat) : s.SparesHalls (s.unitOffCmd id) :=
  (setCmd_sparesHalls s id false).trans (unitOff_sparesHalls _ id)

theorem buzzOff_sparesHalls (s : State) (n : Nat) : s.SparesHalls (s.buzz n false) :=
  .trans (wb_sparesHalls s 12 false (doorState_pastHalls n)) (.ite (.refl _) (unitOffCmd_sparesHalls _ _))

/-- A move to a state other than NUDGING, where the buzzer starts (R225). -/
theorem toDoor_sparesHalls (s : State) (n : Nat) {code : Nat} (h : code ≠ 6) : s.SparesHalls (s.toDoor n code) := by
  unfold toDoor
  refine .ite (.refl s) ?_
  dsimp only
  rw [if_neg h]
  refine .trans (.trans ?_ (.ite (buzzOff_sparesHalls _ n) (.refl _))) (post_sparesHalls _ _ _ _)
  exact ((wf_sparesHalls s _ _ _ (doorState_pastHalls n)).trans (wf_sparesHalls _ _ _ _ (doorPort_pastHalls n 0xC))).trans
    (showDoorAcct_sparesHalls _ n)

theorem doorFault_sparesHalls (s : State) (n i detail : Nat) : s.SparesHalls (s.doorFault n i detail) := by
  unfold doorFault
  refine .ite (.refl s) ?_
  dsimp only
  refine .trans (.trans (.trans ?_ (updDoor_sparesHalls _ n _)) (.ite ?_ (.refl _))) (toDoor_sparesHalls _ n (by decide))
  · exact .ite (.refl s) (fault_sparesHalls s _ _ _ _ (doorPort_pastHalls n 0x10))
  · exact (wb_sparesHalls _ _ _ (doorState_pastHalls n)).trans (wb_sparesHalls _ _ _ (doorPort_pastHalls n 0xC))

theorem hallStopDoors_sparesHalls (s : State) (h : Nat) : s.SparesHalls (s.hallStopDoors h) :=
  .foldl (fun s n => doorFault_sparesHalls s n 1 1) _ s

theorem hallStepDoors_sparesHalls (s : State) (h : Nat) (fwd : Bool) : s.SparesHalls (s.hallStepDoors h fwd) := by
  refine .foldl (fun s n => ?_) _ s
  refine (updDoor_sparesHalls s n _).trans (.ite ?_ (.refl _))
  exact (updDoor_sparesHalls _ n _).trans (showDoorAcct_sparesHalls _ n)

/-! The fields of a HALL account that its events keep. -/

/-- A field of a register: [lo+width-1:lo] of the word at `addr`. -/
structure RegField where
  addr : Nat
  lo : Nat
  width : Nat

/-- Two fields share no bit. -/
def RegField.Apart (f g : RegField) : Prop := f.addr ≠ g.addr ∨ f.lo + f.width ≤ g.lo ∨ g.lo + g.width ≤ f.lo

/-- The value of a field. -/
abbrev readField (s : State) (f : RegField) : Nat := s.rf f.addr f.lo f.width

/-- From `s` to `t` the field `f` stays. -/
structure KeepsField (f : RegField) (s t : State) : Prop where
  wf : s.RegsWf → t.RegsWf
  read : s.RegsWf → t.readField f = s.readField f

namespace KeepsField

variable {f : RegField} {s t u : State}

theorem of_regs (h : t.regs = s.regs) : KeepsField f s t where
  wf hs := by rwa [RegsWf, h]
  read _ := by rw [readField, rf, r, h, readField, rf, r]

theorem refl (s : State) : KeepsField f s s := of_regs rfl

theorem trans (h : KeepsField f s t) (h' : KeepsField f t u) : KeepsField f s u where
  wf hs := h'.wf (h.wf hs)
  read hs := (h'.read (h.wf hs)).trans (h.read hs)

end KeepsField

theorem SparesHalls.keepsField {f : RegField} {s t : State} (h : s.SparesHalls t) (hlo : 0x2400 ≤ f.addr)
    (hhi : f.addr < 0x2500) : KeepsField f s t where
  wf := h.wf
  read hs := by rw [readField, rf, h.words hs _ hlo hhi, readField, rf]

theorem setFb_keepsField {f : RegField} (s : State) (x : Feedback) : KeepsField f s { s with fb := x } := .of_regs rfl

theorem w_keepsField {f : RegField} (s : State) {a : Nat} (v : Word) (h : f.addr ≠ a) : KeepsField f s (s.w a v) where
  wf hs := w_wf hs a v
  read hs := by rw [readField, rf, r_w_ne hs v h, readField, rf]

theorem wf_keepsField {f : RegField} (s : State) {a lo n : Nat} (v : Nat) (hn : lo + n ≤ 32) (h : f.Apart ⟨a, lo, n⟩) :
    KeepsField f s (s.wf a lo n v) := by
  by_cases ha : f.addr = a
  · refine ⟨fun hs => w_wf hs _ _, fun hs => ?_⟩
    subst ha
    rw [readField, rf, State.wf, r_w_eq hs]
    obtain h | h | h := h
    · exact absurd rfl h
    · exact fld_putFld_below _ v hn h
    · exact fld_putFld_above _ _ v hn h
  · exact w_keepsField s _ ha

theorem fault_keepsField {f : RegField} (s : State) {b i : Nat} (k : EvKind) (src detail : Nat) (hi : i < 32)
    (h : f.Apart ⟨b + 0x10, i, 1⟩) : KeepsField f s (s.fault b i k src detail) :=
  (wf_keepsField s 1 (by omega) h).trans (.of_regs (post_regs _ _ _ _))

theorem fault_hasFlt {s : State} (hs : s.RegsWf) (b : Nat) {i : Nat} (k : EvKind) (src detail : Nat) (hi : i < 32) :
    (s.fault b i k src detail).hasFlt b i = true := by
  rw [hasFlt, fault, post_r, setFlt, wb, r_w_eq hs, bit_eq_fld, putBit, fld_putFld_same _ _ (by omega)]
  rfl

/-- ACC_FLT.invalid of a HALL account. -/
abbrev hallInvalidFlag (n : Nat) : RegField := ⟨Acct.hall n + 0x10, 1, 1⟩
/-- HALL_ERR.invalid. -/
abbrev hallInvalidCount (n : Nat) : RegField := ⟨Reg.hallErr n, 0, 16⟩
/-- HALL_STATE.last_valid. -/
abbrev hallLastValid (n : Nat) : RegField := ⟨Reg.hallState n, 4, 3⟩
/-- HALL_STATE.sector. -/
abbrev hallHeldSector (n : Nat) : RegField := ⟨Reg.hallState n, 8, 3⟩

theorem hasFlt_hallInvalid (s : State) (n : Nat) : s.hasFlt (Acct.hall n) 1 = decide (s.readField (hallInvalidFlag n) = 1) :=
  bit_eq_fld _ _

/-- What tells the invalid events of HALL account n. -/
abbrev hallInvalidFields (n : Nat) : List RegField := [hallInvalidFlag n, hallInvalidCount n]

/-- What an invalid event leaves of HALL_STATE. -/
abbrev hallHeldFields (n : Nat) : List RegField := [hallLastValid n, hallHeldSector n]

/-- A bad event writes consec and ACC_FLT.stop of its HALL account, and none of these fields (R100). -/
theorem hallBad_keepsField {f : RegField} (s : State) {n : Nat} (hn : n < 2)
    (hf : f ∈ hallInvalidFields n ++ hallHeldFields n) : KeepsField f s (s.hallBad n) := by
  have hplace : 0x2400 ≤ f.addr ∧ f.addr < 0x2500 ∧ f.Apart ⟨Reg.hallState n, 16, 2⟩ ∧
      f.Apart ⟨Acct.hall n + 0x10, 3, 1⟩ := by
    simp only [List.cons_append, List.nil_append, List.mem_cons, List.not_mem_nil, or_false] at hf
    obtain rfl | rfl | rfl | rfl := hf <;> simp only [RegField.Apart, Reg.hallState, Reg.hallErr, Acct.hall] <;> omega
  obtain ⟨hlo, hhi, hconsec, hstop⟩ := hplace
  have hrow : KeepsField f s (s.wf (Reg.hallState n) 16 2 (satN 3 (s.rf (Reg.hallState n) 16 2 + 1))) :=
    wf_keepsField s _ (by decide) hconsec
  unfold hallBad
  dsimp only
  split
  · exact (hrow.trans (fault_keepsField _ _ _ _ (by decide) hstop)).trans
      ((hallStopDoors_sparesHalls _ n).keepsField hlo hhi)
  · exact hrow

theorem hallBad_eventsKept (s : State) (n : Nat) : s.EventsKept (s.hallBad n) :=
  .trans (t := s.wf (Reg.hallState n) 16 2 (satN 3 (s.rf (Reg.hallState n) 16 2 + 1))) (.of_ldg rfl) <|
    .ite ((fault_eventsKept _ _ _ _ _ _).trans (hallStopDoors_sparesHalls _ n).events) (.refl _)

/-- The fields that tell invalid events lie in the HALL accounts, outside the words that a transition writes. -/
theorem hallInvalidFields_place {f : RegField} {n : Nat} (hn : n < 2) (hf : f ∈ hallInvalidFields n) :
    (0x2400 ≤ f.addr ∧ f.addr < 0x2500) ∧ f.addr ≠ Reg.hallState n ∧ f.addr ≠ Reg.hallPeriod n ∧
      f.addr ≠ Reg.hallEdgeTillL n ∧ f.addr ≠ Reg.hallEdgeTillH n ∧ f.addr ≠ Acct.hall n + 0x14 := by
  simp only [List.mem_cons, List.not_mem_nil, or_false] at hf
  obtain rfl | rfl := hf <;>
    simp only [Reg.hallState, Reg.hallErr, Reg.hallPeriod, Reg.hallEdgeTillL, Reg.hallEdgeTillH, Acct.hall] <;> omega

section Valid

variable {f : RegField} {n : Nat} (s : State) (st : Nat) (hn : n < 2) (hf : f ∈ hallInvalidFields n)
include hn hf

theorem hallState_keepsField (lo k v : Nat) : KeepsField f s (s.wf (Reg.hallState n) lo k v) :=
  w_keepsField s _ (hallInvalidFields_place hn hf).2.1

/-- A new held state is no invalid event. -/
theorem hallHeld_keepsField :
    KeepsField f s ((s.wf (Reg.hallState n) 4 3 st).wf (Reg.hallState n) 8 3 (hallSector st)) :=
  (hallState_keepsField s hn hf _ _ _).trans (hallState_keepsField _ hn hf _ _ _)

/-- A good transition is no invalid event (R99). -/
theorem hallGood_keepsField (stamp : Nat) (fwd : Bool) : KeepsField f s (s.hallGood n st stamp fwd) := by
  obtain ⟨⟨hlo, hhi⟩, -, hperiod, hedgeL, hedgeH, hcnt⟩ := hallInvalidFields_place hn hf
  have hshown : KeepsField f s ((((s.wf (Reg.hallState n) 4 3 st).wf (Reg.hallState n) 8 3 (hallSector st)).wb
      (Reg.hallState n) 12 (!fwd)).wf (Reg.hallState n) 16 2 0) :=
    ((hallHeld_keepsField s st hn hf).trans (hallState_keepsField _ hn hf 12 1 _)).trans (hallState_keepsField _ hn hf _ _ _)
  have hstamp (u : State) : KeepsField f u (u.wTill (Reg.hallEdgeTillL n) (Reg.hallEdgeTillH n) stamp) :=
    (w_keepsField u _ hedgeL).trans (w_keepsField _ _ hedgeH)
  have hcount (u : State) : KeepsField f u (u.count (Acct.hall n)) := w_keepsField u _ hcnt
  unfold hallGood
  dsimp only
  refine .trans ?_ ((hallStepDoors_sparesHalls _ n fwd).keepsField hlo hhi)
  refine .trans ?_ (hcount _)
  refine .trans ?_ (setFb_keepsField _ _)
  refine .trans ?_ (hstamp _)
  refine .trans hshown ?_
  split
  · exact w_keepsField _ _ hperiod
  · exact .refl _

/-- A skip counts in HALL_ERR.skip and sets ACC_FLT.skip: it is no invalid event (R99). -/
theorem hallSkip_keepsField : KeepsField f s
    (((s.addF (Reg.hallErr n) 16 16 1).fault (Acct.hall n) 2 Ev.hallSkip n st).hallBad n) := by
  have hapart : f.Apart ⟨Reg.hallErr n, 16, 16⟩ ∧ f.Apart ⟨Acct.hall n + 0x10, 2, 1⟩ := by
    simp only [List.mem_cons, List.not_mem_nil, or_false] at hf
    obtain rfl | rfl := hf <;> simp only [RegField.Apart, Reg.hallErr, Acct.hall] <;> omega
  exact ((wf_keepsField s _ (by decide) hapart.1).trans (fault_keepsField _ _ _ _ (by decide) hapart.2)).trans
    (hallBad_keepsField _ hn (List.mem_append_left _ hf))

end Valid

/-! The record of an invalid event (R98). -/

/-- The lines, and one more in HALL_ERR.invalid. -/
abbrev countHallInvalid (s : State) (n st : Nat) : State :=
  (s.wf (Reg.hallState n) 0 3 st).addF (Reg.hallErr n) 0 16 1

/-- The count, ACC_FLT.invalid and the event: all that an invalid event does before it counts as bad (R100). -/
abbrev recordHallInvalid (s : State) (n st : Nat) : State :=
  (s.countHallInvalid n st).fault (Acct.hall n) 1 Ev.hallInvalid n st

theorem recordHallInvalid_keepsHeld {f : RegField} (s : State) {n : Nat} (st : Nat) (hf : f ∈ hallHeldFields n) :
    KeepsField f s (s.recordHallInvalid n st) := by
  have hapart : f.Apart ⟨Reg.hallState n, 0, 3⟩ ∧ f.Apart ⟨Reg.hallErr n, 0, 16⟩ ∧
      f.Apart ⟨Acct.hall n + 0x10, 1, 1⟩ := by
    simp only [List.mem_cons, List.not_mem_nil, or_false] at hf
    obtain rfl | rfl := hf <;> simp only [RegField.Apart, Reg.hallState, Reg.hallErr, Acct.hall] <;> omega
  obtain ⟨hlines, hcount, hflag⟩ := hapart
  exact ((wf_keepsField s _ (by decide) hlines).trans (wf_keepsField _ _ (by decide) hcount)).trans
    (fault_keepsField _ _ _ _ (by decide) hflag)

section Recorded

variable {s : State} (hs : s.RegsWf) {n : Nat} (st : Nat)
include hs

theorem countHallInvalid_wf : (s.countHallInvalid n st).RegsWf := addF_wf (w_wf hs _ _) _ _ _ _

theorem recordHallInvalid_wf : (s.recordHallInvalid n st).RegsWf :=
  (recordHallInvalid_keepsHeld (f := hallLastValid n) s st List.mem_cons_self).wf hs

theorem recordHallInvalid_count :
    (s.recordHallInvalid n st).readField (hallInvalidCount n) = satN 65535 (s.readField (hallInvalidCount n) + 1) := by
  have hlines : (s.wf (Reg.hallState n) 0 3 st).readField (hallInvalidCount n) = s.readField (hallInvalidCount n) :=
    (w_keepsField s _ (by simp only [Reg.hallErr, Reg.hallState]; omega)).read hs
  have hflag : (hallInvalidCount n).Apart ⟨Acct.hall n + 0x10, 1, 1⟩ :=
    .inl (by simp only [Reg.hallErr, Acct.hall]; omega)
  calc (s.recordHallInvalid n st).readField (hallInvalidCount n)
      = (s.countHallInvalid n st).readField (hallInvalidCount n) :=
        (fault_keepsField _ _ _ _ (by decide) hflag).read (countHallInvalid_wf hs st)
    _ = satN 65535 ((s.wf (Reg.hallState n) 0 3 st).readField (hallInvalidCount n) + 1) :=
        addF_rf_same (w_wf hs _ _) _ _ (by decide)
    _ = satN 65535 (s.readField (hallInvalidCount n) + 1) := by rw [hlines]

theorem recordHallInvalid_hasFlt : (s.recordHallInvalid n st).hasFlt (Acct.hall n) 1 = true :=
  fault_hasFlt (countHallInvalid_wf hs st) _ _ _ _ (by decide)

theorem recordHallInvalid_raised (hn : n < 2) (hst : st < 8) :
    s.Raised (s.recordHallInvalid n st) Ev.hallInvalid n st := by
  have hintake : ∀ a ∈ intakeRegs, ((s.countHallInvalid n st).setFlt (Acct.hall n) 1).r a = s.r a := by
    intro a ha
    have hfar : 0x2500 ≤ a := (show ∀ x ∈ intakeRegs, 0x2500 ≤ x by decide) a ha
    calc ((s.countHallInvalid n st).setFlt (Acct.hall n) 1).r a
        = (s.countHallInvalid n st).r a := r_w_ne (countHallInvalid_wf hs st) _ (by simp only [Acct.hall]; omega)
      _ = (s.wf (Reg.hallState n) 0 3 st).r a := r_w_ne (w_wf hs _ _) _ (by simp only [Reg.hallErr]; omega)
      _ = s.r a := r_w_ne hs _ (by simp only [Reg.hallState]; omega)
  exact (post_raised _ _ _ (by omega)).after_regs rfl hintake

end Recorded

end State

open State

/-- The lines change on a channel that runs, to an invalid state (R98). -/
theorem execHallChange_invalid {n : Fin 2} {lines : BitVec 3} {s : State} (hruns : s.runs (Acct.hall n) = true)
    (hen : s.en (Acct.hall n) = true) (hnew : s.rf (Reg.hallState n) 0 3 ≠ lines.toNat)
    (hinvalid : lines.toNat = 0 ∨ lines.toNat = 7) :
    execHallChange n lines s = .next ((s.recordHallInvalid n lines.toNat).hallBad n) := by
  simp [execHallChange, hruns, hen, hnew.symm, hinvalid]

/-- To a valid state: the first one, the held one again, a neighbour of it, or a skip (R98, R99). -/
theorem execHallChange_valid {n : Fin 2} {lines : BitVec 3} {s : State} (hvalid : ¬ (lines.toNat = 0 ∨ lines.toNat = 7)) :
    ∃ t, execHallChange n lines s = .next t ∧ ∀ f ∈ hallInvalidFields n, KeepsField f s t := by
  have hlines (f) (hf : f ∈ hallInvalidFields n) : KeepsField f s (s.wf (Reg.hallState n) 0 3 lines.toNat) :=
    hallState_keepsField s n.isLt hf _ _ _
  unfold execHallChange
  dsimp only
  rw [if_neg hvalid]
  split_ifs
  · exact ⟨_, rfl, hlines⟩
  · exact ⟨_, rfl, fun f hf => (hlines f hf).trans (hallHeld_keepsField _ _ n.isLt hf)⟩
  · exact ⟨_, rfl, hlines⟩
  · exact ⟨_, rfl, fun f hf => (hlines f hf).trans (hallGood_keepsField _ _ n.isLt hf _ _)⟩
  · exact ⟨_, rfl, fun f hf => (hlines f hf).trans (hallGood_keepsField _ _ n.isLt hf _ _)⟩
  · exact ⟨_, rfl, fun f hf =>
      ((hlines f hf).trans (hallHeld_keepsField _ _ n.isLt hf)).trans (hallSkip_keepsField _ _ n.isLt hf)⟩

/-- Settles O55: an invalid state is recorded before it counts as bad, and neither the bad event with the stop it may
bring nor a valid state's record writes what tells it. -/
theorem invalidHallStates : Obligations.InvalidHallStates := by
  unfold Obligations.InvalidHallStates
  intro n lines s hinv hruns hen hnew
  obtain ⟨⟨hs, -⟩, -⟩ := hinv
  have hcases : (lines = 0 ∨ lines = 7) ↔ (lines.toNat = 0 ∨ lines.toNat = 7) := by
    simp only [BitVec.toNat_eq]
    rfl
  simp only [hcases]
  split
  case isTrue hinvalid =>
    have hkeeps (f) (hf : f ∈ hallInvalidFields n ++ hallHeldFields n) :=
      hallBad_keepsField (s.recordHallInvalid n lines.toNat) n.isLt hf
    have hwf : (s.recordHallInvalid n lines.toNat).RegsWf := recordHallInvalid_wf hs _
    have hheld (f) (hf : f ∈ hallHeldFields n) :=
      ((recordHallInvalid_keepsHeld s lines.toNat hf).trans (hkeeps f (List.mem_append_right _ hf))).read hs
    refine ⟨_, execHallChange_invalid hruns hen hnew hinvalid, ?_, ?_, ?_, hheld (hallLastValid n) (by simp),
      hheld (hallHeldSector n) (by simp)⟩
    · rw [hasFlt_hallInvalid, (hkeeps _ (by simp)).read hwf, ← hasFlt_hallInvalid]
      exact recordHallInvalid_hasFlt hs _
    · exact ((hkeeps (hallInvalidCount n) (by simp)).read hwf).trans (recordHallInvalid_count hs _)
    · exact (recordHallInvalid_raised hs _ n.isLt lines.isLt).later (hallBad_eventsKept _ _)
  case isFalse hvalid =>
    obtain ⟨t, hexec, hkeeps⟩ := execHallChange_valid (n := n) (s := s) hvalid
    refine ⟨t, hexec, ?_, (hkeeps (hallInvalidCount n) (by simp)).read hs⟩
    rw [hasFlt_hallInvalid, hasFlt_hallInvalid, (hkeeps _ (by simp)).read hs]

end Sys2Proof.Machine
end

section
/-! PROOF. The CRC-32C of R453. The model's register is reflected and takes a byte at once; the rule's register shifts to
the left and takes the byte's bits one at a time. The first equals a reflected register that takes the bits one at a time,
and that one is the mirror image of the second. -/

namespace Sys2Proof.Machine

/-- The bits of a byte in the order in which they enter (R453: reflected input). -/
def bitsLsbFirst (b : Byte) : List Bool := (List.range 8).map fun i => b.getLsbD i

/-- A bit into a CRC register that shifts to the left: one step of the remainder by `p`. -/
def crcPushLeft (p r : BitVec 32) (b : Bool) : BitVec 32 := (r <<< 1) ^^^ if r.getLsbD 31 != b then p else 0#32

/-- A bit into a reflected CRC register, which shifts to the right. -/
def crcPushRight (p c : BitVec 32) (b : Bool) : BitVec 32 := (c >>> 1) ^^^ if c.getLsbD 0 != b then p else 0#32

theorem crcShift_eq_crcPushRight (p c : BitVec 32) : crcShift p c = crcPushRight p c false := by
  unfold crcShift crcPushRight
  cases c.getLsbD 0 <;> simp

/-- Where the bit that enters is the lowest of a word already in the register, it takes that bit out, and the rest of the
word moves on. -/
theorem crcPushRight_xor (p c x : BitVec 32) :
    crcPushRight p (c ^^^ x) (x.getLsbD 0) = crcShift p c ^^^ x >>> 1 := by
  have hbit : ((c ^^^ x).getLsbD 0 != x.getLsbD 0) = (c.getLsbD 0 != false) := by simp
  rw [crcShift_eq_crcPushRight, crcPushRight, crcPushRight, hbit, BitVec.ushiftRight_xor_distrib]
  ac_rfl

/-- The lowest `n` bits of a word one at a time, against the whole word first and `n` shifts after it: the two differ by
what of the word has not entered yet. -/
theorem foldl_crcPushRight (p c x : BitVec 32) (n : Nat) :
    ((List.range n).map fun i => x.getLsbD i).foldl (crcPushRight p) c = (crcShift p)^[n] (c ^^^ x) ^^^ x >>> n := by
  induction n with
  | zero => simp
  | succ n ih =>
    have hbit : x.getLsbD n = (x >>> n).getLsbD 0 := by simp
    rw [List.range_succ, List.map_append, List.foldl_append, ih, List.map_singleton, List.foldl_cons, List.foldl_nil,
      hbit, crcPushRight_xor, ← BitVec.shiftRight_add, Function.iterate_succ_apply']

/-- Eight shifts leave nothing of a byte outside the register. -/
theorem crcByte_eq_foldl (p c : BitVec 32) (b : Byte) :
    crcByte p c b = (bitsLsbFirst b).foldl (crcPushRight p) c := by
  have hbits : bitsLsbFirst b = (List.range 8).map fun i => (b.setWidth 32).getLsbD i := by
    refine List.map_congr_left fun i hi => ?_
    have hlt := List.mem_range.mp hi
    rw [BitVec.getLsbD_setWidth, decide_eq_true (by omega), Bool.true_and]
  have hgone : b.setWidth 32 >>> 8 = 0#32 := by
    ext i
    simp
  rw [hbits, foldl_crcPushRight, hgone, BitVec.xor_zero]
  rfl

theorem foldl_crcByte (p c : BitVec 32) (bs : List Byte) :
    bs.foldl (crcByte p) c = (bs.flatMap bitsLsbFirst).foldl (crcPushRight p) c := by
  simp only [List.foldl_flatMap, ← crcByte_eq_foldl]

theorem reverse_xor {w : Nat} (x y : BitVec w) : (x ^^^ y).reverse = x.reverse ^^^ y.reverse := by
  ext i
  simp [BitVec.getElem_reverse]

theorem reverse_ushiftRight {w : Nat} (x : BitVec w) (n : Nat) : (x >>> n).reverse = x.reverse <<< n := by
  ext i hi
  simp [BitVec.getElem_reverse, BitVec.getMsbD_ushiftRight, hi]

theorem reverse_allOnes {w : Nat} : (BitVec.allOnes w).reverse = BitVec.allOnes w := by
  ext i hi
  rw [BitVec.getElem_reverse, BitVec.getMsbD_eq_getElem _ _ hi, BitVec.getElem_allOnes, BitVec.getElem_allOnes]

/-- The mirror image of a reflected register is a register that shifts to the left, by the mirrored polynomial. -/
theorem reverse_crcPushRight (p c : BitVec 32) (b : Bool) :
    (crcPushRight p c b).reverse = crcPushLeft p.reverse c.reverse b := by
  have htop : c.reverse.getLsbD 31 = c.getLsbD 0 := by
    rw [BitVec.getLsbD_reverse, BitVec.getMsbD_eq_getLsbD]
    rfl
  rw [crcPushRight, crcPushLeft, reverse_xor, reverse_ushiftRight, htop, apply_ite BitVec.reverse,
    BitVec.reverse_eq_zero_iff.mpr rfl]

theorem reverse_foldl_crcPushRight (p c : BitVec 32) (bits : List Bool) :
    (bits.foldl (crcPushRight p) c).reverse = bits.foldl (crcPushLeft p.reverse) c.reverse :=
  (List.foldl_hom BitVec.reverse fun c b => (reverse_crcPushRight p c b).symm).symm

/-- The polynomial that `crc32c` runs with is R453's, mirrored. -/
theorem reverse_crc32cPoly : (0x82F63B78#32).reverse = 0x1EDC6F41#32 := by decide +kernel

theorem crc32c_eq_crcPushLeft (bs : List Byte) :
    crc32c bs =
      ((bs.flatMap bitsLsbFirst).foldl (crcPushLeft 0x1EDC6F41#32) (BitVec.allOnes 32)).reverse ^^^ BitVec.allOnes 32 := by
  rw [← reverse_crc32cPoly, ← reverse_allOnes, ← reverse_foldl_crcPushRight, reverse_allOnes, BitVec.reverse_reverse_eq, BitVec.xor_allOnes,
    ← foldl_crcByte]
  rfl

/-- Settles O59: the model's register, a byte at a time, is the mirror image of R453's, a bit at a time. -/
theorem crc32cIsR453s : Obligations.Crc32cIsR453s := by
  unfold Obligations.Crc32cIsR453s
  exact crc32c_eq_crcPushLeft

end Sys2Proof.Machine
end
